-- ==== Sys2Proof/Word.lean ====
section
/-! DEFINITION. The widths in which the part's bits are held (spec/12_formats_and_encodings.md, spec/02_pulse_measurement.md R25). -/

namespace Sys2Proof

/-- One byte of a link, of the configuration image or of the staging buffer. -/
abbrev Byte := BitVec 8

/-- One reading of a capture counter, which wraps after 16,777,215 (R25). -/
abbrev Stamp := BitVec 24

/-- One code of the 12-bit sender converter (spec/04, section 4.1). -/
abbrev AdcCode := BitVec 12

end Sys2Proof
end

