-- ==== Sys2Proof/Syntax.lean ====
section
/-! DEFINITION. The commands: one constructor for each row of spec/opcode_table.json, in the table's order, with the operands that the row's rule needs.
The table gives no row bits or fields. -/

namespace Sys2Proof

/-- The three links, in the order of the LINKS region (Table 12-4). -/
inductive Port where
  | dlink | nlink | tlink
  deriving DecidableEq, Repr

/-- The two SPI target ports (R163). -/
inductive SpiPort where
  | dlink | nlink
  deriving DecidableEq, Repr

/-- The polarity of an edge at a pulse input (R27). -/
inductive EdgeKind where
  | rising | falling
  deriving DecidableEq, Repr

/-- The electrical level of a switch input (Table 5-1). -/
inductive Level where
  | low | high
  deriving DecidableEq, Repr

/-- The two flashers (R121). -/
inductive Flasher where
  | slow | fast
  deriving DecidableEq, Repr

/-- The bit rate that the strap selects at power-on reset (R164). -/
inductive BitRate where
  | baud19200 | baud57600
  deriving DecidableEq, Repr

/-- The commands of the KC84. -/
inductive Instr where
  /-- POWER_ON_RESET (R149), with the T-link bit rate strap as it stands (R164). -/
  | powerOnReset (strap : BitRate)
  /-- CONFIG_LOAD_COMPLETE (R183). -/
  | configLoadComplete
  /-- RESTART_LOAD_END (R149). -/
  | restartLoadEnd
  /-- AGING_TIMER_EXPIRY (R6). -/
  | agingTimerExpiry
  /-- RECLAIM_TIMER_EXPIRY (R16) of one entry. -/
  | reclaimTimerExpiry (entry : Fin 64)
  /-- DISAGREEMENT_TIMER_EXPIRY (R18) of one entry. -/
  | disagreementTimerExpiry (entry : Fin 64)
  /-- PULSE_EDGE (R28): an edge at a pulse input, with the microseconds that have passed since the channel's capture
  counter was last set or read. -/
  | pulseEdge (channel : Fin 4) (edge : EdgeKind) (elapsed : Nat)
  /-- GATE_EXPIRY (R32) of one channel, with the microseconds since its capture counter was last set or read. -/
  | gateExpiry (channel : Fin 4) (elapsed : Nat)
  /-- SCAN_TIMER_EXPIRY (R60). -/
  | scanTimerExpiry
  /-- PARKED_TIMER_EXPIRY (R75). -/
  | parkedTimerExpiry
  /-- TEST_CONVERSIONS_DONE (R62), with the codes of the zero and full-scale references. -/
  | testConversionsDone (zero full : AdcCode)
  /-- SETTLE_TIME_EXPIRY (R64). -/
  | settleTimeExpiry
  /-- CONVERSION_DONE (R64), with the code. -/
  | conversionDone (code : AdcCode)
  /-- RAW_LEVEL_CHANGE (R81) at one switch input. -/
  | rawLevelChange (input : Fin 24) (level : Level)
  /-- DEBOUNCE_TIMER_EXPIRY (R81) of one switch input. -/
  | debounceTimerExpiry (input : Fin 24)
  /-- MOTION_TIMER_EXPIRY (R95) of one gauge. -/
  | motionTimerExpiry (gauge : Fin 6)
  /-- HOMING_TIMER_EXPIRY (R97) of one gauge. -/
  | homingTimerExpiry (gauge : Fin 6)
  /-- FLASHER_PHASE_CHANGE (R121) of one flasher. -/
  | flasherPhaseChange (which : Flasher)
  /-- OPEN_CHECK_TIMER_EXPIRY (R123) of one lamp driver, with the lamp current in mA, rounded down. -/
  | openCheckTimerExpiry (telltale : Fin 40) (current : Nat)
  /-- LAMP_SHORT (R124): the current of one lamp rises above 300 mA. -/
  | lampShort (telltale : Fin 40)
  /-- RETRY_TIMER_EXPIRY (R124) of one lamp driver; `shorted` says whether the retry's turn-on finds the short. -/
  | retryTimerExpiry (telltale : Fin 40) (shorted : Bool)
  /-- CHIME_ON_TIME_EXPIRY (R130) of the playing chime. -/
  | chimeOnTimeExpiry
  /-- CHIME_OFF_TIME_EXPIRY (R130) of the playing chime. -/
  | chimeOffTimeExpiry
  /-- RECORD_AGE_TIMER_EXPIRY (R139). -/
  | recordAgeTimerExpiry
  /-- ESTIMATION_TIMER_EXPIRY (R140). -/
  | estimationTimerExpiry
  /-- BULB_CHECK_EXPIRY (R153). -/
  | bulbCheckExpiry
  /-- COMMIT_END (R188). -/
  | commitEnd
  /-- SPI_PERIOD_END (R163), with the bytes clocked in during the period. -/
  | spiPeriodEnd (port : SpiPort) (bytes : List Byte)
  /-- TLINK_BYTE_RECEIVED (R164), with whether its stop bit was good. -/
  | tlinkByteReceived (byte : Byte) (stopBit : Bool)
  /-- TLINK_GAP_TIMEOUT (R164): the line has been quiet for more than 5 ms. -/
  | tlinkGapTimeout
  /-- TLINK_REPLY_SENT (R166). -/
  | tlinkReplySent
  /-- WAIT_TIMER_EXPIRY (R173) of the frame held on one port. -/
  | waitTimerExpiry (port : Port)
  /-- LINK_TIMER_EXPIRY (R174) of one port. -/
  | linkTimerExpiry (port : Port)
  /-- CHIP_SELECT_ACTIVE (R163) of one SPI port. -/
  | chipSelectActive (port : SpiPort)
  deriving DecidableEq, Repr

/-- The link of an SPI port. -/
def SpiPort.toPort : SpiPort → Port
  | .dlink => .dlink
  | .nlink => .nlink

end Sys2Proof
end

