-- ==== Sys2Proof/Config.lean ====
section
/-! DEFINITION. What the spec leaves open, as constants without a body: nothing in Lean can evaluate one or prove a value of it.
Each is named in the assumption log. -/

namespace Sys2Proof.Config

/-- The sweep enable that a gauge record's byte other than 0 and 1 stands for (Table 12-6 gives one byte and no codes). Log 13. -/
opaque sweepEnableOf : Byte → Bool

/-- The lost-time byte (100 ms units) that CONFIG shows for a lost time, in ms, that R1 raised to a stale time that is no
multiple of 100 ms. Log 14. -/
opaque lostTimeReadback : Nat → Byte

/-- Whether a chip-select period in which no byte was clocked carries a frame of status BAD_LENGTH (R163 judges a period
from its first byte). Log 15. -/
opaque emptyPeriodIsBadLength : Bool

/-- Whether the third byte of a period whose first byte is neither 0x00 nor the opening code counts as the sequence byte
that a bad frame's reply echoes (R163, R165). Log 16. -/
opaque wrongOpeningEchoesSequence : Bool

/-- Whether a T-link frame that began while another frame was in execution, and ends after that execution, is discarded as
BUSY (R166). Log 17. -/
opaque busyFromOpening : Bool

/-- Whether an opening code received with a stop-bit error opens a frame, which then ends with BAD_CHECK (R164). Log 18. -/
opaque framingErrorOpens : Bool

end Sys2Proof.Config
end

