-- ==== Sys2Proof/Machine/Settings.lean ====
section
/-! DEFINITION. The named codes of the part and the settings that the configuration image carries, as plain data. -/

namespace Sys2Proof.Machine

/-! ## Named codes (spec/12_formats_and_encodings.md, Table 12-8) -/

/-- A source code (spec/00_scope.md, 3.5). -/
inductive Source where
  | none
  | pulse (channel : Fin 4)
  | analog (input : Fin 16)
  | switch (input : Fin 24)
  | link (port : Port)
  deriving DecidableEq, Repr

/-- Signal slot states (Table 1-3). -/
inductive SlotState where
  | empty | live | stale | lost | fault
  deriving DecidableEq, Repr

/-- Effective states (Table 1-4). -/
inductive EffState where
  | none | live | stale | lost | fault
  deriving DecidableEq, Repr

/-- Effective sources (Table 1-4). -/
inductive EffSource where
  | primary | alternate | substitute
  deriving DecidableEq, Repr

/-- Fault causes (Table 1-2). -/
inductive FaultCause where
  | none | shortLow | openHigh | curve | testFail | noise | port
  deriving DecidableEq, Repr

/-- Kinds of signal entry (Table 1-1). -/
inductive EntryKind where
  | value | boolean
  deriving DecidableEq, Repr

/-- Substitute policies (Table 1-1). -/
inductive Policy where
  | hold | default
  deriving DecidableEq, Repr

/-- Result kinds of a pulse channel (Table 2-2). -/
inductive ResultKind where
  | speed | rotation | frequency
  deriving DecidableEq, Repr

/-- Edge selections (Table 2-1). -/
inductive EdgeSelect where
  | rising | falling | both
  deriving DecidableEq, Repr

/-- Sender excitations (Table 4-1). -/
inductive Excitation where
  | none | source1mA | pullup
  deriving DecidableEq, Repr

/-- Supply states (Table 4-5). -/
inductive Supply where
  | normal | low | high
  deriving DecidableEq, Repr

/-- Telltale patterns (spec/07, 7.1). -/
inductive Pattern where
  | off | on | slow | fast | follow
  deriving DecidableEq, Repr

/-- Tests of a SIGNAL claim (Table 7-2). -/
inductive Test where
  | above | below | equal | notLive | fault | disagree
  deriving DecidableEq, Repr

/-- Renders (Table 7-1). -/
inductive Render where
  | lamp | screen
  deriving DecidableEq, Repr

/-- Telltale classes (Table 7-1). -/
inductive LampClass where
  | mandatory | standard | info
  deriving DecidableEq, Repr

/-- Colour groups (Table 7-1). -/
inductive Colour where
  | red | amber | other
  deriving DecidableEq, Repr

/-- Driver faults (Table 7-3). -/
inductive DriverFault where
  | ok | openLoad | short | latched
  deriving DecidableEq, Repr

/-- Chime states (Table 7-6). -/
inductive ChimeState where
  | quiet | waiting | playing | served
  deriving DecidableEq, Repr

/-- The part of a playing chime's repetition (R130). -/
inductive ChimePhase where
  | none | onTime | offTime
  deriving DecidableEq, Repr

/-- Gauge states (Table 6-4). -/
inductive GaugeState where
  | unhomed | homing | sweep | tracking | parking | parked | held
  deriving DecidableEq, Repr

/-- Sweep legs (Table 6-2). -/
inductive SweepLeg where
  | none | out | back
  deriving DecidableEq, Repr

/-- Driver activities (Table 8-1). -/
inductive Activity where
  | rest | available | work | drive | unknown | absent
  deriving DecidableEq, Repr

/-- Driver card states (Table 8-1). -/
inductive Card where
  | absent | present | fault
  deriving DecidableEq, Repr

/-- Tachograph warnings (Table 8-1). -/
inductive Warning where
  | overspeed | cardMissing | driveLimit | powerInterrupt | sensorFault | other
  deriving DecidableEq, Repr

/-- Readout states (Table 8-2). -/
inductive ReadoutState where
  | none | current | estimated | lost
  deriving DecidableEq, Repr

/-- Odometer states (Table 3-2). -/
inductive OdoState where
  | unknown | seeded | tracked
  deriving DecidableEq, Repr

/-- Cycle states (Table 9-1). -/
inductive CycleState where
  | load | parked | starting | run | stopping
  deriving DecidableEq, Repr

/-- Link states (R174). -/
inductive LinkState where
  | down | up | lost
  deriving DecidableEq, Repr

/-- Store states (spec/11, 11.1). -/
inductive StoreState where
  | loading | loaded | defaults | committing
  deriving DecidableEq, Repr

/-- The controller conditions, in the order of Table 3 of the introduction. -/
inductive Condition where
  | configDefaults | adcTestFail | supplyLow | supplyHigh | linkLostD | linkLostN | linkLostT
  | tachoPrewarn | tachoLimit | tachoStale | tachoCardDriving | tachoWarning | odoMismatch | telltaleFailed
  deriving DecidableEq, Repr

/-- The thirteen regions (R168). -/
inductive Region where
  | directory | signals | signalDetail | telltales | chimes | gauges | tacho | distance | watch | links
  | cycleState | config | control
  deriving DecidableEq, Repr

/-- Outcomes of a request (Table 10-1). -/
inductive RequestOutcome where
  | ok | okClamped | short | timeout | noKind | noRegion | range | rights | notSource | state | length
  deriving DecidableEq, Repr

/-- Frame statuses (Table 12-7). -/
inductive FrameStatus where
  | ok | badCheck | badLength
  deriving DecidableEq, Repr

/-- The events a WAIT can name (R173). -/
inductive WaitEvent where
  | change | tachoRecord | cycle | gate0
  deriving DecidableEq, Repr

/-- The two wake causes (R159). -/
inductive WakeCause where
  | switch | parkedWindow
  deriving DecidableEq, Repr

/-- A timer: stopped, or running with its period in ms. The time that has passed is the surroundings' (log 1). -/
inductive Timer where
  | stopped
  | running (periodMs : Nat)
  deriving DecidableEq, Repr

/-! ## Settings -/

/-- A signal descriptor (Table 1-1); times in ms. -/
structure Descriptor where
  kind : EntryKind
  policy : Policy
  primary : Source
  alternate : Source
  min : Int
  max : Int
  default : Int
  staleMs : Nat
  lostMs : Nat
  notifyDelta : Nat
  partner : Option (Fin 64)
  tolerance : Nat
  persistenceMs : Nat
  deriving DecidableEq, Repr

/-- A claim source (Table 7-2). A PORT claim has no pattern of its own, and a chime's claims use none (R110). -/
inductive Claim where
  | absent
  | signal (entry : Fin 64) (test : Test) (threshold : Int) (hysteresis : Nat) (pattern : Pattern)
  | switch (input : Fin 24) (pattern : Pattern)
  | port (port : Port)
  | condition (condition : Condition) (pattern : Pattern)
  deriving DecidableEq, Repr

/-- A telltale descriptor (Table 7-1). -/
structure TelltaleDesc where
  render : Render
  lampClass : LampClass
  colour : Colour
  proveOut : Bool
  parkedActive : Bool
  claims : Vector Claim 4
  deriving DecidableEq, Repr

/-- Chime settings (Table 7-5); times in ms. -/
structure ChimeDesc where
  toneHz : Nat
  onMs : Nat
  offMs : Nat
  repetitions : Nat
  priority : Nat
  claims : Vector Claim 2
  deriving DecidableEq, Repr

/-- Pulse channel settings (Table 2-1); spacing in µs, times in ms. -/
structure PulseSettings where
  kind : ResultKind
  edges : EdgeSelect
  scale : Nat
  spacingUs : Nat
  gateMs : Nat
  zeroTimeoutMs : Nat
  creep : Nat
  deriving DecidableEq, Repr

/-- Scan slot settings (Table 4-1). -/
structure ScanSlot where
  channel : Fin 16
  excitation : Excitation
  settleUs : Nat
  averaging : Nat
  lower : Nat
  upper : Nat
  checked : Bool
  curve : Fin 16
  shift : Nat
  refuelThreshold : Nat
  fastSettle : Bool
  parked : Bool
  deriving DecidableEq, Repr

/-- One point of a curve: raw code or entry value, and the value or position it stands for. -/
structure CurvePoint where
  x : Int
  y : Int
  deriving DecidableEq, Repr

/-- Gauge settings (Table 6-1). -/
structure GaugeDesc where
  entry : Fin 64
  points : List CurvePoint
  fullScale : Nat
  park : Nat
  holdOnLoss : Bool
  deadband : Nat
  vmax : Nat
  accel : Nat
  homingSpeed : Nat
  sweepEnable : Bool
  deriving DecidableEq, Repr

/-- Switch bank settings (Table 5-1); `activeHigh` of pair p. -/
structure SwitchSettings where
  activeHigh : Vector Bool 12
  debounceMs : Vector Nat 24
  wake : Vector Bool 24
  deriving DecidableEq, Repr

/-- Block 236: scan and parked periods, bulb-check window and link timeouts (Table 12-6), in ms and s. -/
structure TimingSettings where
  scanMs : Nat
  parkedS : Nat
  bulbMs : Nat
  timeoutD : Nat
  timeoutN : Nat
  timeoutT : Nat
  deriving DecidableEq, Repr

/-- The readout settings of block 237 (Table 8-3). -/
structure ReadoutSettings where
  staleS : Nat
  motion : Nat
  prewarn : Nat
  limit : Nat
  deriving DecidableEq, Repr

/-- A configuration: everything Table 11-1 maps. -/
structure Configuration where
  descriptors : Vector Descriptor 64
  telltales : Vector TelltaleDesc 40
  chimes : Vector ChimeDesc 8
  pulse : Vector PulseSettings 4
  scanList : List ScanSlot
  curves : Vector (List CurvePoint) 16
  gauges : Vector GaugeDesc 6
  switches : SwitchSettings
  timing : TimingSettings
  readout : ReadoutSettings
  odoTolerance : Nat
  label : List Byte
  crc : BitVec 16
  deriving DecidableEq, Repr

/-- The converter's settings in use (Table 4-2): the run scan list, and the curves with their marks. -/
structure ConverterSettings where
  scanMs : Nat
  parkedS : Nat
  slots : List ScanSlot
  curves : Vector (List CurvePoint) 16
  curveValid : Vector Bool 16
  deriving DecidableEq, Repr

/-- A gauge's settings in use, with its curve mark (R88). -/
structure GaugeSettings where
  desc : GaugeDesc
  curveValid : Bool
  deriving DecidableEq, Repr

/-- The telltale unit's settings in use (R110). -/
structure LampSettings where
  telltales : Vector TelltaleDesc 40
  chimes : Vector ChimeDesc 8
  deriving DecidableEq, Repr

end Sys2Proof.Machine
end

