-- ==== Sys2Proof/Machine/State.lean ====
section
/-! DEFINITION. The state of the KC84 as plain data, its value after power-on reset, and the reasons a step could stop.
INVENTORY.md lists every field with the rule that names it. -/

namespace Sys2Proof.Machine

/-! ## Signal table (spec/01) -/

/-- One signal slot (Table 1-2). -/
structure Slot where
  value : Int
  state : SlotState
  age : Nat
  clamped : Bool
  cause : FaultCause
  deriving DecidableEq, Repr

/-- The effective view of an entry (Table 1-4), less the DISAGREE mark, which the entry holds. -/
structure View where
  value : Int
  state : EffState
  source : EffSource
  clamped : Bool
  deriving DecidableEq, Repr

/-- The disagreement timer of an entry (spec/01, 1.5). -/
inductive DisagreeTimer where
  | idle
  | running (persistenceMs : Nat)
  | expired
  deriving DecidableEq, Repr

/-- One entry of the signal table. -/
structure Entry where
  desc : Descriptor
  primary : Slot
  alternate : Slot
  view : View
  disagree : Bool
  reclaim : Timer
  disagreement : DisagreeTimer
  reference : Int
  deriving DecidableEq, Repr

/-! ## Pulse unit and distance counter (spec/02, spec/03) -/

/-- One pulse channel (spec/02, 2.1). -/
structure PulseChannel where
  settings : Option PulseSettings
  counter : Stamp
  gate : Timer
  n : Nat
  tFirst : Option Stamp
  tLast : Option Stamp
  rejected : Nat
  tPrev : Option Stamp
  spacingRef : Option Stamp
  current : Nat
  takeOver : Bool
  deriving DecidableEq, Repr

/-- The distance counter (Table 3-1). -/
structure Distance where
  residue : Nat
  parityOdd : Bool
  stepSize : Nat
  ldc : Nat
  tripA : Nat
  tripB : Nat
  odo : Nat
  odoState : OdoState
  mismatch : Bool
  tolerance : Nat
  deriving DecidableEq, Repr

/-! ## Sender converter and switch bank (spec/04, spec/05) -/

/-- What a pass is doing (R62, R64): its test conversions, a settle wait, or conversions of which the first is discarded
and `taken` have been added up. -/
inductive PassStage where
  | testing
  | settling
  | converting (discarded : Bool) (sum taken : Nat)
  deriving DecidableEq, Repr

/-- The pass in flight: its kind and the scan slots it still has to take, the present one first, each by its position in
the run scan list. -/
structure Pass where
  parked : Bool
  todo : List (Fin 16)
  stage : PassStage
  deriving DecidableEq, Repr

/-- What a scan slot holds (spec/04, 4.1). -/
structure ScanState where
  y : Int
  seed : Bool
  refuel : Nat
  deriving DecidableEq, Repr

/-- The sender converter (spec/04, 4.1). -/
structure Converter where
  settings : Option ConverterSettings
  scanTimer : Timer
  parkedTimer : Timer
  pass : Option Pass
  slots : Vector ScanState 16
  supply : Supply
  lowCount : Nat
  overruns : Nat
  takeOver : Bool
  deriving DecidableEq, Repr

/-- One switch input (Table 5-1). -/
structure SwitchInput where
  raw : Level
  debounce : Timer
  accepted : Option Level
  deriving DecidableEq, Repr

/-- The switch bank. -/
structure SwitchBank where
  settings : Option SwitchSettings
  inputs : Vector SwitchInput 24
  deriving DecidableEq, Repr

/-! ## Gauges, telltales and chimes (spec/06, spec/07) -/

/-- One gauge (Table 6-2). -/
structure Gauge where
  settings : Option GaugeSettings
  state : GaugeState
  remembered : Option GaugeState
  position : Int
  fraction : Nat
  velocity : Int
  target : Int
  leg : SweepLeg
  homingCount : Nat
  deriving DecidableEq, Repr

/-- The pattern each port last wrote for a telltale (R115). -/
structure PortPatterns where
  dlink : Pattern
  nlink : Pattern
  tlink : Pattern
  deriving DecidableEq, Repr

/-- One telltale (spec/07, 7.1). -/
structure Telltale where
  latches : Vector Bool 4
  patterns : PortPatterns
  resolved : Pattern
  shown : Pattern
  output : Bool
  fault : DriverFault
  retries : Nat
  openCheck : Timer
  retryTimer : Timer
  failed : Bool
  deriving DecidableEq, Repr

/-- The claim each port last wrote for a chime (R115). -/
structure PortClaims where
  dlink : Bool
  nlink : Bool
  tlink : Bool
  deriving DecidableEq, Repr

/-- One chime channel (spec/07, 7.8). -/
structure Chime where
  latches : Vector Bool 2
  portClaims : PortClaims
  served : Bool
  state : ChimeState
  count : Nat
  phase : ChimePhase
  deriving DecidableEq, Repr

/-- The built-in claims of TT0 and TT1 (R118, R119). -/
structure BuiltInClaims where
  stop : Bool
  check : Bool
  failed : Bool
  fallback0 : Bool
  fallback1 : Bool
  deriving DecidableEq, Repr

/-- The telltale unit. -/
structure TelltaleUnit where
  settings : Option LampSettings
  slowOn : Bool
  fastOn : Bool
  builtIn : BuiltInClaims
  telltales : Vector Telltale 40
  chimes : Vector Chime 8
  deriving DecidableEq, Repr

/-! ## Tachograph readout and cycle controller (spec/08, spec/09) -/

/-- A record as validated (Table 8-1). -/
structure TachoRecord where
  driver1 : Activity
  driver2 : Activity
  card1 : Card
  card2 : Card
  continuous : Nat
  currentBreak : Nat
  daily : Nat
  weekly : Nat
  speed : Nat
  odometer : Nat
  localTime : Option Nat
  warnings : List Warning
  deriving DecidableEq, Repr

/-- The tachograph readout unit (spec/08, 8.1). -/
structure Readout where
  settings : Option ReadoutSettings
  record : Option TachoRecord
  age : Nat
  ageTimer : Timer
  state : ReadoutState
  continuous : Nat
  daily : Nat
  remaining : Nat
  estimation : Timer
  drivingSeconds : Nat
  estimationTime : Nat
  deriving DecidableEq, Repr

/-- The cycle controller (spec/09, 9.1). -/
structure CycleController where
  state : CycleState
  ignition : Bool
  window : Timer
  windowLength : Nat
  commitInFlight : Bool
  restartPending : Bool
  causeSwitch : Bool
  causeWindow : Bool
  deriving DecidableEq, Repr

/-! ## Link interface and configuration store (spec/10, spec/11) -/

/-- A request as the body divides into it (R167); `faulty` is the structure fault that ends a division. -/
inductive Request where
  | read (region : Nat) (index count : Nat)
  | write (region : Region) (index count : Nat) (data : List Byte)
  | wait (index count : Nat)
  | changes (count : Nat)
  | faulty (outcome : RequestOutcome)
  deriving DecidableEq, Repr

/-- A frame in execution (R165 to R167, R170, R173). `hold` is the event and the WAIT timer of a held frame; `commit` says
that a request of the frame has begun a commit, whose programming waits for the frame's last request (R187). -/
structure FrameExec where
  sequence : Byte
  rest : List Request
  results : List Byte
  room : Nat
  hold : Option (WaitEvent × Timer)
  commit : Bool
  deriving DecidableEq, Repr

/-- The chip-select period of an SPI port (R163, R178): none, open with the reply that goes out in it, open with none, or open across a
reset, whose bytes are discarded (R180). -/
inductive Period where
  | idle
  | openOffering (reply : List Byte)
  | openEmpty
  | discarded
  deriving DecidableEq, Repr

/-- The T-link receiver (R164): waiting for the opening code, in a frame with its bytes so far and whether it began while
a frame was in execution, or ignoring bytes until the line is quiet. -/
inductive Receiver where
  | waiting
  | inFrame (bytes : List Byte) (beganBusy : Bool)
  | ignoring
  deriving DecidableEq, Repr

/-- The five 16-bit counters of a port (R179). -/
structure Counters where
  good : BitVec 16
  badCheck : BitVec 16
  badLength : BitVec 16
  busy : BitVec 16
  refused : BitVec 16
  deriving DecidableEq, Repr

/-- One port of the link interface (spec/10). `reply` is the reply that is ready and has not begun to go out; the one that goes out stands in
the period (log 20). -/
structure PortState where
  link : LinkState
  linkTimer : Timer
  timeout : Nat
  period : Period
  receiver : Receiver
  exec : Option FrameExec
  reply : Option (List Byte)
  cursors : Vector Nat 13
  watch : Vector Bool 113
  changes : List (Fin 113)
  counters : Counters
  deriving DecidableEq, Repr

/-- The three ports and the T-link's bit rate. -/
structure LinkInterface where
  dlink : PortState
  nlink : PortState
  tlink : PortState
  bitRate : BitRate
  deriving DecidableEq, Repr

/-- The configuration store (spec/11, 11.1). The image and the staging buffer are sorted lists of cells. -/
structure ConfigStore where
  image : List Host.Cell
  staging : List Host.Cell
  inForce : Option Configuration
  state : StoreState
  programming : Bool
  senderMarks : Vector Bool 16
  gaugeMarks : Vector Bool 6
  deriving DecidableEq, Repr

/-! ## The whole -/

/-- The state of the part, and the queue of commands that are waiting, the front first. -/
structure State where
  signals : Vector Entry 64
  pulse : Vector PulseChannel 4
  dist : Distance
  conv : Converter
  switches : SwitchBank
  gauges : Vector Gauge 6
  lamps : TelltaleUnit
  tacho : Readout
  cycle : CycleController
  ports : LinkInterface
  store : ConfigStore
  conditions : Vector Bool 14
  pending : List Instr
  deriving DecidableEq, Repr

/-- The faults of a step. No rule of the spec stops the part, so no meaning raises one; the type is here for the host's
interface. Raising it would be safe: a stopped model claims nothing of what follows. -/
inductive Fault where
  /-- Raised by nothing. -/
  | none
  deriving DecidableEq, Repr

/-- The refusals of a step. -/
inductive Refusal where
  /-- Raised by `exec` for a command that has no meaning yet. Safe: nothing is claimed of what the command does. -/
  | notModelled (mnemonic : String)
  deriving DecidableEq, Repr

/-! ## Reset (R22, R44, R58, R79, R87, R109, R134, R148, R149, R180, R189) -/

/-- A slot as R22 leaves it. -/
def Slot.reset : Slot := { value := 0, state := .empty, age := 0, clamped := false, cause := .none }

/-- The descriptor an entry holds before the first configuration load. DESIGN CHOICE, log 8. -/
def Descriptor.unallocated : Descriptor where
  kind := .value
  policy := .hold
  primary := .none
  alternate := .none
  min := -32768
  max := 32767
  default := 0
  staleMs := 0
  lostMs := 0
  notifyDelta := 0
  partner := none
  tolerance := 0
  persistenceMs := 0

/-- An entry emptied under a descriptor: the values R22 sets at the end of the load, R23 at a restart and R24 at a commit. -/
def Entry.emptied (d : Descriptor) : Entry where
  desc := d
  primary := .reset
  alternate := .reset
  view := { value := d.default, state := .none, source := .substitute, clamped := false }
  disagree := false
  reclaim := .stopped
  disagreement := .idle
  reference := d.default

/-- A pulse channel as R44 leaves it. R44 gives its settings in use no value before the first gate start; here it holds none: DESIGN CHOICE,
log 8. -/
def PulseChannel.reset : PulseChannel where
  settings := none
  counter := 0
  gate := .stopped
  n := 0
  tFirst := none
  tLast := none
  rejected := 0
  tPrev := none
  spacingRef := none
  current := 0
  takeOver := false

/-- The distance counter at power-on reset (R58). Step size and tolerance: DESIGN CHOICE, log 8. -/
def Distance.reset : Distance where
  residue := 0
  parityOdd := false
  stepSize := 0
  ldc := 0
  tripA := 0
  tripB := 0
  odo := 0
  odoState := .unknown
  mismatch := false
  tolerance := 0

/-- A scan slot as R79 leaves it. -/
def ScanState.reset : ScanState := { y := 0, seed := true, refuel := 0 }

/-- The converter as R79 leaves it. -/
def Converter.reset : Converter where
  settings := none
  scanTimer := .stopped
  parkedTimer := .stopped
  pass := none
  slots := .replicate 16 .reset
  supply := .normal
  lowCount := 0
  overruns := 0
  takeOver := false

/-- A gauge as R109 leaves it. P is "undefined, and read as 0". -/
def Gauge.reset : Gauge where
  settings := none
  state := .unhomed
  remembered := none
  position := 0
  fraction := 0
  velocity := 0
  target := 0
  leg := .none
  homingCount := 0

/-- A telltale as R134 leaves it. -/
def Telltale.reset : Telltale where
  latches := .replicate 4 false
  patterns := { dlink := .off, nlink := .off, tlink := .off }
  resolved := .off
  shown := .off
  output := false
  fault := .ok
  retries := 0
  openCheck := .stopped
  retryTimer := .stopped
  failed := false

/-- A chime as R134 leaves it. -/
def Chime.reset : Chime where
  latches := .replicate 2 false
  portClaims := { dlink := false, nlink := false, tlink := false }
  served := false
  state := .quiet
  count := 0
  phase := .none

/-- The telltale unit as R134 leaves it, with the flashers' phases given (a restart leaves them running). -/
def TelltaleUnit.reset (slowOn fastOn : Bool) : TelltaleUnit where
  settings := none
  slowOn := slowOn
  fastOn := fastOn
  builtIn := { stop := false, check := false, failed := false, fallback0 := false, fallback1 := false }
  telltales := .replicate 40 .reset
  chimes := .replicate 8 .reset

/-- The readout as R148 leaves it. -/
def Readout.reset : Readout where
  settings := none
  record := none
  age := 0
  ageTimer := .stopped
  state := .none
  continuous := 0
  daily := 0
  remaining := 0
  estimation := .stopped
  drivingSeconds := 0
  estimationTime := 0

/-- The cycle controller as R149 leaves it, with the window length given (a restart keeps it). -/
def CycleController.reset (windowLength : Nat) : CycleController where
  state := .load
  ignition := false
  window := .stopped
  windowLength := windowLength
  commitInFlight := false
  restartPending := false
  causeSwitch := false
  causeWindow := false

/-- A chip-select period after a reset: one that was open is discarded (R180). -/
def Period.afterReset : Period → Period
  | .idle => .idle
  | .openOffering _ | .openEmpty | .discarded => .discarded

/-- A port as R180 leaves it, with its timeout given (a restart keeps it) and its chip-select period. The T-link receiver waits for an opening
code at once, also among the bytes still to come of a frame that the reset has discarded: DESIGN CHOICE, log 48. -/
def PortState.reset (timeout : Nat) (period : Period) : PortState where
  link := .down
  linkTimer := .stopped
  timeout := timeout
  period := period
  receiver := .waiting
  exec := none
  reply := none
  cursors := .replicate 13 0
  watch := .replicate 113 false
  changes := []
  counters := { good := 0, badCheck := 0, badLength := 0, busy := 0, refused := 0 }

/-- The store at power-on reset with the image given (R183, R189). Staging before the load: DESIGN CHOICE, log 6; marks: log 8. -/
def ConfigStore.reset (image : List Host.Cell) : ConfigStore where
  image := image
  staging := []
  inForce := none
  state := .loading
  programming := false
  senderMarks := .replicate 16 false
  gaugeMarks := .replicate 6 false

/-- A switch input after a reset (R87): the pin keeps its level. -/
def SwitchInput.reset (raw : Level) : SwitchInput := { raw := raw, debounce := .stopped, accepted := none }

/-- The machine right after power-on reset: an erased image (log 6), every pin low and the 19,200 bit/s strap (log 7). -/
def State.reset : State where
  signals := .replicate 64 (.emptied .unallocated)
  pulse := .replicate 4 .reset
  dist := .reset
  conv := .reset
  switches := { settings := none, inputs := .replicate 24 (.reset .low) }
  gauges := .replicate 6 .reset
  lamps := .reset true true
  tacho := .reset
  cycle := .reset 0
  ports := { dlink := .reset 0 .idle, nlink := .reset 0 .idle, tlink := .reset 0 .idle, bitRate := .baud19200 }
  store := .reset []
  conditions := .replicate 14 false
  pending := []

/-! ## One block replaced -/

/-- `s` with another block in one place; the lemmas of Laws/State.lean say that the others stay. -/
def State.setSignals (s : State) (x : Vector Entry 64) : State := { s with signals := x }
/-- See `State.setSignals`. -/
def State.setPulse (s : State) (x : Vector PulseChannel 4) : State := { s with pulse := x }
/-- See `State.setSignals`. -/
def State.setDist (s : State) (x : Distance) : State := { s with dist := x }
/-- See `State.setSignals`. -/
def State.setConv (s : State) (x : Converter) : State := { s with conv := x }
/-- See `State.setSignals`. -/
def State.setSwitches (s : State) (x : SwitchBank) : State := { s with switches := x }
/-- See `State.setSignals`. -/
def State.setGauges (s : State) (x : Vector Gauge 6) : State := { s with gauges := x }
/-- See `State.setSignals`. -/
def State.setLamps (s : State) (x : TelltaleUnit) : State := { s with lamps := x }
/-- See `State.setSignals`. -/
def State.setTacho (s : State) (x : Readout) : State := { s with tacho := x }
/-- See `State.setSignals`. -/
def State.setCycle (s : State) (x : CycleController) : State := { s with cycle := x }
/-- See `State.setSignals`. -/
def State.setPorts (s : State) (x : LinkInterface) : State := { s with ports := x }
/-- See `State.setSignals`. -/
def State.setStore (s : State) (x : ConfigStore) : State := { s with store := x }
/-- See `State.setSignals`. -/
def State.setConditions (s : State) (x : Vector Bool 14) : State := { s with conditions := x }
/-- See `State.setSignals`. -/
def State.setPending (s : State) (x : List Instr) : State := { s with pending := x }

end Sys2Proof.Machine
end

