-- ==== Sys2Proof/Machine/Memory.lean ====
section
/-! DEFINITION. The configuration image and the staging buffer as sorted lists of cells (spec/11, 11.1).
The canonical form has addresses strictly rising and no cell that holds what an unlisted address reads as. -/

namespace Sys2Proof.Machine

/-- The 3,840 bytes of the image or of the staging buffer. -/
abbrev Memory := List Host.Cell

/-- What an address without a cell reads as: the erased byte (Table 12-6). DESIGN CHOICE, log 6. -/
def Memory.unlisted : Byte := 0xFF

/-- The byte at an address. -/
def Memory.read : Memory → Nat → Byte
  | [], _ => Memory.unlisted
  | (b, v) :: m, a => if b = a then v else Memory.read m a

/-- One byte written, in canonical form. -/
def Memory.write : Memory → Nat → Byte → Memory
  | [], a, v => if v = Memory.unlisted then [] else [(a, v)]
  | (b, w) :: m, a, v =>
    if a < b then (if v = Memory.unlisted then (b, w) :: m else (a, v) :: (b, w) :: m)
    else if a = b then (if v = Memory.unlisted then m else (a, v) :: m)
    else (b, w) :: Memory.write m a v

/-- Consecutive bytes written from an address upward. -/
def Memory.writeBytes : Memory → Nat → List Byte → Memory
  | m, _, [] => m
  | m, a, b :: bs => Memory.writeBytes (m.write a b) (a + 1) bs

/-- The memory that holds the bytes from an address upward, and the erased byte elsewhere. -/
def Memory.ofBytesFrom : Nat → List Byte → Memory
  | _, [] => []
  | a, b :: bs =>
    if b = Memory.unlisted then Memory.ofBytesFrom (a + 1) bs else (a, b) :: Memory.ofBytesFrom (a + 1) bs

/-- The memory that holds the bytes from address 0. -/
def Memory.ofBytes (bs : List Byte) : Memory := Memory.ofBytesFrom 0 bs

/-- `n` bytes from address `a` upward. -/
def Memory.slice (m : Memory) (a n : Nat) : List Byte := (List.range n).map fun k => m.read (a + k)

/-- The canonical form. -/
abbrev Memory.wf (m : Memory) : Prop :=
  m.Pairwise (fun c d => c.1 < d.1) ∧ ∀ c ∈ m, c.2 ≠ Memory.unlisted

/-- The bytes of one block (Table 11-1). -/
def Memory.block (m : Memory) (i : Nat) : List Byte := m.slice (16 * i) 16

/-- One block replaced. -/
def Memory.writeBlock (m : Memory) (i : Nat) (bs : List Byte) : Memory := m.writeBytes (16 * i) bs

/-- Block 239 erased (R187). -/
def Memory.eraseLastBlock (m : Memory) : Memory := m.writeBlock 239 (List.replicate 16 0xFF)

end Sys2Proof.Machine
end

