-- ==== Sys2Proof/Machine/Operands.lean ====
section
/-! DEFINITION. How bytes spell operands: byte order, signed fields, the CRC, and the code tables (spec/12). -/

namespace Sys2Proof.Machine

/-! ## Bytes and words (spec/00, 3.2) -/

/-- The byte at an offset of a record, as a number; 0 past its end. -/
def byteAt (r : List Byte) (i : Nat) : Nat := (r.getD i 0).toNat

/-- The 16-bit field at an offset, most significant byte first. -/
def wordAt (r : List Byte) (i : Nat) : Nat := byteAt r i * 256 + byteAt r (i + 1)

/-- The 32-bit field at an offset, most significant byte first. -/
def longAt (r : List Byte) (i : Nat) : Nat := wordAt r i * 65536 + wordAt r (i + 2)

/-- A 16-bit number read as two's complement. -/
def signed16 (n : Nat) : Int := if n < 32768 then (n : Int) else (n : Int) - 65536

/-- The signed 16-bit field at an offset. -/
def signedAt (r : List Byte) (i : Nat) : Int := signed16 (wordAt r i)

/-- One byte. -/
def byte (n : Nat) : Byte := BitVec.ofNat 8 n

/-- A 16-bit field, most significant byte first. -/
def word (n : Nat) : List Byte := [byte (n / 256), byte n]

/-- A 32-bit field, most significant byte first. -/
def long (n : Nat) : List Byte := word (n / 65536) ++ word (n % 65536)

/-- A signed 16-bit field. -/
def signedWord (v : Int) : List Byte := word (v % 65536).toNat

/-- Bit `k` of a flags byte. -/
def flagBit (b : Bool) (k : Nat) : Nat := if b then 2 ^ k else 0

/-- Bit `k` of a number. -/
def bitOf (n k : Nat) : Bool := n / 2 ^ k % 2 == 1

/-- A number below `n`, if it is one. -/
def finOf (n x : Nat) : Option (Fin n) := if h : x < n then some ⟨x, h⟩ else none

/-- A number brought into a range. -/
def clampNat (lo hi x : Nat) : Nat := max lo (min hi x)

/-- A signed number brought into a range. -/
def clampInt (lo hi x : Int) : Int := if x < lo then lo else if hi < x then hi else x

/-! ## CRC (R182, R190) -/

/-- One shift of the CRC register. -/
def crcShift (r : BitVec 16) : BitVec 16 := if r.msb then (r <<< 1) ^^^ 0x1021#16 else r <<< 1

/-- One byte taken into the CRC register. -/
def crcByte (r : BitVec 16) (b : Byte) : BitVec 16 :=
  (List.range 8).foldl (fun r _ => crcShift r) (r ^^^ (b.setWidth 16 <<< 8))

/-- The CRC of a string of bytes. -/
def crc16 (bs : List Byte) : BitVec 16 := bs.foldl crcByte 0xFFFF#16

/-! ## Code tables (Tables 12-7 and 12-8) -/

/-- The code of a port as a source (DLINK 45, NLINK 46, TLINK 47). -/
def Port.sourceCode : Port → Nat
  | .dlink => 45 | .nlink => 46 | .tlink => 47

/-- The port of a source code. -/
def portOfSource : Nat → Option Port
  | 45 => some .dlink | 46 => some .nlink | 47 => some .tlink | _ => none

/-- Source codes. -/
def Source.code : Source → Nat
  | .none => 0
  | .pulse c => 1 + c
  | .analog a => 5 + a
  | .switch i => 21 + i
  | .link p => Port.sourceCode p

/-- The source of a code. -/
def Source.ofCode (x : Nat) : Option Source :=
  if x = 0 then some .none
  else if x < 5 then (finOf 4 (x - 1)).map .pulse
  else if x < 21 then (finOf 16 (x - 5)).map .analog
  else if x < 45 then (finOf 24 (x - 21)).map .switch
  else (portOfSource x).map .link

/-- Slot state codes. -/
def SlotState.code : SlotState → Nat
  | .empty => 0 | .live => 1 | .stale => 2 | .lost => 3 | .fault => 4

/-- The code of an absent alternate slot. -/
def absentCode : Nat := 0xFF

/-- Effective state codes. -/
def EffState.code : EffState → Nat
  | .none => 0 | .live => 1 | .stale => 2 | .lost => 3 | .fault => 4

/-- Effective source codes. -/
def EffSource.code : EffSource → Nat
  | .primary => 0 | .alternate => 1 | .substitute => 2

/-- Fault cause codes. -/
def FaultCause.code : FaultCause → Nat
  | .none => 0 | .shortLow => 1 | .openHigh => 2 | .curve => 3 | .testFail => 4 | .noise => 5 | .port => 6

/-- Entry kind codes. -/
def EntryKind.code : EntryKind → Nat
  | .value => 0 | .boolean => 1

/-- The entry kind of a code. -/
def EntryKind.ofCode : Nat → Option EntryKind
  | 0 => some .value | 1 => some .boolean | _ => none

/-- Policy codes. -/
def Policy.code : Policy → Nat
  | .hold => 0 | .default => 1

/-- The policy of a code. -/
def Policy.ofCode : Nat → Option Policy
  | 0 => some .hold | 1 => some .default | _ => none

/-- Pattern codes. -/
def Pattern.code : Pattern → Nat
  | .off => 0 | .on => 1 | .slow => 2 | .fast => 3 | .follow => 4

/-- The pattern of a code. -/
def Pattern.ofCode : Nat → Option Pattern
  | 0 => some .off | 1 => some .on | 2 => some .slow | 3 => some .fast | 4 => some .follow | _ => none

/-- Test codes. -/
def Test.code : Test → Nat
  | .above => 0 | .below => 1 | .equal => 2 | .notLive => 3 | .fault => 4 | .disagree => 5

/-- The test of a code. -/
def Test.ofCode : Nat → Option Test
  | 0 => some .above | 1 => some .below | 2 => some .equal | 3 => some .notLive | 4 => some .fault
  | 5 => some .disagree | _ => none

/-- Render codes. -/
def Render.code : Render → Nat
  | .lamp => 0 | .screen => 1

/-- The render of a code. -/
def Render.ofCode : Nat → Option Render
  | 0 => some .lamp | 1 => some .screen | _ => none

/-- Class codes. -/
def LampClass.code : LampClass → Nat
  | .mandatory => 0 | .standard => 1 | .info => 2

/-- The class of a code. -/
def LampClass.ofCode : Nat → Option LampClass
  | 0 => some .mandatory | 1 => some .standard | 2 => some .info | _ => none

/-- Colour group codes. -/
def Colour.code : Colour → Nat
  | .red => 0 | .amber => 1 | .other => 2

/-- The colour group of a code. -/
def Colour.ofCode : Nat → Option Colour
  | 0 => some .red | 1 => some .amber | 2 => some .other | _ => none

/-- Driver fault codes. -/
def DriverFault.code : DriverFault → Nat
  | .ok => 0 | .openLoad => 1 | .short => 2 | .latched => 3

/-- Chime state codes. -/
def ChimeState.code : ChimeState → Nat
  | .quiet => 0 | .waiting => 1 | .playing => 2 | .served => 3

/-- The place of a condition in Table 3 of the introduction, which is its code. -/
def Condition.index : Condition → Fin 14
  | .configDefaults => 0 | .adcTestFail => 1 | .supplyLow => 2 | .supplyHigh => 3 | .linkLostD => 4
  | .linkLostN => 5 | .linkLostT => 6 | .tachoPrewarn => 7 | .tachoLimit => 8 | .tachoStale => 9
  | .tachoCardDriving => 10 | .tachoWarning => 11 | .odoMismatch => 12 | .telltaleFailed => 13

/-- The condition of a code. -/
def Condition.ofCode : Nat → Option Condition
  | 0 => some .configDefaults | 1 => some .adcTestFail | 2 => some .supplyLow | 3 => some .supplyHigh
  | 4 => some .linkLostD | 5 => some .linkLostN | 6 => some .linkLostT | 7 => some .tachoPrewarn
  | 8 => some .tachoLimit | 9 => some .tachoStale | 10 => some .tachoCardDriving | 11 => some .tachoWarning
  | 12 => some .odoMismatch | 13 => some .telltaleFailed | _ => none

/-- Gauge state codes. -/
def GaugeState.code : GaugeState → Nat
  | .unhomed => 0 | .homing => 1 | .sweep => 2 | .tracking => 3 | .parking => 4 | .parked => 5 | .held => 6

/-- Result kind codes. -/
def ResultKind.code : ResultKind → Nat
  | .speed => 0 | .rotation => 1 | .frequency => 2

/-- The result kind of a code. -/
def ResultKind.ofCode : Nat → Option ResultKind
  | 0 => some .speed | 1 => some .rotation | 2 => some .frequency | _ => none

/-- Edge selection codes. -/
def EdgeSelect.code : EdgeSelect → Nat
  | .rising => 0 | .falling => 1 | .both => 2

/-- The edge selection of a code. -/
def EdgeSelect.ofCode : Nat → Option EdgeSelect
  | 0 => some .rising | 1 => some .falling | 2 => some .both | _ => none

/-- The code of a gate time in ms. -/
def gateCode (ms : Nat) : Nat := if ms = 50 then 0 else if ms = 100 then 1 else if ms = 200 then 2 else 3

/-- The gate time of a code, in ms. -/
def gateOfCode : Nat → Option Nat
  | 0 => some 50 | 1 => some 100 | 2 => some 200 | 3 => some 500 | _ => none

/-- Excitation codes. -/
def Excitation.code : Excitation → Nat
  | .none => 0 | .source1mA => 1 | .pullup => 2

/-- The excitation of a code. -/
def Excitation.ofCode : Nat → Option Excitation
  | 0 => some .none | 1 => some .source1mA | 2 => some .pullup | _ => Option.none

/-- Window modes: CHECKED 0, UNCHECKED 1. -/
def checkedOfCode : Nat → Option Bool
  | 0 => some true | 1 => some false | _ => none

/-- Behaviour on loss: GO_PARK 0, HOLD 1. -/
def holdOnLossOfCode : Nat → Option Bool
  | 0 => some false | 1 => some true | _ => none

/-- Activity codes. -/
def Activity.code : Activity → Nat
  | .rest => 0 | .available => 1 | .work => 2 | .drive => 3 | .unknown => 4 | .absent => 5

/-- The activity of a code. -/
def Activity.ofCode : Nat → Option Activity
  | 0 => some .rest | 1 => some .available | 2 => some .work | 3 => some .drive | 4 => some .unknown
  | 5 => some .absent | _ => none

/-- Card codes. -/
def Card.code : Card → Nat
  | .absent => 0 | .present => 1 | .fault => 2

/-- The card state of a code. -/
def Card.ofCode : Nat → Option Card
  | 0 => some .absent | 1 => some .present | 2 => some .fault | _ => none

/-- Warning codes; 0 is "none". -/
def Warning.code : Warning → Nat
  | .overspeed => 1 | .cardMissing => 2 | .driveLimit => 3 | .powerInterrupt => 4 | .sensorFault => 5 | .other => 6

/-- The warning of a code. -/
def Warning.ofCode : Nat → Option Warning
  | 1 => some .overspeed | 2 => some .cardMissing | 3 => some .driveLimit | 4 => some .powerInterrupt
  | 5 => some .sensorFault | 6 => some .other | _ => none

/-- Readout state codes. -/
def ReadoutState.code : ReadoutState → Nat
  | .none => 0 | .current => 1 | .estimated => 2 | .lost => 3

/-- Odometer state codes. -/
def OdoState.code : OdoState → Nat
  | .unknown => 0 | .seeded => 1 | .tracked => 2

/-- Cycle state codes. -/
def CycleState.code : CycleState → Nat
  | .load => 0 | .parked => 1 | .starting => 2 | .run => 3 | .stopping => 4

/-- Supply state codes. -/
def Supply.code : Supply → Nat
  | .normal => 0 | .low => 1 | .high => 2

/-- Link state codes. -/
def LinkState.code : LinkState → Nat
  | .down => 0 | .up => 1 | .lost => 2

/-- Store state codes. -/
def StoreState.code : StoreState → Nat
  | .loading => 0 | .loaded => 1 | .defaults => 2 | .committing => 3

/-- The port numbers of the LINKS region. -/
def Port.number : Port → Nat
  | .dlink => 0 | .nlink => 1 | .tlink => 2

/-- Outcome codes (Table 12-7). -/
def RequestOutcome.code : RequestOutcome → Nat
  | .ok => 0x00 | .okClamped => 0x01 | .short => 0x02 | .timeout => 0x03 | .noKind => 0x10 | .noRegion => 0x11
  | .range => 0x12 | .rights => 0x13 | .notSource => 0x14 | .state => 0x15 | .length => 0x16

/-- The refusal outcomes (Table 10-1). -/
def RequestOutcome.isRefusal : RequestOutcome → Bool
  | .ok | .okClamped | .short | .timeout => false
  | .noKind | .noRegion | .range | .rights | .notSource | .state | .length => true

/-- Frame status codes (Table 12-7). -/
def FrameStatus.code : FrameStatus → Nat
  | .ok => 0x00 | .badCheck => 0x01 | .badLength => 0x02

/-- The event that a WAIT's index names (R173). -/
def WaitEvent.ofIndex : Nat → Option WaitEvent
  | 0 => some .change | 1 => some .tachoRecord | 2 => some .cycle | 3 => some .gate0 | _ => none

/-! ## Regions (R168, Table 12-3) -/

/-- Region numbers. -/
def Region.number : Region → Fin 13
  | .directory => 0 | .signals => 1 | .signalDetail => 2 | .telltales => 3 | .chimes => 4 | .gauges => 5
  | .tacho => 6 | .distance => 7 | .watch => 8 | .links => 9 | .cycleState => 10 | .config => 11 | .control => 12

/-- The region of a number. -/
def Region.ofNumber : Nat → Option Region
  | 0 => some .directory | 1 => some .signals | 2 => some .signalDetail | 3 => some .telltales
  | 4 => some .chimes | 5 => some .gauges | 6 => some .tacho | 7 => some .distance | 8 => some .watch
  | 9 => some .links | 10 => some .cycleState | 11 => some .config | 12 => some .control | _ => none

/-- Element counts (R168). -/
def Region.elements : Region → Nat
  | .directory => 13 | .signals => 64 | .signalDetail => 64 | .telltales => 40 | .chimes => 8 | .gauges => 6
  | .tacho => 1 | .distance => 4 | .watch => 15 | .links => 3 | .cycleState => 1 | .config => 240 | .control => 3

/-- Read element sizes (Table 12-3). -/
def Region.readSize : Region → Nat
  | .directory => 4 | .signals => 6 | .signalDetail => 14 | .telltales => 6 | .chimes => 3 | .gauges => 8
  | .tacho => 32 | .distance => 6 | .watch => 1 | .links => 16 | .cycleState => 6 | .config => 16 | .control => 0

/-- Write element sizes (Table 12-3). -/
def Region.writeSize : Region → Nat
  | .directory => 0 | .signals => 3 | .signalDetail => 0 | .telltales => 1 | .chimes => 1 | .gauges => 0
  | .tacho => 32 | .distance => 4 | .watch => 1 | .links => 0 | .cycleState => 0 | .config => 16 | .control => 1

/-- Whether a port may read a region (R168). -/
def Region.readable : Region → Port → Bool
  | .config, .tlink => false
  | .control, _ => false
  | .config, .dlink | .config, .nlink => true
  | .directory, _ | .signals, _ | .signalDetail, _ | .telltales, _ | .chimes, _ | .gauges, _ | .tacho, _
  | .distance, _ | .watch, _ | .links, _ | .cycleState, _ => true

/-- Whether a port may write a region (R168). -/
def Region.writable : Region → Port → Bool
  | .signals, _ | .telltales, _ | .chimes, _ | .watch, _ => true
  | .tacho, p => p == .tlink
  | .distance, p => p == .dlink
  | .config, p => p == .dlink
  | .control, p => p == .dlink || p == .nlink
  | .directory, _ | .signalDetail, _ | .gauges, _ | .links, _ | .cycleState, _ => false

end Sys2Proof.Machine
end

