-- ==== Sys2Proof/Machine/Flags.lean ====
section
/-! DEFINITION. The controller conditions (spec/00, 1.5) and the item numbers of change reporting (spec/00, 3.6). -/

namespace Sys2Proof.Machine

/-- Whether a controller condition is raised. -/
def State.cond (s : State) (c : Condition) : Bool := s.conditions[c.index]

/-- A controller condition raised or cleared by its owner. -/
def setCond (c : Condition) (b : Bool) (s : State) : State := s.setConditions (s.conditions.set c.index b)

/-- The item number of a signal entry (Table 7 of the introduction). -/
def signalItem (i : Fin 64) : Fin 113 := ⟨i, by omega⟩

/-- The item number of a telltale. -/
def telltaleItem (i : Fin 40) : Fin 113 := ⟨64 + i, by omega⟩

/-- The item number of a gauge. -/
def gaugeItem (i : Fin 6) : Fin 113 := ⟨104 + i, by omega⟩

/-- The item number of the tachograph readout. -/
def tachoItem : Fin 113 := 110

/-- The item number of the distance set. -/
def distanceItem : Fin 113 := 111

/-- The item number of the cycle state. -/
def cycleItem : Fin 113 := 112

/-- The condition that a lost link raises (R175). -/
def linkLostCondition : Port → Condition
  | .dlink => .linkLostD
  | .nlink => .linkLostN
  | .tlink => .linkLostT

end Sys2Proof.Machine
end

