-- ==== Sys2Proof/Machine/Ops.lean ====
section
/-! DEFINITION. Shared operations: a step for each item of a bank, the ports, change notices (R176) and the events that
complete a WAIT (R173). -/

namespace Sys2Proof.Machine

/-- One step for each index, in ascending order. -/
def forAll (n : Nat) (f : Fin n → State → State) (s : State) : State :=
  (List.finRange n).foldl (fun s i => f i s) s

/-- Whether a timer runs. -/
def Timer.isRunning : Timer → Bool
  | .stopped => false
  | .running _ => true

/-! ## Ports -/

/-- One port of the link interface. -/
def LinkInterface.port (l : LinkInterface) : Port → PortState
  | .dlink => l.dlink
  | .nlink => l.nlink
  | .tlink => l.tlink

/-- The link interface with one port replaced. -/
def LinkInterface.setPort (l : LinkInterface) (p : Port) (x : PortState) : LinkInterface :=
  match p with
  | .dlink => { l with dlink := x }
  | .nlink => { l with nlink := x }
  | .tlink => { l with tlink := x }

/-- One port of the part. -/
def State.port (s : State) (p : Port) : PortState := s.ports.port p

/-- One port replaced. -/
def setPort (p : Port) (x : PortState) (s : State) : State := s.setPorts (s.ports.setPort p x)

/-- Every port changed in the same way. -/
def mapPorts (f : PortState → PortState) (s : State) : State :=
  s.setPorts { s.ports with dlink := f s.ports.dlink, nlink := f s.ports.nlink, tlink := f s.ports.tlink }

/-! ## Held frames and change notices -/

/-- The result of a request (Table 12-2): its outcome, its count and its data. -/
def resultBytes (o : RequestOutcome) (count : Nat) (data : List Byte) : List Byte := byte o.code :: byte count :: data

/-- A hold ended with an outcome: the WAIT's result joins the reply and the frame may run on (R173). -/
def FrameExec.endHold (o : RequestOutcome) (f : FrameExec) : FrameExec :=
  { f with hold := none, results := f.results ++ resultBytes o 0 [] }

/-- An event signalled to a port: a frame held at a WAIT for it completes with OK (R173). -/
def PortState.signal (ev : WaitEvent) (p : PortState) : PortState :=
  match p.exec with
  | some f =>
    match f.hold with
    | some (w, _) => if w = ev then { p with exec := some (f.endHold .ok) } else p
    | none => p
  | none => p

/-- An event signalled to the link interface (R42, R138, R162). -/
def signalEvent (ev : WaitEvent) (s : State) : State := mapPorts (PortState.signal ev) s

/-- A change notice at one port: a watched item that is not listed joins the tail of the change list, and completes a
WAIT for CHANGE (R173, R176). -/
def PortState.notice (item : Fin 113) (p : PortState) : PortState :=
  if p.watch[item] && !p.changes.contains item then
    PortState.signal .change { p with changes := p.changes ++ [item] }
  else p

/-- A change notice for an item (R176). -/
def raiseItem (item : Fin 113) (s : State) : State := mapPorts (PortState.notice item) s

end Sys2Proof.Machine
end

