-- ==== Sys2Proof/Machine/CycleOps.lean ====
section
/-! DEFINITION. Changes of cycle state and the passages that the gauges' states open (R154, R156, R157, R159, R162). -/

namespace Sys2Proof.Machine

/-- The cycle state changed, and CYCLE signalled (R162). -/
def changeCycle (c : CycleState) (s : State) : State := signalEvent .cycle (s.setCycle { s.cycle with state := c })

/-- PARKED entry (R157, R60): the scan timer stops and the parked timer starts with the period in use. The coils of the PARKED
gauges go off (R102), which follows from the states. -/
def enterParked (s : State) : State :=
  let conv := s.conv
  changeCycle .parked
    (s.setConv { conv with
      scanTimer := .stopped
      parkedTimer := conv.settings.elim .stopped fun c => .running (1000 * c.parkedS) })

/-- RUN entry (R154). The arbiter's choice and the fallback claims are formed as the event ends. -/
def enterRun (s : State) : State := changeCycle .run s

/-- A gauge state that RUN accepts (R154). -/
def GaugeState.isReady : GaugeState → Bool
  | .tracking | .parking | .parked => true
  | .unhomed | .homing | .sweep | .held => false

/-- The passages from STARTING to RUN (R154) and from STOPPING to PARKED (R156). -/
def judgePassage (s : State) : State :=
  match s.cycle.state with
  | .starting =>
    if !s.cycle.window.isRunning && s.gauges.toList.all (fun g => g.state.isReady) then enterRun s else s
  | .stopping => if s.gauges.toList.all (fun g => g.state == .parked) then enterParked s else s
  | .load | .parked | .run => s

/-- A wake cause handed to the cycle controller: taken in PARKED only (R159). -/
def addWakeCause (c : WakeCause) (s : State) : State :=
  if s.cycle.state = .parked then
    match c with
    | .switch => s.setCycle { s.cycle with causeSwitch := true }
    | .parkedWindow => s.setCycle { s.cycle with causeWindow := true }
  else s

/-- The wake cause emptied and WAKE released (R160). -/
def releaseWake (s : State) : State := s.setCycle { s.cycle with causeSwitch := false, causeWindow := false }

/-- What item 112 shows (R162, R74). -/
structure CycleView where
  state : CycleState
  ignition : Bool
  windowRunning : Bool
  commitInFlight : Bool
  restartPending : Bool
  causeSwitch : Bool
  causeWindow : Bool
  supply : Supply
  deriving DecidableEq, Repr

/-- The view of item 112. -/
def State.cycleView (s : State) : CycleView where
  state := s.cycle.state
  ignition := s.cycle.ignition
  windowRunning := s.cycle.window.isRunning
  commitInFlight := s.cycle.commitInFlight
  restartPending := s.cycle.restartPending
  causeSwitch := s.cycle.causeSwitch
  causeWindow := s.cycle.causeWindow
  supply := s.conv.supply

/-- One notice for item 112 at an event that changes what it shows (R162, R74); `before` is the state before the event. -/
def cycleNotice (before s : State) : State := if before.cycleView = s.cycleView then s else raiseItem cycleItem s

end Sys2Proof.Machine
end

