-- ==== Sys2Proof/Machine/Image.lean ====
section
/-! DEFINITION. The configuration image: its records read and written (spec/12, Table 12-6), field validation (R184), the
normalisation that each block applies as it takes its settings (R1, R26, R57, R59, R80, R88, R110, R135, R150, R180), and curves. -/

namespace Sys2Proof.Machine

/-! ## Curves (R66, R67, R89, R184) -/

/-- Whether the x values rise strictly from each point to the next. -/
def strictlyRising : List CurvePoint → Bool
  | p :: q :: rest => decide (p.x < q.x) && strictlyRising (q :: rest)
  | [_] | [] => true

/-- Whether a sender curve can convert codes (R184). -/
def senderCurveValid (ps : List CurvePoint) : Bool :=
  decide (2 ≤ ps.length) && strictlyRising ps && ps.all fun p => decide (p.x ≤ 4095)

/-- Whether a gauge curve can convert values (R88, R184). -/
def gaugeCurveValid (ps : List CurvePoint) : Bool := decide (2 ≤ ps.length) && strictlyRising ps

/-- A quotient by a positive number rounded to the nearest integer, a half away from zero (R67, R89). -/
def roundAway (num : Int) (den : Nat) : Int := num.sign * ((2 * num.natAbs + den) / (2 * den) : Nat)

/-- The value of a valid curve at `v` (R67, R89). -/
def interpolate : List CurvePoint → Int → Int
  | [], _ => 0
  | [p], _ => p.y
  | p :: q :: rest, v =>
    if v ≤ p.x then p.y
    else if v < q.x then p.y + roundAway ((v - p.x) * (q.y - p.y)) (q.x - p.x).toNat
    else interpolate (q :: rest) v

/-! ## Records read -/

/-- All of `n` items, if each can be read. -/
def parseAll {α : Type} (n : Nat) (f : Fin n → Option α) : Option (Vector α n) :=
  if h : ∀ i, (f i).isSome = true then some (Vector.ofFn fun i => (f i).get (h i)) else none

/-- A check that fails the image where it does not hold. -/
def requireThat (b : Bool) : Option Unit := if b then some () else none

/-- A signal descriptor (17 bytes). Min above max fails the image (R1, R184). -/
def parseDescriptor (r : List Byte) : Option Descriptor := do
  let kind ← EntryKind.ofCode (byteAt r 0 / 16)
  let policy ← Policy.ofCode (byteAt r 0 % 16)
  let primary ← Source.ofCode (byteAt r 1)
  let alternate ← Source.ofCode (byteAt r 2)
  let partner ← if byteAt r 13 = 0xFF then some none else (finOf 64 (byteAt r 13)).map some
  requireThat (decide (signedAt r 3 ≤ signedAt r 5))
  some
    { kind := kind, policy := policy, primary := primary, alternate := alternate
      min := signedAt r 3, max := signedAt r 5, default := signedAt r 7
      staleMs := 10 * byteAt r 9, lostMs := 100 * byteAt r 10, notifyDelta := wordAt r 11
      partner := partner, tolerance := wordAt r 14, persistenceMs := 100 * byteAt r 16 }

/-- A claim source (7 bytes). A chime's claims and PORT claims use no pattern (R110), so theirs is not judged (log 31). -/
def parseClaim (ofChime : Bool) (r : List Byte) : Option Claim :=
  let x := byteAt r 1
  let pattern := if ofChime then some .on else Pattern.ofCode (byteAt r 0 % 16)
  match byteAt r 0 / 16 with
  | 0 => some .absent
  | 1 => do
    let p ← pattern
    let e ← finOf 64 x
    let t ← Test.ofCode (byteAt r 2)
    some (.signal e t (signedAt r 3) (wordAt r 5) p)
  | 2 => do
    let p ← pattern
    let i ← finOf 24 x
    some (.switch i p)
  | 3 => (portOfSource x).map .port
  | 4 => do
    let p ← pattern
    let c ← Condition.ofCode x
    some (.condition c p)
  | _ => none

/-- A telltale descriptor (32 bytes). -/
def parseTelltale (r : List Byte) : Option TelltaleDesc := do
  let render ← Render.ofCode (byteAt r 0)
  let lampClass ← LampClass.ofCode (byteAt r 1)
  let colour ← Colour.ofCode (byteAt r 2)
  let claims ← parseAll 4 fun k => parseClaim false (r.drop (4 + 7 * k))
  some
    { render := render, lampClass := lampClass, colour := colour
      proveOut := bitOf (byteAt r 3) 0, parkedActive := bitOf (byteAt r 3) 1, claims := claims }

/-- Chime settings (32 bytes). -/
def parseChime (r : List Byte) : Option ChimeDesc := do
  let claims ← parseAll 2 fun k => parseClaim true (r.drop (6 + 7 * k))
  some
    { toneHz := wordAt r 0, onMs := 10 * byteAt r 2, offMs := 10 * byteAt r 3
      repetitions := byteAt r 4, priority := byteAt r 5, claims := claims }

/-- Pulse channel settings (16 bytes). PC0 must be SPEED (R26). -/
def parsePulse (channel : Fin 4) (r : List Byte) : Option PulseSettings := do
  let kind ← ResultKind.ofCode (byteAt r 0)
  let edges ← EdgeSelect.ofCode (byteAt r 1)
  let gate ← gateOfCode (byteAt r 5)
  requireThat (decide (channel = 0 → kind = .speed))
  some
    { kind := kind, edges := edges, scale := wordAt r 2, spacingUs := 10 * byteAt r 4, gateMs := gate
      zeroTimeoutMs := 100 * byteAt r 6, creep := wordAt r 7 }

/-- A scan slot (16 bytes). Its channel field holds the source code of the input, AN0 5 to AN15 20 (Table 4-1, Table 12-8; log 10). -/
def parseScanSlot (r : List Byte) : Option ScanSlot := do
  let channel ← if byteAt r 0 < 5 then none else finOf 16 (byteAt r 0 - 5)
  let excitation ← Excitation.ofCode (byteAt r 1)
  let checked ← checkedOfCode (byteAt r 9)
  let curve ← finOf 16 (byteAt r 10)
  requireThat (decide (byteAt r 4 ∈ [1, 2, 4, 8]))
  some
    { channel := channel, excitation := excitation, settleUs := wordAt r 2, averaging := byteAt r 4
      lower := wordAt r 5, upper := wordAt r 7, checked := checked, curve := curve, shift := byteAt r 11
      refuelThreshold := wordAt r 12, fastSettle := bitOf (byteAt r 14) 0, parked := bitOf (byteAt r 14) 1 }

/-- The run scan list: the blocks up to the first that holds the unused code (R181). -/
def parseScanList : List (List Byte) → Option (List ScanSlot)
  | [] => some []
  | r :: rs =>
    if byteAt r 0 = 0xFF then some []
    else do
      let slot ← parseScanSlot r
      let rest ← parseScanList rs
      some (slot :: rest)

/-- The run scan list names AN15 once and no channel twice (R59). -/
def scanListValid (slots : List ScanSlot) : Bool :=
  decide ((slots.map (·.channel)).Nodup) && decide (15 ∈ slots.map (·.channel))

/-- A sender curve (32 bytes): its points up to the end mark or the eighth (R181). -/
def parseSenderCurve (r : List Byte) : List CurvePoint :=
  ((List.range 8).map fun k => ({ x := wordAt r (4 * k), y := signedAt r (4 * k + 2) } : CurvePoint)).takeWhile
    fun p => p.x ≠ 0xFFFF

/-- The sweep enable of a gauge record (log 13). -/
def sweepEnable (b : Byte) : Bool := if b = 0 then false else if b = 1 then true else Config.sweepEnableOf b

/-- Gauge settings (48 bytes). A point count above 6 is taken as 6, and the points beyond it are ignored (R88). No sweep-enable byte fails the
image: DESIGN CHOICE, log 13. -/
def parseGauge (r : List Byte) : Option GaugeDesc := do
  let entry ← finOf 64 (byteAt r 0)
  let hold ← holdOnLossOfCode (byteAt r 30)
  some
    { entry := entry
      points := (List.range (min 6 (byteAt r 1))).map fun k =>
        { x := signedAt r (2 + 4 * k), y := wordAt r (4 + 4 * k) }
      fullScale := wordAt r 26, park := wordAt r 28, holdOnLoss := hold, deadband := byteAt r 31
      vmax := byteAt r 32, accel := byteAt r 33, homingSpeed := byteAt r 34
      sweepEnable := sweepEnable (r.getD 35 0) }

/-- Blocks 234 and 235: the switch bank. -/
def parseSwitches (r : List Byte) : SwitchSettings where
  activeHigh := Vector.ofFn fun p => bitOf (wordAt r 0) p
  debounceMs := Vector.ofFn fun i => 10 * byteAt r (2 + i)
  wake := Vector.ofFn fun i => bitOf (byteAt r (26 + i / 8)) (i % 8)

/-- Block 236: periods, bulb-check window and link timeouts. -/
def parseTiming (r : List Byte) : TimingSettings where
  scanMs := wordAt r 0
  parkedS := byteAt r 2
  bulbMs := 100 * byteAt r 3
  timeoutD := 100 * byteAt r 4
  timeoutN := 100 * byteAt r 5
  timeoutT := 100 * byteAt r 6

/-- Block 237: the readout settings. -/
def parseReadout (r : List Byte) : ReadoutSettings where
  staleS := byteAt r 0
  motion := wordAt r 1
  prewarn := wordAt r 3
  limit := wordAt r 5

/-- The image read as Table 11-1 maps it; none where field validation fails it (R184). -/
def parseImage (m : Memory) : Option Configuration := do
  let descriptors ← parseAll 64 fun i => parseDescriptor (m.slice (17 * i) 17)
  let telltales ← parseAll 40 fun i => parseTelltale (m.slice (16 * 68 + 32 * i) 32)
  let chimes ← parseAll 8 fun i => parseChime (m.slice (16 * 148 + 32 * i) 32)
  let pulse ← parseAll 4 fun i => parsePulse i (m.block (164 + i))
  let scanList ← parseScanList ((List.range 16).map fun k => m.block (168 + k))
  let gauges ← parseAll 6 fun i => parseGauge (m.slice (16 * 216 + 48 * i) 48)
  requireThat (scanListValid scanList)
  some
    { descriptors := descriptors, telltales := telltales, chimes := chimes, pulse := pulse, scanList := scanList
      curves := Vector.ofFn fun i => parseSenderCurve (m.slice (16 * 184 + 32 * i) 32)
      gauges := gauges, switches := parseSwitches (m.slice (16 * 234) 32), timing := parseTiming (m.block 236)
      readout := parseReadout (m.block 237), odoTolerance := wordAt (m.block 237) 7
      label := m.block 238 ++ (m.block 239).drop 2
      crc := BitVec.ofNat 16 (wordAt (m.block 239) 0) }

/-- The CRC held in block 239 matches the one over blocks 0 to 238 (R182). -/
def imageCrcMatches (m : Memory) : Bool := crc16 (m.slice 0 3824) == BitVec.ofNat 16 (wordAt (m.block 239) 0)

/-- Block 239 is erased: every byte is 0xFF (Table 12-6). -/
def lastBlockErased (m : Memory) : Bool := (m.block 239).all (· == 0xFF)

/-- The configuration of a sound image (R182). -/
def soundImage (m : Memory) : Option Configuration :=
  if !lastBlockErased m && imageCrcMatches m then parseImage m else none

/-! ## Normalisation -/

/-- R1, for entry `i`. -/
def normalDescriptor (i : Fin 64) (d : Descriptor) : Descriptor :=
  let stale := max 10 d.staleMs
  let lo := if d.kind = .boolean then 0 else d.min
  let hi := if d.kind = .boolean then 1 else d.max
  { d with
    min := lo
    max := hi
    default := clampInt lo hi d.default
    staleMs := stale
    lostMs := max stale (max 100 d.lostMs)
    persistenceMs := max 100 d.persistenceMs
    notifyDelta := min 32767 d.notifyDelta
    alternate := if d.alternate = d.primary then .none else d.alternate
    partner := if d.partner = some i then none else d.partner }

/-- R110: a claim's hysteresis clamped; a telltale's SIGNAL, SWITCH or CONDITION claim with pattern OFF is absent, and a
CONDITION claim with FOLLOW takes ON. -/
def normalTelltaleClaim : Claim → Claim
  | .absent => .absent
  | .signal e t th h p => if p = .off then .absent else .signal e t th (min 32767 h) p
  | .switch i p => if p = .off then .absent else .switch i p
  | .port p => .port p
  | .condition c p => if p = .off then .absent else .condition c (if p = .follow then .on else p)

/-- R110: a chime's claim has its hysteresis clamped. -/
def normalChimeClaim : Claim → Claim
  | .signal e t th h p => .signal e t th (min 32767 h) p
  | .absent => .absent
  | .switch i p => .switch i p
  | .port p => .port p
  | .condition c p => .condition c p

/-- Whether an earlier claim source of the telltale names the same port (R110). -/
def repeatsPort (claims : Vector Claim 4) (k : Fin 4) : Bool :=
  match claims[k] with
  | .port p => (List.finRange 4).any fun j => decide (j < k) && claims[j] == Claim.port p
  | _ => false

/-- Whether a CONDITION claim that names TELLTALE_FAILED is taken as absent on such a telltale (R110). -/
def barsFailedClaim (i : Fin 40) (render : Render) (lampClass : LampClass) (colour : Colour) : Bool :=
  i ≠ 0 && i ≠ 1 &&
    (render == .screen || colour == .amber || (colour == .red && lampClass == .mandatory))

/-- Whether a claim names TELLTALE_FAILED. -/
def Claim.namesFailed : Claim → Bool
  | .condition c _ => c == .telltaleFailed
  | .absent | .signal .. | .switch .. | .port _ => false

/-- R110, for telltale `i`. -/
def normalTelltale (i : Fin 40) (d : TelltaleDesc) : TelltaleDesc :=
  let render := if i = 0 ∨ i = 1 then .lamp else d.render
  let lampClass := if i = 0 ∨ i = 1 then .mandatory else d.lampClass
  let colour := if i = 0 then .red else if i = 1 then .amber else d.colour
  { d with
    render := render
    lampClass := lampClass
    colour := colour
    claims := Vector.ofFn fun k =>
      if repeatsPort d.claims k then .absent
      else if barsFailedClaim i render lampClass colour && d.claims[k].namesFailed then .absent
      else normalTelltaleClaim d.claims[k] }

/-- R110, for a chime. -/
def normalChime (d : ChimeDesc) : ChimeDesc :=
  { toneHz := clampNat 500 4000 d.toneHz
    onMs := clampNat 10 2550 d.onMs
    offMs := min 2550 d.offMs
    repetitions := min 15 d.repetitions
    priority := min 7 d.priority
    claims := d.claims.map normalChimeClaim }

/-- The bound that an entry gives to the creep threshold of a SPEED channel that feeds it (R26). -/
def creepBound (d : Descriptor) : Option Nat :=
  if 0 < d.min then some d.min.toNat else if 0 < d.max then some d.max.toNat else none

/-- The creep threshold of a SPEED channel, lowered by the entries it feeds (R26). -/
def lowerCreep (channel : Fin 4) (descs : List Descriptor) (creep : Nat) : Nat :=
  descs.foldl (fun c d =>
    if d.primary = .pulse channel ∨ d.alternate = .pulse channel then (creepBound d).elim c (min c) else c) creep

/-- The scale in the range of its result kind (Table 2-1, R26). -/
def normalScale (kind : ResultKind) (scale : Nat) : Nat :=
  match kind with
  | .speed => clampNat 2400 25000 scale
  | .rotation => clampNat 1 255 scale
  | .frequency => 1

/-- R26, for a channel under the normalised descriptors. -/
def normalPulse (channel : Fin 4) (descs : List Descriptor) (d : PulseSettings) : PulseSettings :=
  let creep := min 32767 d.creep
  { d with
    scale := normalScale d.kind d.scale
    spacingUs := clampNat 10 2550 d.spacingUs
    zeroTimeoutMs := clampNat 100 4000 d.zeroTimeoutMs
    creep := if d.kind = .speed then lowerCreep channel descs creep else creep }

/-- R59, for a scan slot. -/
def normalScanSlot (d : ScanSlot) : ScanSlot :=
  let lower := min 4095 d.lower
  let upper := min 4095 d.upper
  { d with
    settleUs := min 2000 d.settleUs
    lower := lower
    upper := upper
    checked := d.checked && decide (lower ≤ upper)
    shift := min 10 d.shift
    refuelThreshold := min 32767 d.refuelThreshold }

/-- R88, for a gauge. A point position above 4,320, for which R88 gives no correction, stands as it is: DESIGN CHOICE, log 43. -/
def normalGauge (d : GaugeDesc) : GaugeDesc :=
  let fullScale := clampNat 1 4320 d.fullScale
  { d with
    fullScale := fullScale
    park := min fullScale d.park
    deadband := min 48 d.deadband
    vmax := clampNat 1 64 d.vmax
    accel := clampNat 1 16 d.accel
    homingSpeed := clampNat 1 4 d.homingSpeed }

/-- R80: each debounce time clamped. -/
def normalSwitches (d : SwitchSettings) : SwitchSettings :=
  { d with debounceMs := d.debounceMs.map (clampNat 10 2550) }

/-- R59, R150 and R180: the periods, the window and the timeouts clamped. -/
def normalTiming (d : TimingSettings) : TimingSettings :=
  { scanMs := clampNat 20 500 d.scanMs
    parkedS := clampNat 1 60 d.parkedS
    bulbMs := clampNat 500 5000 d.bulbMs
    timeoutD := clampNat 100 25500 d.timeoutD
    timeoutN := clampNat 100 25500 d.timeoutN
    timeoutT := clampNat 100 25500 d.timeoutT }

/-- R135. -/
def normalReadout (d : ReadoutSettings) : ReadoutSettings :=
  let limit := clampNat 1 1440 d.limit
  { staleS := clampNat 1 10 d.staleS
    motion := clampNat 1 25000 d.motion
    prewarn := min limit (clampNat 1 1440 d.prewarn)
    limit := limit }

/-- A configuration as the blocks normalise it when they take it. -/
def Configuration.normal (c : Configuration) : Configuration :=
  let descs := Vector.ofFn fun i : Fin 64 => normalDescriptor i c.descriptors[i]
  { c with
    descriptors := descs
    telltales := Vector.ofFn fun i : Fin 40 => normalTelltale i c.telltales[i]
    chimes := c.chimes.map normalChime
    pulse := Vector.ofFn fun i : Fin 4 => normalPulse i descs.toList c.pulse[i]
    scanList := c.scanList.map normalScanSlot
    gauges := c.gauges.map normalGauge
    switches := normalSwitches c.switches
    timing := normalTiming c.timing
    readout := normalReadout c.readout
    odoTolerance := min 1000 c.odoTolerance }

/-- The configuration in force as the blocks take it; none before the load ends (R183, R189). -/
def State.config (s : State) : Option Configuration := s.store.inForce.map Configuration.normal

/-! ## Records written -/

/-- Bytes that carry no field (R191). -/
def unusedBytes (n : Nat) : List Byte := List.replicate n 0

/-- The lost-time byte; see `Config.lostTimeReadback`. -/
def lostByte (ms : Nat) : Byte := if ms % 100 = 0 then byte (ms / 100) else Config.lostTimeReadback ms

/-- A signal descriptor (17 bytes). -/
def descriptorBytes (d : Descriptor) : List Byte :=
  [byte (16 * d.kind.code + d.policy.code), byte d.primary.code, byte d.alternate.code]
    ++ signedWord d.min ++ signedWord d.max ++ signedWord d.default
    ++ [byte (d.staleMs / 10), lostByte d.lostMs] ++ word d.notifyDelta
    ++ [d.partner.elim 0xFF fun p => byte p] ++ word d.tolerance ++ [byte (d.persistenceMs / 100)]

/-- A claim source (7 bytes). The pattern field that R110 ignores, of a PORT claim and of a chime's claims, shows as 0: DESIGN CHOICE,
log 46; the bits and bytes of a claim that its kind does not use show as 0: DESIGN CHOICE, log 53. -/
def claimBytes (ofChime : Bool) : Claim → List Byte
  | .absent => unusedBytes 7
  | .signal e t th h p =>
    [byte (16 + (if ofChime then 0 else p.code)), byte e, byte t.code] ++ signedWord th ++ word h
  | .switch i p => [byte (32 + (if ofChime then 0 else p.code)), byte i] ++ unusedBytes 5
  | .port p => [byte 48, byte (Port.sourceCode p)] ++ unusedBytes 5
  | .condition c p => [byte (64 + (if ofChime then 0 else p.code)), byte c.index] ++ unusedBytes 5

/-- A telltale descriptor (32 bytes). Flag bits 2 to 7 show as 0: DESIGN CHOICE, log 53. -/
def telltaleBytes (d : TelltaleDesc) : List Byte :=
  [byte d.render.code, byte d.lampClass.code, byte d.colour.code,
    byte (flagBit d.proveOut 0 + flagBit d.parkedActive 1)] ++ d.claims.toList.flatMap (claimBytes false)

/-- Chime settings (32 bytes). -/
def chimeBytes (d : ChimeDesc) : List Byte :=
  word d.toneHz ++ [byte (d.onMs / 10), byte (d.offMs / 10), byte d.repetitions, byte d.priority]
    ++ d.claims.toList.flatMap (claimBytes true) ++ unusedBytes 12

/-- Pulse channel settings (16 bytes). -/
def pulseBytes (d : PulseSettings) : List Byte :=
  [byte d.kind.code, byte d.edges.code] ++ word d.scale
    ++ [byte (d.spacingUs / 10), byte (gateCode d.gateMs), byte (d.zeroTimeoutMs / 100)] ++ word d.creep ++ unusedBytes 7

/-- A scan slot (16 bytes). Flag bits 2 to 7 show as 0: DESIGN CHOICE, log 53. -/
def scanSlotBytes (d : ScanSlot) : List Byte :=
  [byte (5 + d.channel), byte d.excitation.code] ++ word d.settleUs ++ [byte d.averaging] ++ word d.lower
    ++ word d.upper ++ [byte (if d.checked then 0 else 1), byte d.curve, byte d.shift] ++ word d.refuelThreshold
    ++ [byte (flagBit d.fastSettle 0 + flagBit d.parked 1)] ++ unusedBytes 1

/-- The 16 scan slot blocks: the list, then blocks with the unused code (log 11). -/
def scanListBytes (slots : List ScanSlot) : List Byte :=
  (slots.take 16).flatMap scanSlotBytes
    ++ (List.replicate (16 - slots.length) ((0xFF : Byte) :: unusedBytes 15)).flatten

/-- A sender curve (32 bytes): its points, then end marks (log 11). -/
def senderCurveBytes (ps : List CurvePoint) : List Byte :=
  (ps.take 8).flatMap (fun p => word p.x.toNat ++ signedWord p.y)
    ++ (List.replicate (8 - ps.length) (word 0xFFFF ++ unusedBytes 2)).flatten

/-- Gauge settings (48 bytes). The sweep-enable byte shows 1 or 0 by its meaning, also where the image holds another byte: DESIGN CHOICE,
log 13. -/
def gaugeBytes (d : GaugeDesc) : List Byte :=
  [byte d.entry, byte (min 6 d.points.length)]
    ++ (d.points.take 6).flatMap (fun p => signedWord p.x ++ word p.y.toNat)
    ++ unusedBytes (4 * (6 - d.points.length)) ++ word d.fullScale ++ word d.park
    ++ [byte (if d.holdOnLoss then 1 else 0), byte d.deadband, byte d.vmax, byte d.accel, byte d.homingSpeed,
      byte (if d.sweepEnable then 1 else 0)] ++ unusedBytes 12

/-- The number whose bit `k` is the `k`-th flag. -/
def flagsOf : List Bool → Nat
  | [] => 0
  | b :: bs => (if b then 1 else 0) + 2 * flagsOf bs

/-- The switch bank (32 bytes). Polarity bits 12 to 15 show as 0: DESIGN CHOICE, log 53. -/
def switchBytes (d : SwitchSettings) : List Byte :=
  word (flagsOf d.activeHigh.toList) ++ d.debounceMs.toList.map (fun ms => byte (ms / 10))
    ++ (List.range 3).map (fun k => byte (flagsOf ((d.wake.toList.drop (8 * k)).take 8))) ++ unusedBytes 3

/-- Block 236. -/
def timingBytes (d : TimingSettings) : List Byte :=
  word d.scanMs ++ [byte d.parkedS, byte (d.bulbMs / 100), byte (d.timeoutD / 100), byte (d.timeoutN / 100),
    byte (d.timeoutT / 100)] ++ unusedBytes 9

/-- Block 237. -/
def readoutBytes (d : ReadoutSettings) (tolerance : Nat) : List Byte :=
  [byte d.staleS] ++ word d.motion ++ word d.prewarn ++ word d.limit ++ word tolerance ++ unusedBytes 7

/-- Blocks 0 to 238 of a configuration in image form. -/
def Configuration.body (c : Configuration) : List Byte :=
  c.descriptors.toList.flatMap descriptorBytes ++ c.telltales.toList.flatMap telltaleBytes
    ++ c.chimes.toList.flatMap chimeBytes ++ c.pulse.toList.flatMap pulseBytes ++ scanListBytes c.scanList
    ++ c.curves.toList.flatMap senderCurveBytes ++ c.gauges.toList.flatMap gaugeBytes ++ switchBytes c.switches
    ++ timingBytes c.timing ++ readoutBytes c.readout c.odoTolerance ++ c.label.take 16

/-- A configuration in image form: 3,840 bytes. -/
def Configuration.bytes (c : Configuration) : List Byte := c.body ++ word c.crc.toNat ++ (c.label.drop 16).take 14

/-- The curve marks of a configuration (R184). -/
def senderMarks (c : Configuration) : Vector Bool 16 := c.curves.map senderCurveValid

/-- The gauge curve marks of a configuration (R184). -/
def gaugeMarks (c : Configuration) : Vector Bool 6 := c.gauges.map fun d => gaugeCurveValid d.points

end Sys2Proof.Machine
end

