-- ==== Sys2Proof/Machine/LampOps.lean ====
section
/-! DEFINITION. What the telltale unit does at an event: claims (R111 to R116), resolution and aggregation (R117 to R119), what is
shown and driven (R120 to R123), the FAILED flags (R126), the notices (R127), the chimes and the sounder arbiter (R128 to R132). -/

namespace Sys2Proof.Machine

/-! ## Switch levels (R83) -/

/-- The logical level of an electrical level under a pair's polarity (spec/05, 5.1). -/
def logicalOf (activeHigh : Bool) (l : Level) : Bool := (l == .high) == activeHigh

/-- Whether the pair of an input is ACTIVE_HIGH. -/
def SwitchSettings.polarity (st : SwitchSettings) (i : Fin 24) : Bool := st.activeHigh[(⟨i / 2, by omega⟩ : Fin 12)]

/-- The logical level of an input; none while its accepted level is UNKNOWN. -/
def SwitchBank.logical (b : SwitchBank) (i : Fin 24) : Option Bool :=
  match b.settings, b.inputs[i].accepted with
  | some st, some l => some (logicalOf (st.polarity i) l)
  | none, _ | some _, none => none

/-- The level that the bank presents to the telltale unit (R83). -/
def SwitchBank.presented (b : SwitchBank) (i : Fin 24) : Bool := (b.logical i).getD false

/-! ## Claims -/

/-- A latch after one judgement (R111). -/
def judgeLatch (test : Test) (v t : Int) (h : Nat) (active : Bool) : Bool :=
  match test with
  | .above => if active then decide (t - h < v) else decide (t < v)
  | .below => if active then decide (v < t + h) else decide (v < t)
  | .equal | .notLive | .fault | .disagree => false

/-- A claim's latch after a judgement of an entry whose effective value is `v`. -/
def Claim.judge (e : Fin 64) (v : Int) (active : Bool) : Claim → Bool
  | .signal e' test t h p => if e' = e && p != .follow then judgeLatch test v t h active else active
  | .absent | .switch .. | .port _ | .condition .. => active

/-- A claim's latch after its first judgement from the view as it stands (R111). -/
def Claim.firstLatch (s : State) : Claim → Bool
  | .signal e test t h p => (Claim.signal e test t h p).judge e s.signals[e].view.value false
  | .absent | .switch .. | .port _ | .condition .. => false

/-- Whether a claim is active (R111 to R115), with its latch and whether each port's own claim is active. -/
def Claim.active (s : State) (written : Port → Bool) (latch : Bool) : Claim → Bool
  | .absent => false
  | .signal e test t _ p =>
    let v := s.signals[e].view
    if p = .follow then v.value != 0
    else match test with
      | .above | .below => latch
      | .equal => v.value == t
      | .notLive => v.state != .live
      | .fault => v.state == .fault
      | .disagree => s.signals[e].disagree
  | .switch i _ => s.switches.presented i
  | .port p => written p
  | .condition c _ => s.cond c

/-- The pattern a port last wrote for a telltale. -/
def PortPatterns.of (x : PortPatterns) : Port → Pattern
  | .dlink => x.dlink
  | .nlink => x.nlink
  | .tlink => x.tlink

/-- A port's pattern replaced. -/
def PortPatterns.put (x : PortPatterns) (p : Port) (v : Pattern) : PortPatterns :=
  match p with
  | .dlink => { x with dlink := v }
  | .nlink => { x with nlink := v }
  | .tlink => { x with tlink := v }

/-- The claim a port last wrote for a chime. -/
def PortClaims.of (x : PortClaims) : Port → Bool
  | .dlink => x.dlink
  | .nlink => x.nlink
  | .tlink => x.tlink

/-- A port's claim replaced. -/
def PortClaims.put (x : PortClaims) (p : Port) (v : Bool) : PortClaims :=
  match p with
  | .dlink => { x with dlink := v }
  | .nlink => { x with nlink := v }
  | .tlink => { x with tlink := v }

/-- Whether claim `k` of a telltale is active. -/
def telltaleClaim (s : State) (d : TelltaleDesc) (t : Telltale) (k : Fin 4) : Bool :=
  d.claims[k].active s (fun p => t.patterns.of p != .off) t.latches[k]

/-- Whether claim `k` of a chime is active (R128). -/
def chimeClaim (s : State) (d : ChimeDesc) (c : Chime) (k : Fin 2) : Bool :=
  d.claims[k].active s c.portClaims.of c.latches[k]

/-- The pattern that an active claim carries. -/
def Claim.pattern (x : PortPatterns) : Claim → Pattern
  | .absent => .off
  | .signal _ _ _ _ p | .switch _ p | .condition _ p => p
  | .port p => x.of p

/-- The ABOVE and BELOW latches that name an entry judged at one of its effective updates (R111, R112). -/
def judgeLatches (e : Fin 64) (s : State) : State :=
  match s.lamps.settings with
  | none => s
  | some st =>
    let v := s.signals[e].view.value
    let u := s.lamps
    s.setLamps { u with
      telltales := Vector.ofFn fun i : Fin 40 =>
        let t := u.telltales[i]
        { t with latches := Vector.ofFn fun k : Fin 4 => st.telltales[i].claims[k].judge e v t.latches[k] }
      chimes := Vector.ofFn fun i : Fin 8 =>
        let c := u.chimes[i]
        { c with latches := Vector.ofFn fun k : Fin 2 => st.chimes[i].claims[k].judge e v c.latches[k] } }

/-- A lost port's patterns OFF and its chime claims inactive (R116). -/
def clearPortClaims (p : Port) (s : State) : State :=
  let u := s.lamps
  s.setLamps { u with
    telltales := u.telltales.map fun t => { t with patterns := t.patterns.put p .off }
    chimes := u.chimes.map fun c => { c with portClaims := c.portClaims.put p false } }

/-! ## Resolution and aggregation -/

/-- The resolved pattern of the active patterns (R117). -/
def resolvePatterns (ps : List Pattern) : Pattern :=
  if ps.contains .fast then .fast
  else if ps.contains .slow then .slow
  else if ps.contains .on then .on
  else if ps.contains .follow then .follow
  else .off

/-- Whether a built-in claim other than TT0's TELLTALE_FAILED claim makes a telltale active (R118, R119). -/
def BuiltInClaims.other (b : BuiltInClaims) (i : Fin 40) : Bool :=
  (i == 0 && (b.stop || b.fallback0)) || (i == 1 && (b.check || b.fallback1))

/-- Whether any built-in claim makes a telltale active. -/
def BuiltInClaims.any (b : BuiltInClaims) (i : Fin 40) : Bool := b.other i || (i == 0 && b.failed)

/-- The resolved pattern of a telltale (R117). Every built-in claim carries ON. -/
def resolveOne (s : State) (d : TelltaleDesc) (b : BuiltInClaims) (i : Fin 40) (t : Telltale) : Pattern :=
  resolvePatterns
    ((if b.any i then [.on] else []) ++
      ((List.finRange 4).filter (telltaleClaim s d t)).map fun k => d.claims[k].pattern t.patterns)

/-- Whether some telltale that is active meets a condition on its descriptor. -/
def someActive (st : LampSettings) (ts : Vector Telltale 40) (f : Fin 40 → TelltaleDesc → Bool) : Bool :=
  (List.finRange 40).any fun i => ts[i].resolved != .off && f i st.telltales[i]

/-- Whether the screen fallback is in force: RUN with the D-link LOST (R119). -/
def State.fallbackOn (s : State) : Bool := s.cycle.state == .run && (s.port .dlink).link == .lost

/-- The aggregation and fallback claims judged (R118, R119); TT0's TELLTALE_FAILED claim is kept. -/
def judgeBuiltIn (s : State) (st : LampSettings) (ts : Vector Telltale 40) (b : BuiltInClaims) : BuiltInClaims :=
  { b with
    stop := someActive st ts fun i d => i != 0 && d.colour == .red && d.lampClass == .mandatory
    check := someActive st ts fun i d => i != 1 && d.colour == .amber
    fallback0 := s.fallbackOn && someActive st ts fun _ d => d.render == .screen && d.colour == .red
    fallback1 := s.fallbackOn && someActive st ts fun _ d => d.render == .screen && d.colour != .red }

/-- SHORT or LATCHED. -/
def DriverFault.isShort : DriverFault → Bool
  | .ok | .openLoad => false
  | .short | .latched => true

/-- The FAILED flag of a telltale (R126). -/
def failedFlag (s : State) (d : TelltaleDesc) (b : BuiltInClaims) (i : Fin 40) (t : Telltale) : Bool :=
  d.render == .lamp && d.lampClass == .mandatory && t.fault.isShort &&
    (b.other i || (List.finRange 4).any fun k => telltaleClaim s d t k && !d.claims[k].namesFailed)

/-- Stages 1 and 2 of R117 once. -/
def lampPass (st : LampSettings) (s : State) : State :=
  let u := s.lamps
  let ts := Vector.ofFn fun i : Fin 40 =>
    let t := u.telltales[i]
    { t with resolved := resolveOne s st.telltales[i] u.builtIn i t }
  let b := judgeBuiltIn s st ts u.builtIn
  let ts := Vector.ofFn fun i : Fin 40 => { ts[i] with failed := failedFlag s st.telltales[i] b i ts[i] }
  let anyFailed := ts.toList.any (·.failed)
  let b := { b with failed := anyFailed }
  let ts := Vector.ofFn fun i : Fin 40 => { ts[i] with resolved := resolveOne s st.telltales[i] b i ts[i] }
  setCond .telltaleFailed anyFailed (s.setLamps { u with telltales := ts, builtIn := b })

/-- Stages 1 and 2 of R117, taken again until TELLTALE_FAILED keeps its value. The claims that R110 leaves naming TELLTALE_FAILED
never enter a FAILED flag, so the second taking is the last. -/
def lampRounds : Nat → LampSettings → State → State
  | 0, _, s => s
  | n + 1, st, s =>
    let s' := lampPass st s
    if s'.cond .telltaleFailed = s.cond .telltaleFailed then s' else lampRounds n st s'

/-! ## What is shown and driven -/

/-- The pattern after the bulb check (R120, stage 1). -/
def bulbChecked (windowRunning : Bool) (d : TelltaleDesc) (p : Pattern) : Pattern :=
  if windowRunning && d.proveOut && p == .off then .on else p

/-- The pattern after the cycle gating (R120, stage 2). -/
def gated (c : CycleState) (d : TelltaleDesc) (p : Pattern) : Pattern :=
  match c with
  | .load => .off
  | .parked | .stopping => if d.parkedActive then p else .off
  | .starting | .run => p

/-- Whether a shown pattern is lit (R122). -/
def TelltaleUnit.lit (u : TelltaleUnit) : Pattern → Bool
  | .off => false
  | .on | .follow => true
  | .slow => u.slowOn
  | .fast => u.fastOn

/-- The lamp output of a telltale (R122). -/
def lampOutput (u : TelltaleUnit) (d : TelltaleDesc) (t : Telltale) : Bool :=
  d.render == .lamp && u.lit t.shown && !t.fault.isShort

/-- The output driven, with the open-check timer started at a turn-on and stopped at a turn-off (R123). -/
def Telltale.drive (on : Bool) (t : Telltale) : Telltale :=
  { t with output := on, openCheck := if !on then .stopped else if t.output then t.openCheck else .running 20 }

/-- Stage 3 of R117 for one telltale. -/
def showOne (s : State) (d : TelltaleDesc) (t : Telltale) : Telltale :=
  let t := { t with shown := gated s.cycle.state d (bulbChecked s.cycle.window.isRunning d t.resolved) }
  t.drive (lampOutput s.lamps d t)

/-- Stage 3 of R117. -/
def showAll (st : LampSettings) (s : State) : State :=
  let u := s.lamps
  s.setLamps { u with telltales := Vector.ofFn fun i : Fin 40 => showOne s st.telltales[i] u.telltales[i] }

/-- What a telltale's notice reports (R127). -/
def telltaleChanged (a b : Telltale) : Bool :=
  a.resolved != b.resolved || a.shown != b.shown || a.fault != b.fault || a.failed != b.failed

/-- Stage 4 of R117: the notices of the telltales that changed since `before` (R127). -/
def telltaleNotices (before : Vector Telltale 40) (s : State) : State :=
  forAll 40 (fun i s => if telltaleChanged before[i] s.lamps.telltales[i] then raiseItem (telltaleItem i) s else s) s

/-- The stages of R117 at an event; `notify` is clear where R134 raises no notice. -/
def settleLamps (notify : Bool) (s : State) : State :=
  match s.lamps.settings with
  | none => s
  | some st =>
    let s' := showAll st (lampRounds 3 st s)
    if notify then telltaleNotices s.lamps.telltales s' else s'

/-! ## Chimes -/

/-- Whether a claim of a chime is active. -/
def chimeClaimed (s : State) (d : ChimeDesc) (c : Chime) : Bool := (List.finRange 2).any (chimeClaim s d c)

/-- A chime active: claimed, and its served flag clear (R128). -/
def chimeActive (s : State) (st : LampSettings) (i : Fin 8) : Bool :=
  chimeClaimed s st.chimes[i] s.lamps.chimes[i] && !s.lamps.chimes[i].served

/-- The arbiter's choice among active chimes: the highest priority, then the lowest channel (R129). -/
def bestChime (st : LampSettings) (active : Fin 8 → Bool) : Option (Fin 8) :=
  (List.finRange 8).foldl (fun best i =>
    if active i then
      match best with
      | none => some i
      | some j => if st.chimes[j].priority < st.chimes[i].priority then some i else some j
    else best) none

/-- The arbiter's choice, made in RUN only (R129, R132). -/
def arbiterChoice (st : LampSettings) (s : State) : Option (Fin 8) :=
  if s.cycle.state = .run then bestChime st (chimeActive s st) else none

/-- One chime after the arbiter's choice (R128 to R132): `claimed` whether a claim is active, `chosen` whether it is the choice,
`inRun` whether the choice was made in RUN. A chime that is still PLAYING outside RUN has met the departure of R132, which returns its count
to 0 whatever its claims do. -/
def Chime.settle (d : ChimeDesc) (claimed chosen inRun : Bool) (c : Chime) : Chime :=
  if !claimed then
    { c with served := false, state := .quiet, count := if !inRun && c.state == .playing then 0 else c.count, phase := .none }
  else if c.served then { c with state := .served, phase := .none }
  else if chosen then
    if c.state = .playing then c else { c with state := .playing, count := 0, phase := .onTime }
  else if c.state = .playing then
    if inRun && d.repetitions != 0 then { c with served := true, state := .served, phase := .none }
    else { c with state := .waiting, count := 0, phase := .none }
  else { c with state := .waiting, phase := .none }

/-- The chimes settled at an event (R128 to R132). -/
def settleChimes (s : State) : State :=
  match s.lamps.settings with
  | none => s
  | some st =>
    let u := s.lamps
    let choice := arbiterChoice st s
    let inRun := s.cycle.state == .run
    s.setLamps { u with
      chimes := Vector.ofFn fun i : Fin 8 =>
        u.chimes[i].settle st.chimes[i] (chimeClaimed s st.chimes[i] u.chimes[i]) (choice == some i) inRun }

/-- The telltale unit's part of an event, or of a stage of one: the four stages of R117, with the chimes settled behind them (log 34). -/
def settleUnits (notify : Bool) (s : State) : State := settleChimes (settleLamps notify s)

/-! ## Settings -/

/-- The latches of all claims after the first judgement (R111). -/
def freshLatches (st : LampSettings) (s : State) : State :=
  let u := s.lamps
  s.setLamps { u with
    telltales := Vector.ofFn fun i : Fin 40 =>
      { u.telltales[i] with latches := st.telltales[i].claims.map (Claim.firstLatch s) }
    chimes := Vector.ofFn fun i : Fin 8 =>
      { u.chimes[i] with latches := st.chimes[i].claims.map (Claim.firstLatch s) } }

/-- The telltale unit's settings of a configuration. -/
def lampSettings (c : Configuration) : LampSettings := { telltales := c.telltales, chimes := c.chimes }

/-- Settings taken at the exit from LOAD (R110, R134). -/
def takeLampSettings (c : Configuration) (s : State) : State :=
  freshLatches (lampSettings c) (s.setLamps { s.lamps with settings := some (lampSettings c) })

/-- The port patterns kept at a commit where the claims still list the port (R133). -/
def keepPatterns (claims : Vector Claim 4) (x : PortPatterns) : PortPatterns :=
  let keep (p : Port) (v : Pattern) : Pattern := if claims.contains (.port p) then v else .off
  { dlink := keep .dlink x.dlink, nlink := keep .nlink x.nlink, tlink := keep .tlink x.tlink }

/-- The chime claims kept at a commit (R133). -/
def keepClaims (claims : Vector Claim 2) (x : PortClaims) : PortClaims :=
  { dlink := x.dlink && claims.contains (.port .dlink)
    nlink := x.nlink && claims.contains (.port .nlink)
    tlink := x.tlink && claims.contains (.port .tlink) }

/-- The driver of a telltale whose render is SCREEN (R133; the retry count is kept, log 29). -/
def Telltale.asScreen (t : Telltale) : Telltale :=
  { t with fault := .ok, output := false, openCheck := .stopped, retryTimer := .stopped }

/-- A telltale at a commit (R133). -/
def Telltale.commit (d : TelltaleDesc) (t : Telltale) : Telltale :=
  let t := { t with patterns := keepPatterns d.claims t.patterns }
  if d.render = .screen then t.asScreen else t

/-- Settings taken at a commit's end (R133), before the stages of R117. -/
def commitLampSettings (c : Configuration) (s : State) : State :=
  let st := lampSettings c
  let u := s.lamps
  let s' := freshLatches st (s.setLamps { u with
    settings := some st
    telltales := Vector.ofFn fun i : Fin 40 => u.telltales[i].commit st.telltales[i]
    chimes := Vector.ofFn fun i : Fin 8 =>
      { u.chimes[i] with served := false, portClaims := keepClaims st.chimes[i].claims u.chimes[i].portClaims } })
  telltaleNotices u.telltales s'

/-! ## Driver faults -/

/-- A driver fault changed, with the notice of its telltale (R127). -/
def putTelltale (i : Fin 40) (t : Telltale) (s : State) : State :=
  let before := s.lamps.telltales[i]
  let s := s.setLamps { s.lamps with telltales := s.lamps.telltales.set i t }
  if telltaleChanged before t then raiseItem (telltaleItem i) s else s

/-- A short found (R124): the output off, and SHORT with the 1 s retry timer, or LATCHED after three retries. -/
def Telltale.foundShort (t : Telltale) : Telltale :=
  if t.retries < 3 then
    { t.drive false with fault := .short, retryTimer := .running 1000 }
  else { t.drive false with fault := .latched }

/-- The driver at a STARTING entry (R125). -/
def Telltale.newCycle (t : Telltale) : Telltale :=
  { t with fault := if t.fault.isShort then .ok else t.fault, retries := 0, retryTimer := .stopped }

/-- The drivers at a STARTING entry (R125). -/
def newLampCycle (s : State) : State := forAll 40 (fun i s => putTelltale i s.lamps.telltales[i].newCycle s) s

end Sys2Proof.Machine
end

