-- ==== Sys2Proof/Machine/ReadElements.lean ====
section
/-! DEFINITION. What a READ shows of each region: the read elements of Table 12-4. -/

namespace Sys2Proof.Machine

/-- DIRECTORY (R179). -/
def directoryBytes (p : Port) (i : Nat) : List Byte :=
  match Region.ofNumber i with
  | some r =>
    [byte r.readSize, byte r.writeSize, byte r.elements, byte (flagBit (r.readable p) 0 + flagBit (r.writable p) 1)]
  | none => []

/-- The reading port's slot of an entry: 0 none, 1 primary, 2 alternate. -/
def Entry.slotOf (p : Port) (e : Entry) : Nat :=
  if e.desc.primary = .link p then 1 else if e.desc.alternate = .link p then 2 else 0

/-- SIGNALS. -/
def signalBytes (p : Port) (e : Entry) : List Byte :=
  signedWord e.view.value
    ++ [byte e.view.state.code, byte e.view.source.code,
      byte (flagBit e.view.clamped 0 + flagBit e.disagree 1), byte (e.slotOf p)]

/-- A slot of SIGNAL DETAIL. -/
def slotBytes (x : Slot) : List Byte :=
  signedWord x.value ++ [byte x.state.code] ++ word x.age ++ [byte (16 * x.cause.code + flagBit x.clamped 0)]

/-- SIGNAL DETAIL. -/
def signalDetailBytes (e : Entry) : List Byte :=
  byte e.desc.primary.code :: slotBytes e.primary
    ++ (if e.desc.alternate = .none then [0, 0, 0, byte absentCode, 0, 0, 0]
      else byte e.desc.alternate.code :: slotBytes e.alternate)

/-- The reading port's pattern of a telltale, or 0xFF (R127; log 32). -/
def ownPattern (s : State) (p : Port) (i : Fin 40) : Byte :=
  if s.lamps.settings.any (fun st => st.telltales[i].claims.contains (.port p)) then
    byte (s.lamps.telltales[i].patterns.of p).code
  else 0xFF

/-- The active claims of a telltale as bits (Table 12-4). -/
def activeClaimBits (s : State) (i : Fin 40) : Nat :=
  match s.lamps.settings with
  | none => 0
  | some st =>
    let b := s.lamps.builtIn
    let claim (k : Fin 4) : Bool := telltaleClaim s st.telltales[i] s.lamps.telltales[i] k
    flagBit (claim 0) 0 + flagBit (claim 1) 1 + flagBit (claim 2) 2 + flagBit (claim 3) 3
      + flagBit ((i == 0 && b.stop) || (i == 1 && b.check)) 4
      + flagBit (i == 0 && b.failed) 5
      + flagBit ((i == 0 && b.fallback0) || (i == 1 && b.fallback1)) 6

/-- TELLTALES. -/
def telltaleReadBytes (s : State) (p : Port) (i : Fin 40) : List Byte :=
  let t := s.lamps.telltales[i]
  [byte t.resolved.code, byte t.shown.code, byte (flagBit (s.lamps.lit t.shown) 0 + flagBit t.failed 1),
    byte (16 * t.fault.code + t.retries), byte (activeClaimBits s i), ownPattern s p i]

/-- The reading port's claim on a chime, or 0xFF (R130; log 32). -/
def ownChimeClaim (s : State) (p : Port) (i : Fin 8) : Byte :=
  if s.lamps.settings.any (fun st => st.chimes[i].claims.contains (.port p)) then
    byte (flagBit (s.lamps.chimes[i].portClaims.of p) 0)
  else 0xFF

/-- CHIMES. -/
def chimeReadBytes (s : State) (p : Port) (i : Fin 8) : List Byte :=
  [byte s.lamps.chimes[i].state.code, byte s.lamps.chimes[i].count, ownChimeClaim s p i]

/-- GAUGES. An UNHOMED gauge reads P, T and V as 0 (R90). -/
def gaugeReadBytes (g : Gauge) : List Byte :=
  [byte g.state.code, byte (g.remembered.elim 0xFF GaugeState.code)]
    ++ (if g.state = .unhomed then [0, 0, 0, 0, 0, 0]
      else signedWord g.position ++ signedWord g.target ++ signedWord g.velocity)

/-- The record shown while there is none (R146). -/
def TachoRecord.none : TachoRecord where
  driver1 := .unknown
  driver2 := .unknown
  card1 := .absent
  card2 := .absent
  continuous := 0
  currentBreak := 0
  daily := 0
  weekly := 0
  speed := 0
  odometer := 0
  localTime := Option.none
  warnings := []

/-- TACHO (R146). -/
def tachoBytes (r : Readout) : List Byte :=
  let rec' := r.record.getD TachoRecord.none
  [byte r.state.code, byte (16 * rec'.driver1.code + rec'.driver2.code), byte (16 * rec'.card1.code + rec'.card2.code)]
    ++ word rec'.continuous ++ word rec'.currentBreak ++ word rec'.daily ++ word rec'.weekly ++ word rec'.speed
    ++ long rec'.odometer ++ word (rec'.localTime.getD 0xFFFF)
    ++ [byte rec'.warnings.length]
    ++ (List.range 4).map (fun k => byte ((rec'.warnings[k]?).elim 0 Warning.code))
    ++ word r.continuous ++ word r.daily ++ word r.remaining ++ word r.age

/-- DISTANCE. The mismatch mark shows as 1 while it is set and as 0 while it is clear: DESIGN CHOICE, log 39. -/
def distanceBytes (d : Distance) : Nat → List Byte
  | 0 => long d.odo ++ [byte d.odoState.code, byte (flagBit d.mismatch 0)]
  | 1 => long d.ldc ++ [0, 0]
  | 2 => long d.tripA ++ [0, 0]
  | _ => long d.tripB ++ [0, 0]

/-- WATCH: bit k of element j says whether item 8j + k is watched. -/
def watchByte (w : Vector Bool 113) (j : Nat) : List Byte :=
  [byte (flagsOf ((List.range 8).map fun k => w.toList.getD (8 * j + k) false))]

/-- LINKS (R179). -/
def linkBytes (p : Port) (x : PortState) : List Byte :=
  [byte (Port.number p), byte x.link.code, byte (flagBit (x.exec.any (·.hold.isSome)) 0), byte x.changes.length]
    ++ word x.timeout ++ word x.counters.good.toNat ++ word x.counters.badCheck.toNat
    ++ word x.counters.badLength.toNat ++ word x.counters.busy.toNat ++ word x.counters.refused.toNat

/-- The port of a LINKS element. -/
def portOfNumber : Nat → Port
  | 0 => .dlink
  | 1 => .nlink
  | _ => .tlink

/-- CYCLE STATE (R162). WAKE is asserted while the wake cause is not empty (R159). -/
def cycleBytes (s : State) : List Byte :=
  let c := s.cycle
  [byte c.state.code,
    byte (flagBit c.ignition 0 + flagBit c.window.isRunning 1 + flagBit c.commitInFlight 2 + flagBit c.restartPending 3
      + flagBit (c.causeSwitch || c.causeWindow) 4 + flagBit c.causeSwitch 5 + flagBit c.causeWindow 6),
    byte s.conv.supply.code] ++ word s.conv.overruns ++ [byte s.store.state.code]

/-- CONFIG: a block of the configuration in force as the blocks normalise it, or zeros before the load has completed (R185). -/
def configBlock (s : State) (i : Nat) : List Byte :=
  match s.config with
  | some c => (c.bytes.drop (16 * i)).take 16
  | none => List.replicate 16 0

/-- The read element `i` of a region, as a port reads it (Table 12-4). -/
def readElement (r : Region) (p : Port) (i : Nat) (s : State) : List Byte :=
  match r with
  | .directory => directoryBytes p i
  | .signals => (finOf 64 i).elim [] fun e => signalBytes p s.signals[e]
  | .signalDetail => (finOf 64 i).elim [] fun e => signalDetailBytes s.signals[e]
  | .telltales => (finOf 40 i).elim [] fun t => telltaleReadBytes s p t
  | .chimes => (finOf 8 i).elim [] fun c => chimeReadBytes s p c
  | .gauges => (finOf 6 i).elim [] fun g => gaugeReadBytes s.gauges[g]
  | .tacho => tachoBytes s.tacho
  | .distance => distanceBytes s.dist i
  | .watch => watchByte (s.port p).watch i
  | .links => linkBytes (portOfNumber i) (s.port (portOfNumber i))
  | .cycleState => cycleBytes s
  | .config => configBlock s i
  | .control => []

end Sys2Proof.Machine
end

