-- ==== Sys2Proof/Machine/Defaults.lean ====
section
/-! DEFINITION. The built-in defaults (R183): Tables 1-5, 2-3, 4-2, 4-3, 4-4, 5-2, 6-3, 7-4, 7-7 and 8-3.
Fields that no table states hold the least value of their range: tolerance 0 and persistence 100 ms of entries without a partner among them (log 12). -/

namespace Sys2Proof.Machine

/-- A row of Table 1-5 for a VALUE entry. -/
def valueEntry (min max default : Int) (primary alternate : Source) (staleMs lostMs : Nat) (policy : Policy)
    (delta : Nat) : Descriptor where
  kind := .value
  policy := policy
  primary := primary
  alternate := alternate
  min := min
  max := max
  default := default
  staleMs := staleMs
  lostMs := lostMs
  notifyDelta := delta
  partner := none
  tolerance := 0
  persistenceMs := 100

/-- A row of Table 1-5 for a BOOLEAN entry. -/
def booleanEntry (default : Int) (primary alternate : Source) : Descriptor :=
  { valueEntry 0 1 default primary alternate 1000 5000 .default 0 with kind := .boolean }

/-- Entries 0 to 19 (Table 1-5 and its note 1). -/
def allocatedEntries : List Descriptor :=
  let nlink : Source := .link .nlink
  [ { valueEntry 0 25000 0 (.pulse 0) nlink 300 1000 .default 50 with
      partner := some 2, tolerance := 500, persistenceMs := 3000 },
    valueEntry 0 4000 0 (.pulse 1) nlink 300 1000 .default 25,
    valueEntry 0 25000 0 (.link .tlink) .none 1500 5000 .default 50,
    valueEntry 0 1000 0 (.analog 0) .none 500 2000 .hold 5,
    valueEntry 0 1000 0 (.analog 1) .none 500 2000 .hold 5,
    valueEntry 0 1000 0 (.analog 2) nlink 500 2000 .hold 5,
    valueEntry (-400) 1500 0 nlink (.analog 3) 500 2000 .hold 5,
    valueEntry 0 1000 0 nlink .none 500 2000 .default 5,
    valueEntry 0 1300 0 (.analog 4) nlink 500 2000 .default 5,
    valueEntry 0 1300 0 (.analog 5) nlink 500 2000 .default 5,
    valueEntry 0 1300 0 nlink .none 500 2000 .default 5,
    valueEntry 0 4000 2400 (.analog 15) .none 500 2000 .hold 10,
    valueEntry (-500) 800 0 nlink .none 2000 10000 .hold 5,
    valueEntry 0 100 100 (.analog 6) (.link .dlink) 500 2000 .default 1,
    booleanEntry 1 (.switch 0) nlink,
    booleanEntry 0 (.switch 23) .none,
    valueEntry 0 5 0 nlink .none 500 2000 .default 0,
    booleanEntry 0 (.switch 2) .none,
    booleanEntry 0 (.switch 3) .none,
    booleanEntry 0 (.switch 4) nlink ]

/-- Entries 20 to 63 (note 2 of Table 1-5). -/
def freeEntry : Descriptor := valueEntry (-32768) 32767 0 .none .none 1000 5000 .hold 0

/-- A telltale of Table 7-4 with up to four claims. -/
def telltaleRow (render : Render) (lampClass : LampClass) (colour : Colour) (proveOut parkedActive : Bool)
    (claims : List Claim) : TelltaleDesc where
  render := render
  lampClass := lampClass
  colour := colour
  proveOut := proveOut
  parkedActive := parkedActive
  claims := Vector.ofFn fun k : Fin 4 => claims.getD k .absent

/-- TT0 to TT21 (Table 7-4). -/
def allocatedTelltales : List TelltaleDesc :=
  [ telltaleRow .lamp .mandatory .red true false [],
    telltaleRow .lamp .mandatory .amber true false
      [.condition .linkLostD .on, .condition .configDefaults .on],
    telltaleRow .lamp .standard .red true false [.signal 14 .equal 1 0 .on],
    telltaleRow .lamp .mandatory .red true false [.signal 8 .below 550 50 .on, .signal 8 .fault 0 0 .slow],
    telltaleRow .lamp .mandatory .red true false [.signal 9 .below 550 50 .on, .signal 9 .fault 0 0 .slow],
    telltaleRow .lamp .mandatory .red true false [.signal 6 .above 1050 30 .on, .signal 6 .above 1100 20 .fast],
    telltaleRow .lamp .mandatory .red true false [.signal 7 .below 50 20 .on],
    telltaleRow .lamp .standard .amber true false [.signal 3 .below 100 20 .on, .signal 4 .below 100 20 .on],
    telltaleRow .lamp .standard .amber true false [.signal 5 .below 100 20 .on],
    telltaleRow .lamp .mandatory .other false true [.switch 2 .follow],
    telltaleRow .lamp .mandatory .other false true [.switch 3 .follow],
    telltaleRow .lamp .mandatory .other false true [.signal 19 .above 0 0 .follow],
    telltaleRow .lamp .standard .amber true false [.condition .supplyLow .on, .condition .supplyHigh .slow],
    telltaleRow .lamp .info .other false false [.signal 16 .above 0 0 .on],
    telltaleRow .screen .standard .amber false false [.condition .adcTestFail .on],
    telltaleRow .screen .standard .amber false false [.signal 0 .disagree 0 0 .on],
    telltaleRow .screen .standard .amber false false [.condition .odoMismatch .on],
    telltaleRow .screen .standard .amber false false [.condition .linkLostN .on, .condition .linkLostT .on],
    telltaleRow .screen .standard .amber false false
      [.condition .tachoPrewarn .slow, .condition .tachoLimit .fast, .condition .tachoCardDriving .on],
    telltaleRow .screen .info .other false false [.condition .tachoWarning .on, .condition .tachoStale .on],
    telltaleRow .lamp .mandatory .red true false [.port .nlink],
    telltaleRow .lamp .standard .amber true false [.port .nlink] ]

/-- TT22 to TT39 (Table 7-4). -/
def freeTelltale : TelltaleDesc := telltaleRow .screen .info .other false false [.port .dlink, .port .nlink]

/-- A chime of Table 7-7 with up to two claims. -/
def chimeRow (toneHz onMs offMs repetitions priority : Nat) (claims : List Claim) : ChimeDesc where
  toneHz := toneHz
  onMs := onMs
  offMs := offMs
  repetitions := repetitions
  priority := priority
  claims := Vector.ofFn fun k : Fin 2 => claims.getD k .absent

/-- CH0 to CH7 (Table 7-7). -/
def builtInChimes : Vector ChimeDesc 8 :=
  #v[ chimeRow 2000 200 200 0 7 [.signal 8 .below 550 50 .on, .signal 9 .below 550 50 .on],
      chimeRow 1600 300 300 0 6 [.signal 6 .above 1100 20 .on, .condition .telltaleFailed .on],
      chimeRow 1000 500 500 3 5 [.condition .tachoLimit .on, .condition .tachoCardDriving .on],
      chimeRow 1000 500 1000 1 4 [.condition .tachoPrewarn .on],
      chimeRow 800 200 800 2 3 [.condition .supplyHigh .on],
      chimeRow 800 300 300 1 2 [.signal 3 .below 100 20 .on, .signal 4 .below 100 20 .on],
      chimeRow 2400 100 100 1 1 [.port .dlink],
      chimeRow 1200 250 250 0 6 [.port .nlink] ]

/-- A row of Table 2-3; every default spacing is 50 µs, every zero timeout 2,000 ms and every edge selection RISING. -/
def pulseRow (kind : ResultKind) (scale gateMs creep : Nat) : PulseSettings where
  kind := kind
  edges := .rising
  scale := scale
  spacingUs := 50
  gateMs := gateMs
  zeroTimeoutMs := 2000
  creep := creep

/-- A row of Table 4-3; every default scan slot has fast-settle set. -/
def scanRow (channel : Fin 16) (excitation : Excitation) (settleUs averaging lower upper : Nat) (checked : Bool)
    (curve : Fin 16) (shift refuel : Nat) (parked : Bool) : ScanSlot where
  channel := channel
  excitation := excitation
  settleUs := settleUs
  averaging := averaging
  lower := lower
  upper := upper
  checked := checked
  curve := curve
  shift := shift
  refuelThreshold := refuel
  fastSettle := true
  parked := parked

/-- The built-in run scan list (Table 4-3). -/
def builtInScanList : List ScanSlot :=
  [ scanRow 15 .none 0 4 0 4095 false 15 0 0 true,
    scanRow 0 .source1mA 500 8 40 3900 true 0 8 50 true,
    scanRow 1 .source1mA 500 8 40 3900 true 0 8 50 true,
    scanRow 2 .source1mA 500 8 40 3900 true 1 8 50 false,
    scanRow 3 .pullup 200 4 60 4000 true 2 3 0 false,
    scanRow 4 .none 100 4 300 3800 true 3 2 0 true,
    scanRow 5 .none 100 4 300 3800 true 3 2 0 true,
    scanRow 6 .none 100 2 0 4095 false 4 1 0 false ]

/-- The built-in sender curves (Table 4-4). -/
def builtInCurve (i : Fin 16) : List CurvePoint :=
  if i = 0 then [⟨100, 0⟩, ⟨1000, 250⟩, ⟨2000, 520⟩, ⟨3200, 1000⟩]
  else if i = 1 then [⟨100, 0⟩, ⟨3300, 1000⟩]
  else if i = 2 then [⟨300, 1300⟩, ⟨900, 900⟩, ⟨2000, 500⟩, ⟨3400, 0⟩, ⟨3900, -400⟩]
  else if i = 3 then [⟨410, 0⟩, ⟨3686, 1300⟩]
  else if i = 4 then [⟨200, 0⟩, ⟨3800, 100⟩]
  else if i = 15 then [⟨0, 0⟩, ⟨4095, 4000⟩]
  else []

/-- A row of Table 6-3; every default gauge parks at 0 and homes at 2 microsteps per ms. -/
def gaugeRow (entry : Fin 64) (points : List CurvePoint) (fullScale : Nat) (holdOnLoss : Bool)
    (deadband vmax accel : Nat) (sweep : Bool) : GaugeDesc where
  entry := entry
  points := points
  fullScale := fullScale
  park := 0
  holdOnLoss := holdOnLoss
  deadband := deadband
  vmax := vmax
  accel := accel
  homingSpeed := 2
  sweepEnable := sweep

/-- The built-in gauge settings (Table 6-3). -/
def builtInGauges : Vector GaugeDesc 6 :=
  #v[ gaugeRow 0 [⟨0, 0⟩, ⟨12500, 3240⟩] 3240 false 2 64 8 true,
      gaugeRow 1 [⟨0, 0⟩, ⟨3000, 3240⟩] 3240 false 4 64 8 true,
      gaugeRow 3 [⟨0, 0⟩, ⟨1000, 1080⟩] 1080 true 6 16 2 false,
      gaugeRow 8 [⟨0, 0⟩, ⟨1200, 1080⟩] 1080 false 2 48 6 false,
      gaugeRow 9 [⟨0, 0⟩, ⟨1200, 1080⟩] 1080 false 2 48 6 false,
      gaugeRow 6 [⟨400, 0⟩, ⟨1200, 1080⟩] 1080 true 6 16 2 false ]

/-- The built-in switch settings (Table 5-2). -/
def builtInSwitches : SwitchSettings where
  activeHigh := Vector.ofFn fun p : Fin 12 => p = 1 || p = 2 || p = 11
  debounceMs := Vector.ofFn fun i : Fin 24 => if i = 2 ∨ i = 3 ∨ i = 4 then 20 else if i = 23 then 100 else 50
  wake := Vector.ofFn fun i : Fin 24 => i = 0 || (6 ≤ i && i ≤ 9)

/-- The built-in defaults without their CRC. -/
def defaultsNoCrc : Configuration where
  descriptors := Vector.ofFn fun i : Fin 64 => allocatedEntries.getD i freeEntry
  telltales := Vector.ofFn fun i : Fin 40 => allocatedTelltales.getD i freeTelltale
  chimes := builtInChimes
  pulse := #v[pulseRow .speed 8000 100 200, pulseRow .rotation 12 100 100, pulseRow .frequency 1 200 0,
    pulseRow .frequency 1 200 0]
  scanList := builtInScanList
  curves := Vector.ofFn builtInCurve
  gauges := builtInGauges
  switches := builtInSwitches
  timing := { scanMs := 50, parkedS := 10, bulbMs := 3000, timeoutD := 500, timeoutN := 300, timeoutT := 5000 }
  readout := { staleS := 3, motion := 500, prewarn := 255, limit := 270 }
  odoTolerance := 20
  label := List.replicate 30 0
  crc := 0

/-- The built-in defaults, with their CRC in block 239 and a label of zeros (R183, R185). -/
def builtInDefaults : Configuration := { defaultsNoCrc with crc := crc16 defaultsNoCrc.body }

end Sys2Proof.Machine
end

