-- ==== Sys2Proof/Machine/GaugeOps.lean ====
section
/-! DEFINITION. What a gauge does: targets and tracking (R89 to R94), motion (R95, R96), homing (R97), sweep (R99), the ignition
cycle (R100, R101), supply LOW (R103 to R105). -/

namespace Sys2Proof.Machine

/-- At rest: V is 0 and P equals T (spec/06, 6.1). -/
def Gauge.atRest (g : Gauge) : Bool := g.velocity == 0 && g.position == g.target

/-- The curve position of a value (R89). -/
def GaugeSettings.curvePosition (gs : GaugeSettings) (v : Int) : Int :=
  clampInt 0 gs.desc.fullScale (interpolate gs.desc.points v)

/-- Whether a view is LIVE or STALE. -/
def View.serves (v : View) : Bool := v.state == .live || v.state == .stale

/-- The state and target of the tracking decision (R91). -/
def trackingDecision (gs : GaugeSettings) (v : View) : GaugeState × Int :=
  if gs.curveValid && (v.serves || gs.desc.holdOnLoss) then (.tracking, gs.curvePosition v.value)
  else (.parking, gs.desc.park)

/-- A gauge in PARKING that is at rest is PARKED (R91, R96; log 25). -/
def Gauge.parkIfAtRest (g : Gauge) : Gauge := if g.state == .parking && g.atRest then { g with state := .parked } else g

/-- PARKING toward the park position (R93, R99, R101). -/
def Gauge.enterParking (gs : GaugeSettings) (g : Gauge) : Gauge :=
  Gauge.parkIfAtRest { g with state := .parking, target := gs.desc.park, leg := .none }

/-- The tracking decision taken (R91). -/
def Gauge.takeDecision (gs : GaugeSettings) (v : View) (g : Gauge) : Gauge :=
  Gauge.parkIfAtRest { g with state := (trackingDecision gs v).1, target := (trackingDecision gs v).2, leg := .none }

/-- The end of a sweep leg (R99). -/
def Gauge.endLeg (gs : GaugeSettings) (v : View) (g : Gauge) : Gauge :=
  if g.leg = .out then { g with leg := .back, target := 0 } else g.takeDecision gs v

/-- What coming to rest does (R96, R99). -/
def Gauge.arrive (gs : GaugeSettings) (v : View) (g : Gauge) : Gauge :=
  if !g.atRest then g
  else match g.state with
    | .parking => { g with state := .parked }
    | .sweep => g.endLeg gs v
    | .unhomed | .homing | .tracking | .parked | .held => g

/-- SWEEP entered (R99). A gauge that stands at full scale has come to rest there (log 25). -/
def Gauge.enterSweep (gs : GaugeSettings) (v : View) (g : Gauge) : Gauge :=
  Gauge.arrive gs v { g with state := .sweep, leg := .out, target := gs.desc.fullScale }

/-- HOMING entered from its beginning (R97). -/
def Gauge.enterHoming (gs : GaugeSettings) (g : Gauge) : Gauge :=
  { g with
    state := .homing
    position := gs.desc.fullScale + 240
    homingCount := gs.desc.fullScale + 240
    fraction := 0
    velocity := 0
    target := 0
    leg := .none }

/-- A retarget under the deadband (R92). -/
def Gauge.retarget (gs : GaugeSettings) (v : View) (g : Gauge) : Gauge :=
  let t := gs.curvePosition v.value
  if g.atRest && decide ((t - g.position).natAbs ≤ gs.desc.deadband) then g else { g with target := t }

/-- STARTING or RUN. -/
def CycleState.isOn (c : CycleState) : Bool := c == .starting || c == .run

/-- One effective update of the source entry (R92 to R94). -/
def Gauge.effectiveUpdate (c : CycleState) (v : View) (g : Gauge) : Gauge :=
  match g.settings with
  | none => g
  | some gs =>
    match g.state with
    | .tracking => if v.serves || gs.desc.holdOnLoss then g.retarget gs v else g.enterParking gs
    | .parking | .parked =>
      if c.isOn && gs.curveValid && v.serves then
        { g with state := .tracking, target := gs.curvePosition v.value }
      else g
    | .unhomed | .homing | .sweep | .held => g

/-! ## Motion (R95, R96) -/

/-- Stages 1 to 4: the velocity after one motion step. -/
def nextVelocity (vmax accel : Nat) (v d : Int) : Int :=
  let stopping : Int := v * v / (32 * accel)
  if v = 0 ∨ (v.sign = d.sign ∧ stopping < d.natAbs) then
    let goal := d.sign * vmax
    if v < goal then min (v + accel) goal else max (v - accel) goal
  else v.sign * (v.natAbs - accel : Nat)

/-- Stage 5 and R96: the position advances and is bounded. -/
def Gauge.advance (fullScale : Nat) (v : Int) (g : Gauge) : Gauge :=
  let sixteenths := 16 * g.position + g.fraction + v
  let p := sixteenths / 16
  if p < 0 then { g with position := 0, fraction := 0, velocity := 0 }
  else if (fullScale : Int) < p then { g with position := fullScale, fraction := 0, velocity := 0 }
  else { g with position := p, fraction := (sixteenths % 16).toNat, velocity := v }

/-- Stage 6: arrival at the target. -/
def Gauge.settleOnTarget (accel : Nat) (g : Gauge) : Gauge :=
  if (g.target - g.position).natAbs ≤ 1 ∧ g.velocity.natAbs ≤ accel then
    { g with position := g.target, fraction := 0, velocity := 0 }
  else g

/-- One motion step (R95, R96). -/
def Gauge.motionStep (gs : GaugeSettings) (g : Gauge) : Gauge :=
  let v := nextVelocity gs.desc.vmax gs.desc.accel g.velocity (g.target - g.position)
  (g.advance gs.desc.fullScale v).settleOnTarget gs.desc.accel

/-- The states in which the motion timer may run (R95). -/
def GaugeState.moves : GaugeState → Bool
  | .sweep | .tracking | .parking | .parked => true
  | .unhomed | .homing | .held => false

/-- The motion timer's expiry, if it runs (R95, R96, R99). -/
def Gauge.motionExpiry (v : View) (g : Gauge) : Gauge :=
  match g.settings with
  | some gs => if g.state.moves && !g.atRest then (g.motionStep gs).arrive gs v else g
  | none => g

/-! ## Homing (R97) -/

/-- The end of the homing run (R97). The cycle states LOAD and PARKED cannot find a gauge homing (R102); they park it (log 37). -/
def Gauge.endHoming (gs : GaugeSettings) (c : CycleState) (v : View) (g : Gauge) : Gauge :=
  let g := { g with position := 0, velocity := 0, fraction := 0 }
  if c.isOn then (if gs.desc.sweepEnable then g.enterSweep gs v else g.takeDecision gs v) else g.enterParking gs

/-- The homing timer's expiry, if it runs (R97). -/
def Gauge.homingExpiry (c : CycleState) (v : View) (g : Gauge) : Gauge :=
  match g.settings with
  | some gs =>
    if g.state = .homing then
      let g' := { g with
        position := max 0 (g.position - gs.desc.homingSpeed)
        homingCount := g.homingCount - gs.desc.homingSpeed }
      if g'.homingCount = 0 then g'.endHoming gs c v else g'
    else g
  | none => g

/-! ## The ignition cycle and supply LOW -/

/-- Whether the coils are driven (R107). -/
def Gauge.driven (c : CycleState) (g : Gauge) : Bool :=
  match g.state with
  | .unhomed => false
  | .parked => c != .parked
  | .homing | .sweep | .tracking | .parking | .held => true

/-- Supply LOW holds a gauge whose coils are driven (R103). -/
def Gauge.hold (c : CycleState) (g : Gauge) : Gauge :=
  if g.driven c && g.state != .held then { g with state := .held, remembered := some g.state, velocity := 0 } else g

/-- The action at STARTING entry (R100). A HELD gauge keeps R91's state as its remembered state (log 26). -/
def Gauge.startingEntry (v : View) (g : Gauge) : Gauge :=
  match g.settings with
  | none => g
  | some gs =>
    match g.state with
    | .unhomed => g.enterHoming gs
    | .parked | .parking => if gs.desc.sweepEnable then g.enterSweep gs v else g.takeDecision gs v
    | .held =>
      match g.remembered with
      | some .parked | some .parking =>
        if gs.desc.sweepEnable then { g with remembered := some .sweep, leg := .out, target := gs.desc.fullScale }
        else { g with
          remembered := some (trackingDecision gs v).1
          target := (trackingDecision gs v).2
          leg := .none }
      | some .unhomed | some .homing | some .sweep | some .tracking | some .held | none => g
    | .homing | .sweep | .tracking => g

/-- Whether the tracking decision of a STARTING entry takes a PARKED gauge into PARKING, from which it is PARKED again at once where it is at
rest on the park position (R91, R100): its state changes, although the event ends in the state it began in (R90). -/
def Gauge.reparks (v : View) (g : Gauge) : Bool :=
  g.state == .parked && g.settings.any fun gs => !gs.desc.sweepEnable && (trackingDecision gs v).1 == .parking

/-- The action at IGN_OFF (R101). The row of a HELD gauge names no leg; here its leg becomes none with its remembered state (DEDUCED,
log 45). -/
def Gauge.ignitionOff (g : Gauge) : Gauge :=
  match g.settings with
  | none => g
  | some gs =>
    match g.state with
    | .sweep | .tracking | .parking => g.enterParking gs
    | .held =>
      if g.remembered = some .homing then g
      else { g with remembered := some .parking, target := gs.desc.park, leg := .none }
    | .unhomed | .homing | .parked => g

/-- The resumption when the supply leaves LOW (R104). -/
def Gauge.resume (c : CycleState) (v : View) (g : Gauge) : Gauge :=
  match g.settings with
  | none => g
  | some gs =>
    if g.state = .held then
      match g.remembered with
      | some .homing => { g.enterHoming gs with remembered := none }
      | some .sweep => Gauge.arrive gs v { g with state := .sweep, remembered := none, velocity := 0 }
      | some .tracking | some .parking | some .parked =>
        let g' := Gauge.parkIfAtRest
          { g with state := g.remembered.getD .parked, remembered := none, velocity := 0 }
        if c.isOn then g'.effectiveUpdate c v else g'
      | some .unhomed | some .held | none => g
    else g

/-! ## In the state -/

/-- Whether R90 asks for a notice, by the gauge before and after the event. The one state that an event enters and leaves for the state it
came from is the PARKING of `Gauge.reparks`. -/
def gaugeNotice (before after : Gauge) : Bool :=
  before.state != after.state || before.remembered != after.remembered || before.target != after.target
    || (!before.atRest && after.atRest)

/-- A gauge after an event: its notice (R90), and the passages its change of state opens (R154, R156). -/
def putGauge (i : Fin 6) (g : Gauge) (s : State) : State :=
  let before := s.gauges[i]
  let s := s.setGauges (s.gauges.set i g)
  let s := if gaugeNotice before g then raiseItem (gaugeItem i) s else s
  if before.state = g.state then s else judgePassage s

/-- The view a gauge reads: its source entry's, or entry 0's while it holds no settings. -/
def gaugeView (s : State) (g : Gauge) : View := (s.signals[g.settings.elim (0 : Fin 64) fun gs => gs.desc.entry]).view

/-- Every gauge changed by a function of its view. The gauges are taken from G0 to G5, which is also the order of their notices:
DESIGN CHOICE, log 44. -/
def forGauges (f : View → Gauge → Gauge) (s : State) : State :=
  forAll 6 (fun i s => putGauge i (f (gaugeView s s.gauges[i]) s.gauges[i]) s) s

end Sys2Proof.Machine
end

