-- ==== Sys2Proof/Machine/SignalOps.lean ====
section
/-! DEFINITION. The signal table: updates (R2 to R5), aging (R6 to R8), link loss (R9), selection (R12 to R16), plausibility pairs
(R17 to R19), change notices (R20, R21) and the effective update handed to the consumers (R11). -/

namespace Sys2Proof.Machine

/-- An update of a slot (R4, R5). -/
inductive Update where
  | value (v : Int)
  | fault (cause : FaultCause)
  deriving DecidableEq, Repr

/-- One entry replaced. -/
def setEntry (i : Fin 64) (e : Entry) (s : State) : State := s.setSignals (s.signals.set i e)

/-! ## Slots -/

/-- LIVE or STALE. -/
def Slot.serves (x : Slot) : Bool := x.state == .live || x.state == .stale

/-- A value as its entry's slot stores it, and whether it was clamped (R4). -/
def Descriptor.store (d : Descriptor) (v : Int) : Int × Bool :=
  match d.kind with
  | .boolean => (if v = 0 then 0 else 1, false)
  | .value => (clampInt d.min d.max v, decide (v < d.min ∨ d.max < v))

/-- A slot after an update (R4, R5). -/
def Slot.take (d : Descriptor) (u : Update) (x : Slot) : Slot :=
  match u with
  | .value v => { value := (d.store v).1, state := .live, age := 0, clamped := (d.store v).2, cause := .none }
  | .fault c => { x with state := .fault, age := 0, cause := c }

/-- The state of a slot by its age (R7). -/
def ageState (d : Descriptor) (age : Nat) : SlotState → SlotState
  | .live => if d.lostMs ≤ 10 * age then .lost else if d.staleMs ≤ 10 * age then .stale else .live
  | .stale => if d.lostMs ≤ 10 * age then .lost else .stale
  | .empty => .empty
  | .lost => .lost
  | .fault => .fault

/-- Whether a source is a switch input (R7). -/
def Source.isSwitch : Source → Bool
  | .switch _ => true
  | .none | .pulse _ | .analog _ | .link _ => false

/-- Whether a source is an analog input (R8). -/
def Source.isAnalog : Source → Bool
  | .analog _ => true
  | .none | .pulse _ | .switch _ | .link _ => false

/-- A slot at an aging expiry (R6 to R8). -/
def Slot.ageBy (d : Descriptor) (src : Source) (supply : Supply) (x : Slot) : Slot :=
  if x.state = .empty ∨ (src.isAnalog ∧ supply = .low) then x
  else
    let age := min 65535 (x.age + 1)
    { x with age := age, state := if src.isSwitch then x.state else ageState d age x.state }

/-- A slot at the loss of a link (R9). -/
def Slot.loseLink (p : Port) (src : Source) (x : Slot) : Slot :=
  if src = .link p ∧ x.serves then { x with state := .lost } else x

/-! ## Selection -/

/-- The alternate slot is present and LIVE or STALE. -/
def Entry.alternateServes (e : Entry) : Bool := e.desc.alternate != .none && e.alternate.serves

/-- The reclaim timer, stopped where either slot has left LIVE and STALE (R16). -/
def Entry.keptReclaim (e : Entry) : Timer := if e.primary.serves && e.alternateServes then e.reclaim else .stopped

/-- The state of a slot as an effective state; used for a serving slot. -/
def SlotState.effective : SlotState → EffState
  | .empty => .none
  | .live => .live
  | .stale => .stale
  | .lost => .lost
  | .fault => .fault

/-- The view of a serving slot (R12, R14). -/
def Slot.view (source : EffSource) (x : Slot) : View :=
  { value := x.value, state := x.state.effective, source := source, clamped := x.clamped }

/-- The effective state of a substitute (R13). -/
def Entry.substituteState (e : Entry) : EffState :=
  match e.primary.state with
  | .fault => .fault
  | .empty => if e.desc.alternate = .none ∨ e.alternate.state = .empty then .none else .lost
  | .live | .stale | .lost => .lost

/-- The substitute (R13). -/
def Entry.substitute (e : Entry) : View where
  value := if e.substituteState = .none ∨ e.desc.policy = .default then e.desc.default else e.view.value
  state := e.substituteState
  source := .substitute
  clamped := false

/-- Selection (R12 to R14, R16). -/
def Entry.select (e : Entry) : Entry :=
  let e := { e with reclaim := e.keptReclaim }
  let held := e.view.source == .alternate && e.reclaim.isRunning
  if e.primary.serves && !held then { e with view := e.primary.view .primary }
  else if e.alternateServes then { e with view := e.alternate.view .alternate }
  else { e with view := e.substitute }

/-! ## Plausibility pairs -/

/-- The pair of an entry A with its partner B judged (R17, R19). -/
def Entry.judgePair (isUpdate : Bool) (b : Entry) (a : Entry) : Entry :=
  if a.view.state = .live ∧ b.view.state = .live then
    if !isUpdate then a
    else if a.desc.tolerance < (a.view.value - b.view.value).natAbs then
      if a.disagreement = .idle then { a with disagreement := .running a.desc.persistenceMs } else a
    else { a with disagreement := .idle, disagree := false }
  else { a with disagreement := .idle }

/-- The pair of entry `a`, if it names a partner. -/
def judgePairOf (isUpdate : Bool) (a : Fin 64) (s : State) : State :=
  match s.signals[a].desc.partner with
  | none => s
  | some b => setEntry a (Entry.judgePair isUpdate s.signals[b] s.signals[a]) s

/-- The pairs that a recomputation of entry `i` concerns: its own, and those of the entries that name it. -/
def judgePairs (isUpdate : Bool) (i : Fin 64) (s : State) : State :=
  forAll 64 (fun a s =>
    if a = i ∨ s.signals[a].desc.partner = some i then judgePairOf isUpdate a s else s) s

/-! ## Notices and consumers -/

/-- Whether a movement from the reference value counts as a change (R20). -/
def Entry.moved (e : Entry) : Bool :=
  let d := (e.view.value - e.reference).natAbs
  d != 0 && decide (e.desc.notifyDelta ≤ d)

/-- Whether R20 asks for a notice. -/
def entryChanged (before after : Entry) : Bool :=
  after.moved || before.view.state != after.view.state || before.view.source != after.view.source
    || before.view.clamped != after.view.clamped || before.disagree != after.disagree

/-- The notice of an entry, with its reference value (R20, R21). -/
def noticeEntry (before : Entry) (i : Fin 64) (s : State) : State :=
  let e := s.signals[i]
  if entryChanged before e then raiseItem (signalItem i) (setEntry i { e with reference := e.view.value } s) else s

/-- The effective update of an entry handed to the gauges that name it, from G0 to G5 (log 44), and to the claims (R11, R92, R112). -/
def handEffective (i : Fin 64) (s : State) : State :=
  judgeLatches i (forAll 6 (fun k s =>
    let g := s.gauges[k]
    if g.settings.any (fun gs => gs.desc.entry == i) then
      putGauge k (g.effectiveUpdate s.cycle.state s.signals[i].view) s
    else s) s)

/-- An entry whose DISAGREE mark another entry's update has cleared is reported and handed on (log 21), behind the notice and the consumers of
the updated entry, whatever the two indices are: DESIGN CHOICE, log 49. -/
def reportPartners (before : Vector Entry 64) (i : Fin 64) (s : State) : State :=
  forAll 64 (fun a s =>
    if a ≠ i ∧ before[a].disagree ≠ s.signals[a].disagree then
      handEffective a (noticeEntry before[a] a s)
    else s) s

/-- One recomputation of an entry (R11); `before` is the entry before the event. -/
def recompute (before : Entry) (isUpdate : Bool) (i : Fin 64) (s : State) : State :=
  let table := s.signals
  let s := setEntry i s.signals[i].select s
  let s := judgePairs isUpdate i s
  reportPartners table i (handEffective i (noticeEntry before i s))

/-! ## Events of the table -/

/-- Whether a value update makes a primary slot LIVE while the alternate serves (R15). -/
def Entry.startsReclaim (u : Update) (e : Entry) : Bool :=
  match u with
  | .value _ => !e.primary.serves && e.view.source == .alternate
  | .fault _ => false

/-- An update at the primary slot (R4, R5, R15). -/
def updatePrimary (u : Update) (i : Fin 64) (s : State) : State :=
  let e := s.signals[i]
  recompute e true i (setEntry i
    { e with
      primary := e.primary.take e.desc u
      reclaim := if e.startsReclaim u then .running 500 else e.reclaim } s)

/-- An update at the alternate slot (R4, R5). -/
def updateAlternate (u : Update) (i : Fin 64) (s : State) : State :=
  let e := s.signals[i]
  recompute e true i (setEntry i { e with alternate := e.alternate.take e.desc u } s)

/-- An update delivered to the slot of one entry that names the source, if it has one; discarded in LOAD (R2, R3, R10). -/
def deliverTo (src : Source) (u : Update) (i : Fin 64) (s : State) : State :=
  if s.cycle.state = .load then s
  else if s.signals[i].desc.primary = src then updatePrimary u i s
  else if s.signals[i].desc.alternate = src then updateAlternate u i s
  else s

/-- An update delivered to every slot whose source it is (R2). -/
def deliver (src : Source) (u : Update) (s : State) : State := forAll 64 (deliverTo src u) s

/-- Slots changed without an update; the entry is recomputed once if a slot changed its state (log 22). -/
def changeSlots (f : Source → Slot → Slot) (i : Fin 64) (s : State) : State :=
  let e := s.signals[i]
  let e' := { e with primary := f e.desc.primary e.primary, alternate := f e.desc.alternate e.alternate }
  let s := setEntry i e' s
  if e.primary.state = e'.primary.state ∧ e.alternate.state = e'.alternate.state then s
  else recompute e false i s

/-- The aging expiry (R6 to R8). -/
def ageTable (s : State) : State :=
  forAll 64 (fun i s => changeSlots (fun src x => x.ageBy s.signals[i].desc src s.conv.supply) i s) s

/-- The slots of a lost link forced LOST (R9). -/
def forceLost (p : Port) (s : State) : State := forAll 64 (changeSlots (Slot.loseLink p)) s

/-- The expiry of a running reclaim timer (R16). -/
def reclaimExpiry (i : Fin 64) (s : State) : State :=
  let e := s.signals[i]
  if e.reclaim.isRunning then recompute e false i (setEntry i { e with reclaim := .stopped } s) else s

/-- The expiry of a RUNNING disagreement timer (R18). -/
def disagreementExpiry (i : Fin 64) (s : State) : State :=
  let e := s.signals[i]
  match e.disagreement with
  | .running _ => recompute e false i (setEntry i { e with disagreement := .expired, disagree := true } s)
  | .idle | .expired => s

/-- Every entry emptied under given descriptors (R22, R23, R24). -/
def emptyTable (descs : Vector Descriptor 64) (s : State) : State := s.setSignals (descs.map Entry.emptied)

/-- The notices of all 64 entries, in ascending order (R24). -/
def noticeAllEntries (s : State) : State := forAll 64 (fun i s => raiseItem (signalItem i) s) s

end Sys2Proof.Machine
end

