-- ==== Sys2Proof/Machine/ConverterOps.lean ====
section
/-! DEFINITION. The sender converter: passes (R60 to R64), results (R65 to R71), the supply state (R72 to R74), parked passes
(R75, R76) and the taking of settings (R59, R77). -/

namespace Sys2Proof.Machine

/-! ## Settings -/

/-- The converter's settings of a configuration, with the store's curve marks (R59). -/
def converterSettings (marks : Vector Bool 16) (c : Configuration) : ConverterSettings where
  scanMs := c.timing.scanMs
  parkedS := c.timing.parkedS
  slots := c.scanList
  curves := c.curves
  curveValid := marks

/-- Settings taken (R59, R77): every scan slot seeds at its next valid value. R77 gives the filter state no value until that seed; here it is 0
(DESIGN CHOICE, log 40). -/
def takeConverterSettings (c : Configuration) (s : State) : State :=
  s.setConv { s.conv with
    settings := some (converterSettings s.store.senderMarks c)
    slots := .replicate 16 .reset
    takeOver := false }

/-- The positions of a pass: the run scan list, or its scan slots with the parked flag (spec/04, 4.1). -/
def ConverterSettings.positions (st : ConverterSettings) (parked : Bool) : List (Fin 16) :=
  (List.finRange 16).filter fun i => (st.slots[i]?).any fun d => !parked || d.parked

/-- The scan slot at a position, while settings are in use. -/
def Converter.scanSlot (v : Converter) (i : Fin 16) : Option ScanSlot :=
  v.settings.bind fun st => st.slots[i]?

/-- The seed-pending flag of every fast-settle scan slot set (R69). -/
def Converter.seedFast (v : Converter) : Converter :=
  { v with
    slots := Vector.ofFn fun i : Fin 16 =>
      if (v.scanSlot i).any (·.fastSettle) then { v.slots[i] with seed := true } else v.slots[i] }

/-! ## Passes -/

/-- A pending take-over made at the start of a pass (R77). -/
def takeOverConverter (s : State) : State :=
  match s.conv.takeOver, s.config with
  | true, some c => takeConverterSettings c s
  | true, none | false, _ => s

/-- The pass in flight replaced. -/
def setPass (p : Option Pass) (s : State) : State := s.setConv { s.conv with pass := p }

/-- A pass begun with its test conversions, or an overrun (R60, R61, R75). -/
def beginPass (parked : Bool) (s : State) : State :=
  match s.conv.pass with
  | some _ => s.setConv { s.conv with overruns := (s.conv.overruns + 1) % 65536 }
  | none =>
    let s := takeOverConverter s
    match s.conv.settings with
    | some st => setPass (some { parked := parked, todo := st.positions parked, stage := .testing }) s
    | none => s

/-- Stages 1 and 2 of the first scan slot still to come, or the end of the pass (R64). -/
def Converter.openSlot (parked : Bool) (todo : List (Fin 16)) (v : Converter) : Option Pass :=
  match todo with
  | [] => none
  | i :: _ =>
    some
      { parked := parked
        todo := todo
        stage := if (v.scanSlot i).any (fun d => d.settleUs != 0) then .settling else .converting false 0 0 }

/-- The test conversions' limits (R62). -/
def testsPass (zero full : AdcCode) : Bool := decide (zero.toNat ≤ 8 ∧ 4087 ≤ full.toNat)

/-- The fault update that a failed test delivers for one scan slot (R63). -/
def deliverTestFail (i : Fin 16) (s : State) : State :=
  match s.conv.scanSlot i with
  | some d =>
    if s.conv.supply = .low ∧ d.channel ≠ 15 then s else deliver (.analog d.channel) (.fault .testFail) s
  | none => s

/-- The end of the test conversions (R62, R63). -/
def endTests (p : Pass) (zero full : AdcCode) (s : State) : State :=
  if testsPass zero full then
    setPass (s.conv.openSlot p.parked p.todo) (setCond .adcTestFail false s)
  else
    setPass none (p.todo.foldl (fun s i => deliverTestFail i s) (setCond .adcTestFail true s))

/-! ## From code to value -/

/-- The average of the conversions (R64, stage 4). -/
def averageOf (sum count : Nat) : Nat := (sum + count / 2) / count

/-- The window judgement (R65). -/
def ScanSlot.windowFault (d : ScanSlot) (avg : Nat) : Option FaultCause :=
  if !d.checked then none
  else if avg < d.lower then some .shortLow
  else if d.upper < avg then some .openHigh
  else none

/-- The filter output (R68). -/
def filterOutput (y : Int) : Int := (y + 32768) / 65536

/-- Whether a valid value counts toward a refuel (R70). -/
def refuelCounts (vspd : View) (d : ScanSlot) (x : Int) (y : Int) : Bool :=
  d.refuelThreshold != 0 && vspd.state == .live && vspd.value == 0
    && decide (d.refuelThreshold < (x - filterOutput y).natAbs)

/-- A scan slot after a valid value (R68 to R70). -/
def ScanState.takeValue (vspd : View) (d : ScanSlot) (x : Int) (z : ScanState) : ScanState :=
  if z.seed then { y := x * 65536, seed := false, refuel := 0 }
  else
    let count := if refuelCounts vspd d x z.y then z.refuel + 1 else 0
    if 10 ≤ count then { z with y := x * 65536, refuel := 0 }
    else { z with y := z.y + (x * 65536 - z.y) / (2 ^ d.shift : Nat), refuel := count }

/-- One scan slot's state replaced. -/
def setScanState (i : Fin 16) (z : ScanState) (s : State) : State :=
  s.setConv { s.conv with slots := s.conv.slots.set i z }

/-- The refuel count returned to 0 (R65, R66). -/
def clearRefuel (i : Fin 16) (s : State) : State := setScanState i { s.conv.slots[i] with refuel := 0 } s

/-! ## Supply state -/

/-- The supply state and low count after a judgement of `v` (R72). -/
def judgeSupply (v : Int) : Supply → Nat → Supply × Nat
  | .normal, n =>
    if v < 1600 then (if n + 1 < 2 then (.normal, n + 1) else (.low, 2))
    else if v ≤ 3200 then (.normal, 0)
    else (.high, 0)
  | .low, n =>
    if v < 1800 then (.low, n)
    else if v ≤ 3200 then (.normal, 0)
    else (.high, 0)
  | .high, n =>
    if v < 1600 then (.normal, 1)
    else if v ≤ 3100 then (.normal, 0)
    else (.high, n)

/-- The supply state replaced, with its conditions (R74) and the gauges held or resumed (R103, R104). -/
def changeSupply (new : Supply) (n : Nat) (s : State) : State :=
  let old := s.conv.supply
  let c := s.cycle.state
  let s := s.setConv { s.conv with supply := new, lowCount := n }
  let s := setCond .supplyHigh (new == .high) (setCond .supplyLow (new == .low) s)
  if old ≠ .low ∧ new = .low then forGauges (fun _ g => g.hold c) s
  else if old = .low ∧ new ≠ .low then forGauges (fun v g => g.resume c v) s
  else s

/-- The supply judged from a delivered AN15 value (R72, R74). -/
def supplyJudgement (v : Int) (s : State) : State :=
  let r := judgeSupply v s.conv.supply s.conv.lowCount
  changeSupply r.1 r.2 s

/-! ## Results -/

/-- The result of one scan slot at its stage 6 (R65 to R73, R76). An AN15 value is delivered before the supply is judged from it: DESIGN CHOICE,
log 41. A window fault of a parked pass that outlives a STARTING entry hands its cause where it finds the controller in PARKED again: DESIGN
CHOICE, log 50. -/
def scanResult (st : ConverterSettings) (parked : Bool) (i : Fin 16) (d : ScanSlot) (avg : Nat) (s : State) : State :=
  if s.conv.supply = .low ∧ d.channel ≠ 15 then s
  else
    match d.windowFault avg with
    | some cause =>
      let s := deliver (.analog d.channel) (.fault cause) (clearRefuel i s)
      if parked then addWakeCause .parkedWindow s else s
    | none =>
      if !st.curveValid[d.curve] then deliver (.analog d.channel) (.fault .curve) (clearRefuel i s)
      else
        let x := interpolate st.curves[d.curve] avg
        let z := s.conv.slots[i].takeValue s.signals[(0 : Fin 64)].view d x
        let s := deliver (.analog d.channel) (.value (filterOutput z.y)) (setScanState i z s)
        if d.channel = 15 then supplyJudgement (filterOutput z.y) s else s

/-- The pass moved on to its next scan slot. -/
def nextSlot (p : Pass) (s : State) : State := setPass (s.conv.openSlot p.parked p.todo.tail) s

/-- A conversion taken into the average, and the result judged at the last (R64). -/
def takeConversion (p : Pass) (i : Fin 16) (code sum taken : Nat) (s : State) : State :=
  match s.conv.settings, s.conv.scanSlot i with
  | some st, some d =>
    if taken + 1 < d.averaging then
      setPass (some { p with stage := .converting true (sum + code) (taken + 1) }) s
    else nextSlot p (scanResult st p.parked i d (averageOf (sum + code) d.averaging) s)
  | some _, none | none, _ => s

/-- A conversion's end (R64, stages 3 and 4). -/
def endConversion (p : Pass) (code : Nat) (s : State) : State :=
  match p.stage, p.todo with
  | .converting false _ _, _ => setPass (some { p with stage := .converting true 0 0 }) s
  | .converting true sum taken, i :: _ => takeConversion p i code sum taken s
  | .converting true _ _, [] | .testing, _ | .settling, _ => s

end Sys2Proof.Machine
end

