-- ==== Sys2Proof/Machine/IgnitionOps.lean ====
section
/-! DEFINITION. The entries into STARTING and STOPPING (R152, R155), the ignition events (R151) and the switch bank's acceptances
(R81 to R86). -/

namespace Sys2Proof.Machine

/-! ## Cycle entries -/

/-- The converter at a STARTING entry (R60, R69, R77). -/
def startConverter (s : State) : State :=
  let v := s.conv.seedFast
  s.setConv { v with
    parkedTimer := .stopped
    scanTimer :=
      if v.scanTimer.isRunning then v.scanTimer
      else s.config.elim .stopped fun c => .running c.timing.scanMs }

/-- A gauge at a STARTING entry (R100, R103). -/
def Gauge.start (supply : Supply) (v : View) (g : Gauge) : Gauge :=
  let g := g.startingEntry v
  if supply = .low then g.hold .starting else g

/-- The cycle controller's own part of a STARTING entry (R152): the window starts and the wake cause empties. -/
def openCycle (s : State) : State :=
  let c := s.cycle
  changeCycle .starting
    (s.setCycle { c with window := .running c.windowLength, causeSwitch := false, causeWindow := false })

/-- One gauge at a STARTING entry, with a notice also where it is PARKED again at once (R90, R100). -/
def startGauge (supply : Supply) (i : Fin 6) (s : State) : State :=
  let g := s.gauges[i]
  let v := gaugeView s g
  putGauge i (g.start supply v) (if g.reparks v then raiseItem (gaugeItem i) s else s)

/-- The gauges at a STARTING entry, from G0 to G5 (log 44). -/
def startGauges (supply : Supply) (s : State) : State := forAll 6 (startGauge supply) s

/-- STARTING entry (R152). -/
def enterStarting (s : State) : State :=
  newLampCycle (startConverter (startGauges s.conv.supply (openCycle s)))

/-- STOPPING entry (R155, R156). -/
def enterStopping (s : State) : State :=
  judgePassage
    (forGauges (fun _ g => g.ignitionOff)
      (changeCycle .stopping (s.setCycle { s.cycle with window := .stopped })))

/-- An ignition event (R151). -/
def ignitionEvent (on : Bool) (s : State) : State :=
  let s := s.setCycle { s.cycle with ignition := on }
  match s.cycle.state with
  | .parked => if on && !s.cycle.commitInFlight then enterStarting s else s
  | .starting | .run => if on then s else enterStopping s
  | .stopping => if on then enterStarting s else s
  | .load => s

/-! ## Switch bank -/

/-- One input replaced. -/
def setInput (i : Fin 24) (x : SwitchInput) (s : State) : State :=
  s.setSwitches { s.switches with inputs := s.switches.inputs.set i x }

/-- The ignition event of a change of SW23's logical level (R84). -/
def ignitionOf (i : Fin 24) (before : Option Bool) (after : Bool) (s : State) : State :=
  if i = 23 ∧ before.getD false ≠ after then ignitionEvent after s else s

/-- The wake cause of a change of a wake-capable input's logical level (R85). -/
def wakeOf (wake : Bool) (before : Option Bool) (after : Bool) (s : State) : State :=
  if wake && before == some (!after) then addWakeCause .switch s else s

/-- The value update of a logical level (R82). -/
def levelUpdate (level : Bool) : Update := .value (if level then 1 else 0)

/-- The update of an acceptance (R82): the claims that it concerns and the arbiter's choice are carried through (R117, R129) before the new
level is presented (log 34). -/
def deliverLevel (i : Fin 24) (after : Bool) (s : State) : State :=
  settleUnits true (deliver (.switch i) (levelUpdate after) s)

/-- The accepted level of an input, now held by the bank as `x`, presented to the telltale unit (R83): the claims that it concerns and the
arbiter's choice are carried through before an ignition event reads them (log 34). -/
def presentLevel (i : Fin 24) (x : SwitchInput) (s : State) : State := settleUnits true (setInput i x s)

/-- An acceptance, in the stages of R82: the update, the claim level, the ignition event, the wake cause; `x` is the input with its new
accepted level. -/
def acceptLevel (st : SwitchSettings) (i : Fin 24) (before : Option Bool) (after : Bool) (x : SwitchInput) (s : State) : State :=
  wakeOf st.wake[i] before after (ignitionOf i before after (presentLevel i x (deliverLevel i after s)))

/-- The raw level of an input changed (R81). -/
def SwitchInput.change (debounceMs : Nat) (l : Level) (x : SwitchInput) : SwitchInput :=
  { x with raw := l, debounce := if x.accepted = some l then .stopped else .running debounceMs }

/-- The expiry of a running debounce timer (R81). -/
def debounceExpiry (st : SwitchSettings) (i : Fin 24) (s : State) : State :=
  let x := s.switches.inputs[i]
  let x' : SwitchInput := { x with accepted := some x.raw, debounce := .stopped }
  if x.accepted = some x.raw then setInput i x' s
  else acceptLevel st i (x.accepted.map (logicalOf (st.polarity i))) (logicalOf (st.polarity i) x.raw) x' s

/-- The bank's settings taken at the exit from LOAD, with every first debounce started (R80, R87). -/
def takeSwitchSettings (c : Configuration) (s : State) : State :=
  s.setSwitches {
    settings := some c.switches
    inputs := Vector.ofFn fun i : Fin 24 =>
      { s.switches.inputs[i] with debounce := .running c.switches.debounceMs[i] } }

/-- One input at a commit's end (R86): debounce time, polarity, re-delivery. -/
def commitInput (old new : SwitchSettings) (i : Fin 24) (s : State) : State :=
  let x := s.switches.inputs[i]
  let s :=
    if x.debounce.isRunning then setInput i { x with debounce := .running new.debounceMs[i] } s else s
  match x.accepted with
  | none => s
  | some l =>
    let before := logicalOf (old.polarity i) l
    let after := logicalOf (new.polarity i) l
    let s := if before = after then s else wakeOf new.wake[i] (some before) after (ignitionOf i (some before) after s)
    deliver (.switch i) (levelUpdate after) s

/-- The bank's settings taken at a commit's end (R86). The inputs are worked through from SW0 to SW23, the three stages of one before the next:
DESIGN CHOICE, log 42. -/
def commitSwitches (c : Configuration) (s : State) : State :=
  let old := s.switches.settings.getD c.switches
  forAll 24 (commitInput old c.switches) (s.setSwitches { s.switches with settings := some c.switches })

end Sys2Proof.Machine
end

