-- ==== Sys2Proof/Machine/DistanceOps.lean ====
section
/-! DEFINITION. The distance counter: pulses and steps (R45 to R48), the odometer (R49 to R53), the trips (R54), reporting (R56) and the step size
(R57). -/

namespace Sys2Proof.Machine

/-- The top of the LDC and of the odometer. -/
def distanceTop : Nat := 999999999

/-- A trip after a step (R47). -/
def tripStep (t : Nat) : Nat := (t + 1) % 1000000

/-- One 0.1 km step (R47, R48). -/
def Distance.step (d : Distance) : Distance :=
  let d := if d.ldc < distanceTop then
      { d with ldc := d.ldc + 1, tripA := tripStep d.tripA, tripB := tripStep d.tripB }
    else d
  match d.odoState with
  | .unknown => d
  | .seeded | .tracked => { d with odo := min distanceTop (d.odo + 1) }

/-- One pulse (R45, R46). -/
def Distance.pulse (d : Distance) : Distance :=
  let r := d.residue + 10
  if d.stepSize ≤ r then Distance.step { d with residue := r - d.stepSize } else { d with residue := r }

/-- One handed edge (R45). -/
def Distance.edge (both : Bool) (d : Distance) : Distance :=
  if !both then d.pulse
  else if d.parityOdd then Distance.pulse { d with parityOdd := false }
  else { d with parityOdd := true }

/-- A tachograph odometer taken (R50, R51). -/
def Distance.adopt (t : Nat) (d : Distance) : Distance :=
  match d.odoState with
  | .unknown => { d with odo := t, odoState := .tracked }
  | .seeded | .tracked =>
    { d with
      odo := max d.odo t
      odoState := .tracked
      mismatch := decide (d.tolerance < max d.odo t - min d.odo t) }

/-- An accepted seed (R49). -/
def Distance.seed (v : Nat) (d : Distance) : Distance := { d with odo := v, odoState := .seeded }

/-- The step size taken from PC0 (R57). -/
def Distance.takeStepSize (k : Nat) (d : Distance) : Distance :=
  { d with stepSize := k, residue := if k = d.stepSize then d.residue else 0, parityOdd := false }

/-- Whether an event changed what item 111 shows (R56). -/
def distanceChanged (a b : Distance) : Bool :=
  a.odo != b.odo || a.odoState != b.odoState || a.mismatch != b.mismatch || a.ldc != b.ldc || a.tripA != b.tripA
    || a.tripB != b.tripB

/-- The distance counter after an event: ODO_MISMATCH follows the mark (R53), and item 111 is reported (R56). -/
def putDistance (d : Distance) (s : State) : State :=
  let before := s.dist
  let s := setCond .odoMismatch d.mismatch (s.setDist d)
  if distanceChanged before d then raiseItem distanceItem s else s

end Sys2Proof.Machine
end

