-- ==== Sys2Proof/Machine/PulseOps.lean ====
section
/-! DEFINITION. The pulse unit: edges (R27 to R29), windows (R30 to R33), rates (R34 to R40), delivery (R41, R42) and the
take-over of settings (R43). -/

namespace Sys2Proof.Machine

/-- One channel replaced. -/
def setChannel (c : Fin 4) (x : PulseChannel) (s : State) : State := s.setPulse (s.pulse.set c x)

/-! ## Rates -/

/-- The constant C of a result kind (Table 2-2). -/
def ResultKind.constant : ResultKind → Nat
  | .speed => 360000000000
  | .rotation => 60000000
  | .frequency => 100000000

/-- Whether an edge is captured (R27). -/
def EdgeSelect.captures : EdgeSelect → EdgeKind → Bool
  | .both, _ => true
  | .rising, .rising | .falling, .falling => true
  | .rising, .falling | .falling, .rising => false

/-- The edges per pulse, e (R27). -/
def EdgeSelect.perPulse : EdgeSelect → Nat
  | .both => 2
  | .rising | .falling => 1

/-- A time difference modulo 2^24 (R25). -/
def since (later earlier : Stamp) : Nat := (later - earlier).toNat

/-- A quotient rounded half up (R38). -/
def roundHalfUp (num den : Nat) : Nat := (num + den / 2) / den

/-- The rate of `n` edge intervals over a span (R34, R35, R37). -/
def PulseSettings.rate (st : PulseSettings) (n span : Nat) : Nat :=
  roundHalfUp (n * st.kind.constant) (span * st.scale * st.edges.perPulse)

/-- The creep flush (R39). -/
def PulseSettings.flush (st : PulseSettings) (r : Nat) : Nat := if r < st.creep then 0 else r

/-! ## Windows -/

/-- A noisy window (R33). -/
def PulseChannel.noisy (x : PulseChannel) : Bool := decide (x.n < x.rejected ∧ 4 < x.rejected)

/-- What an expiry forms: the update, and the carried state (R40). -/
structure WindowResult where
  update : Update
  current : Nat
  tPrev : Option Stamp
  spacingRef : Option Stamp
  deriving DecidableEq, Repr

/-- The carried state cleared, with an update (R33, R37). -/
def WindowResult.cleared (u : Update) : WindowResult := { update := u, current := 0, tPrev := none, spacingRef := none }

/-- A rate delivered, with the last edge carried (R40). -/
def WindowResult.rate (r : Nat) (last : Option Stamp) : WindowResult :=
  { update := .value r, current := r, tPrev := last, spacingRef := last }

/-- Stages 2 to 5 of an expiry (R32 to R40). -/
def PulseChannel.expire (st : PulseSettings) (now : Stamp) (x : PulseChannel) : WindowResult :=
  if x.noisy then .cleared (.fault .noise)
  else if x.n = 0 then
    match x.tPrev with
    | none => .cleared (.value 0)
    | some prev =>
      let elapsed := since now prev
      if st.zeroTimeoutMs * 1000 ≤ elapsed then .cleared (.value 0)
      else
        let r := st.flush (min x.current (st.rate 1 elapsed))
        { update := .value r, current := r, tPrev := x.tPrev, spacingRef := x.spacingRef }
  else
    match x.tPrev, x.tFirst, x.tLast with
    | some prev, _, some last => .rate (st.flush (st.rate x.n (since last prev))) x.tLast
    | none, some first, some last =>
      if 2 ≤ x.n then .rate (st.flush (st.rate (x.n - 1) (since last first))) x.tLast
      else .rate x.current x.tLast
    | _, _, none | none, none, some _ => .rate x.current x.tLast

/-- The window record cleared and the gate timer started (R30). -/
def PulseChannel.startWindow (gateMs : Nat) (x : PulseChannel) : PulseChannel :=
  { x with n := 0, tFirst := none, tLast := none, rejected := 0, gate := .running gateMs }

/-- Settings taken (R26): the carried state cleared. -/
def PulseChannel.takeSettings (st : PulseSettings) (x : PulseChannel) : PulseChannel :=
  { x with settings := some st, tPrev := none, spacingRef := none, current := 0, takeOver := false }

/-- Settings taken by a channel, and the step size by the distance counter from PC0 (R43, R57). -/
def takePulseSettings (c : Fin 4) (st : PulseSettings) (s : State) : State :=
  let s := setChannel c (s.pulse[c].takeSettings st) s
  if c = 0 then putDistance (s.dist.takeStepSize st.scale) s else s

/-- The gate timer started with the settings in use (R30). -/
def startGate (c : Fin 4) (s : State) : State :=
  match s.pulse[c].settings with
  | some st => setChannel c (s.pulse[c].startWindow st.gateMs) s
  | none => s

/-- The first gate start after LOAD (R30). -/
def firstGateStart (cfg : Configuration) (c : Fin 4) (s : State) : State :=
  startGate c (takePulseSettings c cfg.pulse[c] s)

/-- The settings that a pending take-over will take (R43). -/
def pendingPulseSettings (c : Fin 4) (s : State) : Option PulseSettings :=
  if s.pulse[c].takeOver then s.config.map fun cfg => cfg.pulse[c] else none

/-- A result below the creep threshold of new SPEED settings delivered as 0 (R43). -/
def overtaken (new : Option PulseSettings) (u : Update) : Update :=
  match new, u with
  | some st, .value v => if st.kind = .speed ∧ v < st.creep then .value 0 else .value v
  | some _, .fault c => .fault c
  | none, u => u

/-- Stage 8 of an expiry (R43). -/
def takeOverPulse (c : Fin 4) (s : State) : State :=
  match pendingPulseSettings c s with
  | some st => takePulseSettings c st s
  | none => s

/-- A gate expiry, with the counter already read (R32). -/
def gateExpiry (c : Fin 4) (st : PulseSettings) (s : State) : State :=
  let x := s.pulse[c]
  let r := x.expire st x.counter
  let new := pendingPulseSettings c s
  let s := setChannel c { x with current := r.current, tPrev := r.tPrev, spacingRef := r.spacingRef } s
  let s := deliver (.pulse c) (overtaken new r.update) s
  let s := if c = 0 then signalEvent .gate0 s else s
  startGate c (takeOverPulse c s)

/-! ## Edges -/

/-- An accepted edge in the window record (R29). -/
def PulseChannel.accept (x : PulseChannel) : PulseChannel :=
  { x with
    n := x.n + 1
    tFirst := if x.n = 0 then some x.counter else x.tFirst
    tLast := some x.counter
    spacingRef := some x.counter }

/-- Whether the spacing accepts an edge stamped with the counter (R28). -/
def PulseChannel.spaced (st : PulseSettings) (x : PulseChannel) : Bool :=
  x.spacingRef.all fun ref => decide (st.spacingUs ≤ since x.counter ref)

/-- A captured edge judged (R28, R29). -/
def capturedEdge (c : Fin 4) (st : PulseSettings) (s : State) : State :=
  let x := s.pulse[c]
  if x.spaced st then
    let s := setChannel c x.accept s
    if c = 0 then putDistance (s.dist.edge (st.edges == .both)) s else s
  else setChannel c { x with rejected := x.rejected + 1 } s

/-- The capture counter after some microseconds (R25, log 3). -/
def advanceCounter (c : Fin 4) (elapsed : Nat) (s : State) : State :=
  let x := s.pulse[c]
  setChannel c { x with counter := x.counter + BitVec.ofNat 24 elapsed } s

/-- The settings of a channel whose gate timer runs. -/
def PulseChannel.gated (x : PulseChannel) : Option PulseSettings := if x.gate.isRunning then x.settings else none

end Sys2Proof.Machine
end

