-- ==== Sys2Proof/Machine/ReadoutOps.lean ====
section
/-! DEFINITION. The tachograph readout unit: validation (R137), arrivals (R138), aging and estimation (R139 to R141), link loss (R142),
the remaining time and the conditions (R143 to R145), reporting (R146) and settings (R135, R147). -/

namespace Sys2Proof.Machine

/-! ## Validation (R137) -/

/-- A field brought into range, and whether that was a clamp. -/
def atMost (hi x : Nat) : Nat × Bool := (min hi x, decide (hi < x))

/-- Driver 1's activity. -/
def activity1 (code : Nat) : Activity × Bool :=
  match Activity.ofCode code with
  | some .absent | none => (.unknown, true)
  | some a => (a, false)

/-- Driver 2's activity. -/
def activity2 (code : Nat) : Activity × Bool :=
  match Activity.ofCode code with
  | none => (.unknown, true)
  | some a => (a, false)

/-- A card. -/
def cardOf (code : Nat) : Card × Bool :=
  match Card.ofCode code with
  | none => (.fault, true)
  | some c => (c, false)

/-- The local time; 0xFFFF is absent. -/
def localTimeOf (x : Nat) : Option Nat × Bool :=
  if x = 0xFFFF then (none, false) else if 1439 < x then (none, true) else (some x, false)

/-- A warning code within the count. -/
def warningOf (code : Nat) : Warning × Bool :=
  match Warning.ofCode code with
  | none => (.other, true)
  | some w => (w, false)

/-- The record of a TACHO write element (Table 12-5), and whether validation brought a field into range. -/
def validateRecord (r : List Byte) : TachoRecord × Bool :=
  let a1 := activity1 (byteAt r 0)
  let a2 := activity2 (byteAt r 1)
  let c1 := cardOf (byteAt r 2)
  let c2 := cardOf (byteAt r 3)
  let cont := atMost 1440 (wordAt r 4)
  let brk := atMost 1440 (wordAt r 6)
  let daily := atMost 1440 (wordAt r 8)
  let weekly := atMost 9999 (wordAt r 10)
  let odo := atMost distanceTop (longAt r 14)
  let time := localTimeOf (wordAt r 18)
  let count := atMost 4 (byteAt r 20)
  let codes := (List.range count.1).map fun k => warningOf (byteAt r (21 + k))
  ({ driver1 := a1.1, driver2 := a2.1, card1 := c1.1, card2 := c2.1, continuous := cont.1, currentBreak := brk.1
     daily := daily.1, weekly := weekly.1, speed := wordAt r 12, odometer := odo.1, localTime := time.1
     warnings := codes.map (·.1) },
    a1.2 || a2.2 || c1.2 || c2.2 || cont.2 || brk.2 || daily.2 || weekly.2 || odo.2 || time.2 || count.2
      || codes.any (·.2))

/-! ## Figures and conditions -/

/-- The remaining time to break (R143). -/
def Readout.remainingTime (st : ReadoutSettings) (r : Readout) : Nat :=
  if r.state = .none then 0 else st.limit - r.continuous

/-- TACHO_PREWARN and TACHO_LIMIT judged (R144). -/
def judgeDriving (st : ReadoutSettings) (s : State) : State :=
  let on := s.tacho.state != .none
  setCond .tachoLimit (on && decide (st.limit ≤ s.tacho.continuous))
    (setCond .tachoPrewarn (on && decide (st.prewarn ≤ s.tacho.continuous)) s)

/-- TACHO_STALE by the readout state (R145). -/
def judgeStale (s : State) : State :=
  setCond .tachoStale (s.tacho.state == .estimated || s.tacho.state == .lost) s

/-- TACHO_CARD_DRIVING and TACHO_WARNING from a record (R145). -/
def judgeRecord (r : TachoRecord) (s : State) : State :=
  setCond .tachoWarning (!r.warnings.isEmpty)
    (setCond .tachoCardDriving (r.driver1 == .drive && r.card1 == .absent) s)

/-- Item 110 reported, once the conditions have been handed to the telltale unit (R145, R146). -/
def reportTacho (s : State) : State := raiseItem tachoItem (settleUnits true s)

/-! ## Events -/

/-- Stage 1 of an arrival (R138). -/
def storeRecord (rec : TachoRecord) (s : State) : State :=
  s.setTacho { s.tacho with record := some rec, age := 0, ageTimer := .running 100 }

/-- Stages 4 and 5 of an arrival (R138). -/
def becomeCurrent (st : ReadoutSettings) (rec : TachoRecord) (s : State) : State :=
  let r := { s.tacho with
    state := .current, continuous := rec.continuous, daily := rec.daily
    estimation := .stopped, drivingSeconds := 0, estimationTime := 0 }
  judgeStale (judgeRecord rec (judgeDriving st (s.setTacho { r with remaining := r.remainingTime st })))

/-- A record arrival (R138). -/
def recordArrival (rec : TachoRecord) (s : State) : State :=
  match s.tacho.settings with
  | none => s
  | some st =>
    let s := storeRecord rec s
    let s := deliverTo (.link .tlink) (.value rec.speed) 2 s
    let s := putDistance (s.dist.adopt rec.odometer) s
    signalEvent .tachoRecord (reportTacho (becomeCurrent st rec s))

/-- The entry into ESTIMATED (R139, R140). -/
def enterEstimated (s : State) : State :=
  reportTacho (judgeStale (s.setTacho { s.tacho with
    state := .estimated, estimation := .running 1000, drivingSeconds := 0, estimationTime := 0 }))

/-- The age timer's expiry, if it runs (R139). -/
def recordAgeExpiry (st : ReadoutSettings) (s : State) : State :=
  if s.tacho.ageTimer.isRunning then
    let age := min 65535 (s.tacho.age + 1)
    let s := s.setTacho { s.tacho with age := age }
    if s.tacho.state = .current ∧ 10 * st.staleS ≤ age then enterEstimated s else s
  else s

/-- Whether a second is a driving second (R140). -/
def drivingSecond (st : ReadoutSettings) (vspd : View) : Bool :=
  vspd.serves && decide ((st.motion : Int) ≤ vspd.value)

/-- One second of estimation in the readout (R140, R141). -/
def Readout.estimate (st : ReadoutSettings) (driving : Bool) (r : Readout) : Readout :=
  let count := if driving then r.drivingSeconds + 1 else r.drivingSeconds
  let r := { r with estimationTime := r.estimationTime + 1, drivingSeconds := count }
  let r :=
    if 60 ≤ count then
      { r with drivingSeconds := 0, continuous := min 1440 (r.continuous + 1), daily := min 1440 (r.daily + 1) }
    else r
  let r := { r with remaining := r.remainingTime st }
  if 1800 ≤ r.estimationTime then { r with state := .lost, estimation := .stopped } else r

/-- Whether a second of estimation is reported (R140, R141, R146): the driving-second count has reached 60, or the state changed. A count of 60
that finds both figures at 1,440 is reported by R140, though it adds no minute: DEDUCED, log 47. -/
def estimateReported (before after : Readout) : Bool :=
  before.state != after.state || decide (after.drivingSeconds < before.drivingSeconds)

/-- The estimation timer's expiry, if it runs (R140, R141). -/
def estimationExpiry (st : ReadoutSettings) (s : State) : State :=
  if s.tacho.estimation.isRunning then
    let r := s.tacho.estimate st (drivingSecond st s.signals[(0 : Fin 64)].view)
    let reported := estimateReported s.tacho r
    let s := judgeStale (judgeDriving st (s.setTacho r))
    if reported then reportTacho s else s
  else s

/-- The loss of the T-link (R142). -/
def readoutLinkLoss (s : State) : State :=
  match s.tacho.state with
  | .current | .estimated => reportTacho (judgeStale (s.setTacho { s.tacho with state := .lost, estimation := .stopped }))
  | .none | .lost => s

/-- Settings taken at the exit from LOAD and at a commit's end (R135, R143, R147). -/
def takeReadoutSettings (c : Configuration) (s : State) : State :=
  let before := s.tacho.remaining
  let r := { s.tacho with settings := some c.readout }
  let s := judgeDriving c.readout (s.setTacho { r with remaining := r.remainingTime c.readout })
  if before = s.tacho.remaining then s else reportTacho s

end Sys2Proof.Machine
end

