-- ==== Sys2Proof/Machine/ResetOps.lean ====
section
/-! DEFINITION. The resets (R149, R161), the configuration load and the exit from LOAD (R150, R183), and the end of a commit (R188). -/

namespace Sys2Proof.Machine

/-! ## Resets -/

/-- The controller conditions that a restart keeps (R53, R189). -/
def keptConditions (raised : Vector Bool 14) : Vector Bool 14 :=
  Vector.ofFn fun i : Fin 14 =>
    (i == Condition.configDefaults.index || i == Condition.odoMismatch.index) && raised[i]

/-- The pins' levels, with the debounce as R87 leaves it. -/
def resetInputs (b : SwitchBank) : SwitchBank :=
  { settings := none, inputs := b.inputs.map fun x => SwitchInput.reset x.raw }

/-- A controller restart carried out (R161): R23, R44, R58, R78, R87, R109, R134, R148, R149, R180, R189. -/
def restart (s : State) : State where
  signals := s.signals.map fun e => Entry.emptied e.desc
  pulse := .replicate 4 .reset
  dist := { s.dist with parityOdd := false }
  conv := .reset
  switches := resetInputs s.switches
  gauges := .replicate 6 .reset
  lamps := .reset s.lamps.slowOn s.lamps.fastOn
  tacho := .reset
  cycle := .reset s.cycle.windowLength
  ports :=
    { dlink := .reset s.ports.dlink.timeout s.ports.dlink.period.afterReset
      nlink := .reset s.ports.nlink.timeout s.ports.nlink.period.afterReset
      tlink := .reset s.ports.tlink.timeout s.ports.tlink.period.afterReset
      bitRate := s.ports.bitRate }
  store := s.store
  conditions := keptConditions s.conditions
  pending := s.pending

/-- A power-on reset (R149): every block at its power-on values; the image, the pins and the queue are not the part's to reset. -/
def powerOn (strap : BitRate) (s : State) : State :=
  { State.reset with
    switches := resetInputs s.switches
    ports :=
      { dlink := .reset 0 s.ports.dlink.period.afterReset
        nlink := .reset 0 s.ports.nlink.period.afterReset
        tlink := .reset 0 s.ports.tlink.period.afterReset
        bitRate := strap }
    store := .reset s.store.image
    pending := s.pending }

/-! ## Exit from LOAD -/

/-- A gauge's settings of a configuration, with the store's curve mark (R88). -/
def gaugeSettings (c : Configuration) (marks : Vector Bool 6) (i : Fin 6) : GaugeSettings :=
  { desc := c.gauges[i], curveValid := marks[i] }

/-- The gauges' settings taken at the exit from LOAD (R88). -/
def takeGaugeSettings (c : Configuration) (s : State) : State :=
  s.setGauges (Vector.ofFn fun i : Fin 6 =>
    { s.gauges[i] with settings := some (gaugeSettings c s.store.gaugeMarks i) })

/-- The link timeout of a port. -/
def TimingSettings.timeout (t : TimingSettings) : Port → Nat
  | .dlink => t.timeoutD
  | .nlink => t.timeoutN
  | .tlink => t.timeoutT

/-- The link timeouts taken (R180). A timer that runs keeps its time, and LINKS shows the timeout taken at once: DESIGN CHOICE, log 52. -/
def takeTimeouts (c : Configuration) (s : State) : State :=
  let l := s.ports
  s.setPorts { l with
    dlink := { l.dlink with timeout := c.timing.timeout .dlink }
    nlink := { l.nlink with timeout := c.timing.timeout .nlink }
    tlink := { l.tlink with timeout := c.timing.timeout .tlink } }

/-- The window length taken (R150). -/
def takeWindowLength (c : Configuration) (s : State) : State :=
  s.setCycle { s.cycle with windowLength := c.timing.bulbMs }

/-- The link timer started afresh (R174). -/
def PortState.startTimer (x : PortState) : PortState := { x with linkTimer := .running x.timeout }

/-- Whether a frame of the port is held at a WAIT. -/
def PortState.held (x : PortState) : Bool := x.exec.any (·.hold.isSome)

/-- The link timers at the exit from LOAD (R174): each link that is UP, unless its port holds a frame (log 23). -/
def startLinkTimers (s : State) : State :=
  mapPorts (fun x => if x.link = .up ∧ x.held = false then x.startTimer else x) s

/-- The settings that the blocks take at the exit from LOAD (R150, R180). -/
def takeAllSettings (c : Configuration) (s : State) : State :=
  let s := takeWindowLength c s
  let s := forAll 4 (firstGateStart c) s
  let s := takeConverterSettings c s
  let s := takeSwitchSettings c s
  let s := takeGaugeSettings c s
  let s := takeLampSettings c s
  let s := takeReadoutSettings c s
  startLinkTimers (takeTimeouts c s)

/-- The state entered from LOAD (R150). -/
def leaveLoad (s : State) : State := if s.cycle.ignition then enterStarting s else enterParked s

/-- The exit from LOAD (R150). The first judgement of the telltales raises no notice (R134). -/
def loadExit (s : State) : State :=
  match s.config with
  | some c => settleUnits false (leaveLoad (takeAllSettings c s))
  | none => s

/-! ## Configuration load -/

/-- The store at the end of the load (R183, R184, R185). -/
def ConfigStore.load (st : ConfigStore) : ConfigStore :=
  match soundImage st.image with
  | some c =>
    { st with
      inForce := some c, state := .loaded, staging := st.image
      senderMarks := Sys2Proof.Machine.senderMarks c, gaugeMarks := Sys2Proof.Machine.gaugeMarks c }
  | none =>
    { st with
      inForce := some builtInDefaults, state := .defaults, staging := Memory.ofBytes builtInDefaults.bytes
      senderMarks := Sys2Proof.Machine.senderMarks builtInDefaults
      gaugeMarks := Sys2Proof.Machine.gaugeMarks builtInDefaults }

/-- The descriptors and the tolerance taken at the end of the load (R1, R22, R57). -/
def takeLoaded (s : State) : State :=
  match s.config with
  | some c => emptyTable c.descriptors (s.setDist { s.dist with tolerance := c.odoTolerance })
  | none => s

/-- The load of the image (R183). -/
def loadImage (s : State) : State :=
  let s := s.setStore s.store.load
  takeLoaded (setCond .configDefaults (s.store.state == .defaults) s)

/-! ## End of a commit -/

/-- A gauge at a commit's end (R108). -/
def Gauge.commit (gs : GaugeSettings) (g : Gauge) : Gauge :=
  let travelKept := g.settings.any fun old => old.desc.fullScale = gs.desc.fullScale && old.desc.park = gs.desc.park
  if g.state = .parked ∧ travelKept = false then { Gauge.reset with settings := some gs }
  else { g with settings := some gs }

/-- The gauges at a commit's end (R108), from G0 to G5 (log 44). -/
def commitGauges (c : Configuration) (s : State) : State :=
  forAll 6 (fun i s => putGauge i (s.gauges[i].commit (gaugeSettings c s.store.gaugeMarks i)) s) s

/-- Take-over pending set on every pulse channel and on the converter (R43, R77). -/
def setTakeOvers (s : State) : State :=
  let s := s.setPulse (s.pulse.map fun x => { x with takeOver := true })
  s.setConv { s.conv with takeOver := true }

/-- The image programmed and put in force (R187, R188). -/
def putInForce (c : Configuration) (s : State) : State :=
  s.setStore { s.store with
    image := s.store.staging, inForce := some c
    senderMarks := Sys2Proof.Machine.senderMarks c, gaugeMarks := Sys2Proof.Machine.gaugeMarks c }

/-- The eight stages in which the blocks take a new configuration (R188). -/
def handConfiguration (c : Configuration) (s : State) : State :=
  let s := noticeAllEntries (emptyTable c.descriptors s)
  let s := s.setDist { s.dist with tolerance := c.odoTolerance }
  let s := commitSwitches c s
  let s := settleUnits true (commitLampSettings c s)
  let s := commitGauges c s
  let s := takeReadoutSettings c s
  let s := takeWindowLength c (takeTimeouts c s)
  setTakeOvers s

/-- The store becomes LOADED and reports the end of the commit (R188, R158). -/
def closeCommit (s : State) : State :=
  let s := setCond .configDefaults false (s.setStore { s.store with state := .loaded, programming := false })
  s.setCycle { s.cycle with commitInFlight := false }

/-- What the cycle controller does at the end of a commit (R158). -/
def afterCommit (s : State) : State :=
  if s.cycle.restartPending then restart s
  else if s.cycle.ignition then enterStarting s
  else s

/-- The end of programming (R188). The staging buffer was validated at the COMMIT, and cannot have changed since. -/
def commitEnd (s : State) : State :=
  match parseImage s.store.staging with
  | some c => afterCommit (closeCommit (handConfiguration c.normal (putInForce c s)))
  | none => s

end Sys2Proof.Machine
end

