-- ==== Sys2Proof/Machine/RequestOps.lean ====
section
/-! DEFINITION. The requests of an access frame: division (R167), READ (R169, R170), WRITE (R171, R172, and the owning blocks' rules),
WAIT (R173), CHANGES (R177). -/

namespace Sys2Proof.Machine

/-! ## Division of the body (R167) -/

/-- The requests of a body; a fault of structure is the last. The first argument bounds their number (`requestsOf` gives the body's length). DESIGN
CHOICE (log 54, unsafe): a request cut within its three bytes is LENGTH whatever its first byte holds; R167 gives no order among its four faults. -/
def divideBody : Nat → List Byte → List Request
  | 0, _ | _, [] => []
  | n + 1, k :: i :: c :: rest =>
    let region := k.toNat % 16
    let count := c.toNat
    match k.toNat / 16 with
    | 1 => .read region i.toNat count :: divideBody n rest
    | 2 =>
      match Region.ofNumber region with
      | none => [.faulty .noRegion]
      | some r =>
        let need := count * r.writeSize
        if rest.length < need then [.faulty .length]
        else .write r i.toNat count (rest.take need) :: divideBody n (rest.drop need)
    | 3 => .wait i.toNat count :: divideBody n rest
    | 4 => .changes count :: divideBody n rest
    | _ => [.faulty .noKind]
  | _ + 1, [_] | _ + 1, [_, _] => [.faulty .length]

/-- The requests of a body. -/
def requestsOf (body : List Byte) : List Request := divideBody body.length body

/-- The room left for data in the reply body (R170): 240 bytes less the frame status and a result head for every request. -/
def replyRoom (requests : Nat) : Nat := 240 - 1 - 2 * requests

/-! ## Results -/

/-- The frame in execution at a port changed. -/
def mapExec (f : FrameExec → FrameExec) (p : Port) (s : State) : State :=
  setPort p { s.port p with exec := (s.port p).exec.map f } s

/-- A request's result joined to the reply (R190); a refusal counts (R179). -/
def pushResult (p : Port) (o : RequestOutcome) (count : Nat) (data : List Byte) (s : State) : State :=
  let s := mapExec (fun f =>
    { f with results := f.results ++ resultBytes o count data, room := f.room - data.length }) p s
  let x := s.port p
  if o.isRefusal then setPort p { x with counters := { x.counters with refused := x.counters.refused + 1 } } s else s

/-- A port's cursor of a region. -/
def PortState.cursor (x : PortState) (r : Region) : Nat := x.cursors[r.number]

/-- A port's cursor moved. -/
def setCursor (p : Port) (r : Region) (i : Nat) (s : State) : State :=
  let x := s.port p
  setPort p { x with cursors := x.cursors.set r.number i } s

/-- The first element of a request: the cursor for an index of 255 (R169). -/
def firstElement (x : PortState) (r : Region) (index : Nat) : Nat := if index = 255 then x.cursor r else index

/-- Whether index and count lie in their legal sets (R169). -/
def legalSpan (r : Region) (index count : Nat) : Bool :=
  (index == 255 || decide (index < r.elements)) && decide (1 ≤ count ∧ count ≤ r.elements)

/-- The room left in the reply of the frame in execution. -/
def PortState.room (x : PortState) : Nat := x.exec.elim 0 (·.room)

/-! ## READ -/

/-- A READ that passes its judgement (R169, R170). -/
def readElements (p : Port) (r : Region) (index count : Nat) (s : State) : State :=
  let x := s.port p
  let first := firstElement x r index
  let n := min count (x.room / r.readSize)
  let data := (List.range n).flatMap fun k => readElement r p ((first + k) % r.elements) s
  let s := if n = 0 then s else setCursor p r ((first + n) % r.elements) s
  pushResult p (if n < count then .short else .ok) n data s

/-- A READ (R167, R168, R169). -/
def runRead (p : Port) (region index count : Nat) (s : State) : State :=
  match Region.ofNumber region with
  | none => pushResult p .noRegion 0 [] s
  | some r =>
    if !r.readable p then pushResult p .rights 0 [] s
    else if !legalSpan r index count then pushResult p .range 0 [] s
    else readElements p r index count s

/-! ## WRITE: judgement of one element (R171) -/

/-- A refusal where a condition holds. -/
def refuseIf (b : Bool) (o : RequestOutcome) : Option RequestOutcome := if b then some o else none

/-- LOAD. -/
def State.inLoad (s : State) : Bool := s.cycle.state == .load

/-- SIGNALS (R3, R10, R191). Before the first load there is no descriptor to list a port (log 38). -/
def judgeSignal (s : State) (p : Port) (e : Entry) (data : List Byte) : Option RequestOutcome :=
  (refuseIf (s.store.inForce.isSome && e.slotOf p == 0) .notSource).or
    ((refuseIf s.inLoad .state).or (refuseIf (decide (1 < byteAt data 2)) .range))

/-- TELLTALES (R110, R115). -/
def judgeTelltale (s : State) (p : Port) (i : Fin 40) (data : List Byte) : Option RequestOutcome :=
  match s.lamps.settings with
  | none => some .state
  | some st =>
    (refuseIf (!st.telltales[i].claims.contains (.port p)) .notSource).or
      ((refuseIf s.inLoad .state).or (refuseIf (decide (3 < byteAt data 0)) .range))

/-- CHIMES (R110, R115). -/
def judgeChime (s : State) (p : Port) (i : Fin 8) (data : List Byte) : Option RequestOutcome :=
  match s.lamps.settings with
  | none => some .state
  | some st =>
    (refuseIf (!st.chimes[i].claims.contains (.port p)) .notSource).or
      ((refuseIf s.inLoad .state).or (refuseIf (decide (1 < byteAt data 0)) .range))

/-- DISTANCE (R49, R54, R55). -/
def judgeDistance (d : Distance) (i : Nat) (data : List Byte) : Option RequestOutcome :=
  if i = 1 then some .rights
  else if i = 0 then
    (refuseIf (d.odoState != .unknown) .state).or (refuseIf (decide (distanceTop < longAt data 0)) .range)
  else refuseIf (longAt data 0 != 0) .range

/-- WATCH (R176): items 113 to 119 do not exist. -/
def judgeWatch (j : Nat) (data : List Byte) : Option RequestOutcome :=
  refuseIf (j == 14 && decide (1 < byteAt data 0)) .range

/-- CONFIG (R185). -/
def judgeConfig (s : State) : Option RequestOutcome :=
  refuseIf (s.cycle.state != .parked || !(s.store.state == .loaded || s.store.state == .defaults)) .state

/-- COMMIT (R186). -/
def judgeCommit (s : State) (v : Nat) : Option RequestOutcome :=
  (refuseIf (s.cycle.state != .parked || s.store.state == .committing || s.store.state == .loading) .state).or
    ((refuseIf (v != 1) .range).or
      (refuseIf (!imageCrcMatches s.store.staging || (parseImage s.store.staging).isNone) .range))

/-- CONTROL (R168, R172). -/
def judgeControl (s : State) (p : Port) (i : Nat) (data : List Byte) : Option RequestOutcome :=
  let v := byteAt data 0
  if i = 2 then refuseIf (v != 1) .range
  else if p ≠ .dlink then some .rights
  else if i = 0 then judgeCommit s v
  else (refuseIf s.inLoad .state).or (refuseIf (v != 1) .range)

/-- The refusal of one write element, if any (R171). -/
def judgeElement (r : Region) (p : Port) (i : Nat) (data : List Byte) (s : State) : Option RequestOutcome :=
  match r with
  | .signals => (finOf 64 i).bind fun e => judgeSignal s p s.signals[e] data
  | .telltales => (finOf 40 i).bind fun t => judgeTelltale s p t data
  | .chimes => (finOf 8 i).bind fun k => judgeChime s p k data
  | .tacho => refuseIf s.inLoad .state
  | .distance => judgeDistance s.dist i data
  | .watch => judgeWatch i data
  | .config => judgeConfig s
  | .control => judgeControl s p i data
  | .directory | .signalDetail | .gauges | .links | .cycleState => some .rights

/-! ## WRITE: effect of one element -/

/-- The update that a SIGNALS element carries (R3). -/
def signalUpdate (data : List Byte) : Update := if byteAt data 2 = 0 then .value (signedAt data 0) else .fault .port

/-- A port's pattern for a telltale written (R115). -/
def writePattern (p : Port) (i : Fin 40) (v : Pattern) (s : State) : State :=
  let u := s.lamps
  let t := u.telltales[i]
  s.setLamps { u with telltales := u.telltales.set i { t with patterns := t.patterns.put p v } }

/-- A port's claim on a chime written (R115). -/
def writeChimeClaim (p : Port) (i : Fin 8) (v : Bool) (s : State) : State :=
  let u := s.lamps
  let t := u.chimes[i]
  s.setLamps { u with chimes := u.chimes.set i { t with portClaims := t.portClaims.put p v } }

/-- A seed or a trip reset (R49, R54). -/
def writeDistance (i : Nat) (v : Nat) (s : State) : State :=
  let d := s.dist
  putDistance (if i = 0 then d.seed v else if i = 2 then { d with tripA := 0 } else { d with tripB := 0 }) s

/-- A WATCH element written (R176): removed items leave the change list. -/
def PortState.setWatch (j : Nat) (bits : Nat) (x : PortState) : PortState :=
  let w := Vector.ofFn fun i : Fin 113 => if (i : Nat) / 8 = j then bitOf bits (i % 8) else x.watch[i]
  { x with watch := w, changes := x.changes.filter fun i => w[i] }

/-- A COMMIT accepted (R186, R158): the programming waits for the end of the frame (R187). -/
def beginCommit (p : Port) (s : State) : State :=
  let s := s.setStore { s.store with state := .committing }
  let s := s.setCycle { s.cycle with commitInFlight := true }
  mapExec (fun f => { f with commit := true }) p s

/-- A RESTART accepted: pending while a commit is in flight, else carried out (R158, R161). -/
def requestRestart (s : State) : State :=
  if s.cycle.commitInFlight then s.setCycle { s.cycle with restartPending := true } else restart s

/-- A CONTROL request accepted (R172). -/
def runControl (p : Port) (i : Nat) (s : State) : State :=
  if i = 0 then beginCommit p s else if i = 1 then requestRestart s else releaseWake s

/-- The effect of one write element that has passed its judgement. -/
def writeElement (r : Region) (p : Port) (i : Nat) (data : List Byte) (s : State) : State :=
  match r with
  | .signals => (finOf 64 i).elim s fun e => deliverTo (.link p) (signalUpdate data) e s
  | .telltales =>
    (finOf 40 i).elim s fun t => writePattern p t ((Pattern.ofCode (byteAt data 0)).getD .off) s
  | .chimes => (finOf 8 i).elim s fun k => writeChimeClaim p k (byteAt data 0 == 1) s
  | .tacho => recordArrival (validateRecord data).1 s
  | .distance => writeDistance i (longAt data 0) s
  | .watch => setPort p ((s.port p).setWatch i (byteAt data 0)) s
  | .config => s.setStore { s.store with staging := Memory.writeBlock s.store.staging i data }
  | .control => runControl p i s
  | .directory | .signalDetail | .gauges | .links | .cycleState => s

/-- Whether a write element is brought into range (R171). -/
def clampsElement (r : Region) (i : Nat) (data : List Byte) (s : State) : Bool :=
  match r with
  | .signals =>
    (finOf 64 i).elim false fun e => byteAt data 2 == 0 && (s.signals[e].desc.store (signedAt data 0)).2
  | .tacho => (validateRecord data).2
  | .telltales | .chimes | .distance | .watch | .config | .control | .directory | .signalDetail | .gauges | .links
  | .cycleState => false

/-- The elements of a WRITE with their data, in element order (R169). -/
def writeItems (r : Region) (first count : Nat) (data : List Byte) : List (Nat × List Byte) :=
  (List.range count).map fun k => ((first + k) % r.elements, (data.drop (k * r.writeSize)).take r.writeSize)

/-- The first refusal among the elements of a WRITE (R171). -/
def firstRefusal (r : Region) (p : Port) (items : List (Nat × List Byte)) (s : State) : Option RequestOutcome :=
  items.findSome? fun it => judgeElement r p it.1 it.2 s

/-- A WRITE carried out: its elements in order (log 33), its cursor and its result (R169, R171). -/
def applyWrite (p : Port) (r : Region) (first count : Nat) (items : List (Nat × List Byte)) (s : State) : State :=
  let clamped := items.any fun it => clampsElement r it.1 it.2 s
  let s := setCursor p r ((first + count) % r.elements) s
  let s := items.foldl (fun s it => writeElement r p it.1 it.2 s) s
  pushResult p (if clamped then .okClamped else .ok) count [] s

/-- Whether a WRITE's index and count are legal; CONTROL takes a count of 1 alone (R169, R172). -/
def legalWrite (r : Region) (index count : Nat) : Bool := legalSpan r index count && (r != .control || count == 1)

/-- A WRITE (R167 to R172). -/
def runWrite (p : Port) (r : Region) (index count : Nat) (data : List Byte) (s : State) : State :=
  if !r.writable p then pushResult p .rights 0 [] s
  else if !legalWrite r index count then pushResult p .range 0 [] s
  else
    let first := firstElement (s.port p) r index
    let items := writeItems r first count data
    match firstRefusal r p items s with
    | some o => pushResult p o 0 [] s
    | none => applyWrite p r first count items s

/-! ## WAIT and CHANGES -/

/-- The frame held, with its WAIT timer; the link timer stops (R173, R174). -/
def holdFrame (p : Port) (ev : WaitEvent) (count : Nat) (s : State) : State :=
  let s := mapExec (fun f => { f with hold := some (ev, .running (10 * count)) }) p s
  setPort p { s.port p with linkTimer := .stopped } s

/-- A WAIT (R173). -/
def runWait (p : Port) (index count : Nat) (s : State) : State :=
  match WaitEvent.ofIndex index with
  | none => pushResult p .range 0 [] s
  | some ev =>
    if count = 0 ∨ 200 < count then pushResult p .range 0 [] s
    else if ev = .change ∧ (s.port p).changes ≠ [] then pushResult p .ok 0 [] s
    else holdFrame p ev count s

/-- A CHANGES (R177). -/
def runChanges (p : Port) (count : Nat) (s : State) : State :=
  if count = 0 then pushResult p .range 0 [] s
  else
    let x := s.port p
    let asked := min count x.changes.length
    let n := min asked x.room
    let items := x.changes.take n
    let s := setPort p { x with changes := x.changes.drop n } s
    pushResult p (if n < asked then .short else .ok) n (items.map fun i => byte i) s

/-! ## Requests of a frame -/

/-- One request (R167). -/
def runRequest (p : Port) (q : Request) (s : State) : State :=
  match q with
  | .read region index count => runRead p region index count s
  | .write r index count data => runWrite p r index count data s
  | .wait index count => runWait p index count s
  | .changes count => runChanges p count s
  | .faulty o => pushResult p o 0 [] s

end Sys2Proof.Machine
end

