-- ==== Sys2Proof/Machine/FrameOps.lean ====
section
/-! DEFINITION. The execution of access frames (R165 to R167, R174, R175, R187, R190) and the end of every event. -/

namespace Sys2Proof.Machine

/-! ## Replies -/

/-- The opening codes (Table 12-1). -/
def requestOpening : Byte := 0xB4
/-- See `requestOpening`. -/
def replyOpening : Byte := 0x4B

/-- The bytes of a CRC, high byte first. -/
def crcBytes (bs : List Byte) : List Byte := word (crc16 bs).toNat

/-- A reply frame (Table 12-1, R190). -/
def replyFrame (sequence : Byte) (status : FrameStatus) (results : List Byte) : List Byte :=
  let covered := byte (1 + results.length) :: sequence :: byte status.code :: results
  replyOpening :: covered ++ crcBytes covered

/-! ## Execution -/

/-- Whether a frame of a port is in execution (R166): on the T-link, until its reply has been sent. -/
def PortState.inExecution (p : Port) (x : PortState) : Bool := x.exec.isSome || (p == .tlink && x.reply.isSome)

/-- A frame that may run its next request or end. -/
def PortState.runnable (x : PortState) : Bool := x.exec.any fun f => f.hold.isNone

/-- The first port with a runnable frame: D, N, T (log 4). -/
def State.nextRunnable (s : State) : Option Port :=
  if s.ports.dlink.runnable then some .dlink
  else if s.ports.nlink.runnable then some .nlink
  else if s.ports.tlink.runnable then some .tlink
  else none

/-- Programming begun (R187): block 239 of the image erased. -/
def startProgramming (s : State) : State :=
  s.setStore { s.store with programming := true, image := Memory.eraseLastBlock s.store.image }

/-- The link timer started afresh when a held frame's reply is ready (R174); a timer that still runs runs on. -/
def resumeLinkTimer (inLoad : Bool) (x : PortState) : PortState :=
  if x.link = .up ∧ x.linkTimer = .stopped ∧ inLoad = false then x.startTimer else x

/-- A frame ended: its reply is ready (R165, R190), and a commit that it carried begins to program (R187). -/
def finishFrame (p : Port) (f : FrameExec) (s : State) : State :=
  let x := s.port p
  let x := { x with exec := none, reply := some (replyFrame f.sequence .ok f.results) }
  let s := setPort p (resumeLinkTimer s.inLoad x) s
  if f.commit then startProgramming s else s

/-- The end of an event: the telltale unit's part, then the notice of item 112 against the state before the event (logs 5, 34). -/
def finishEvent (before s : State) : State := cycleNotice before (settleUnits true s)

/-- One request of a frame, as one event (R167). -/
def frameRequest (p : Port) (f : FrameExec) (q : Request) (rest : List Request) (s : State) : State :=
  finishEvent s (runRequest p q (setPort p { s.port p with exec := some { f with rest := rest } } s))

/-- One request, or the end, of the runnable frame of a port. -/
def advanceFrame (p : Port) (s : State) : State :=
  match (s.port p).exec with
  | none => s
  | some f =>
    match f.rest with
    | [] => finishFrame p f s
    | q :: rest => frameRequest p f q rest s

/-- The runnable frames run until each has ended or is held (log 4). -/
def runFramesFor : Nat → State → State
  | 0, s => s
  | n + 1, s =>
    match s.nextRunnable with
    | some p => runFramesFor n (advanceFrame p s)
    | none => s

/-- What the frame in execution at a port still needs: its requests and its end. -/
def PortState.work (x : PortState) : Nat := x.exec.elim 0 fun f => f.rest.length + 1

/-- The requests and frame ends outstanding at the three ports, which bound how far the frames can run. -/
def State.work (s : State) : Nat := s.ports.dlink.work + s.ports.nlink.work + s.ports.tlink.work

/-- The runnable frames run (R167, R173). -/
def runFrames (s : State) : State := runFramesFor s.work s

/-- What every command ends with: the end of its event, and the frames that it has started or released. -/
def complete (before s : State) : State := runFrames (finishEvent before s)

/-! ## Acceptance -/

/-- The items of a watch set, in ascending order. -/
def watchedItems (w : Vector Bool 113) : List (Fin 113) := (List.finRange 113).filter fun i => w[i]

/-- The recovery of a port's link from LOST (R175). -/
def PortState.recover (x : PortState) : PortState :=
  if x.link = .lost then { x with cursors := .replicate 13 0, changes := watchedItems x.watch } else x

/-- The link UP, its timer started afresh; the timer does not run in LOAD (R174). -/
def PortState.comeUp (inLoad : Bool) (x : PortState) : PortState :=
  { x with link := .up, linkTimer := if inLoad then x.linkTimer else .running x.timeout }

/-- A good frame's execution before its first request. -/
def openExec (sequence : Byte) (body : List Byte) : FrameExec where
  sequence := sequence
  rest := requestsOf body
  results := []
  room := replyRoom (requestsOf body).length
  hold := none
  commit := false

/-- A good frame accepted (R165, R174, R175). -/
def acceptFrame (p : Port) (sequence : Byte) (body : List Byte) (s : State) : State :=
  let x := s.port p
  let s := if x.link = .lost then setCond (linkLostCondition p) false s else s
  let x := { x with counters := { x.counters with good := x.counters.good + 1 } }
  let x := x.recover.comeUp s.inLoad
  setPort p { x with exec := some (openExec sequence body) } s

/-- A bad frame: its counter and its status reply (R165). -/
def badFrame (p : Port) (status : FrameStatus) (sequence : Byte) (s : State) : State :=
  let x := s.port p
  let c := x.counters
  let c := match status with
    | .badCheck => { c with badCheck := c.badCheck + 1 }
    | .badLength => { c with badLength := c.badLength + 1 }
    | .ok => c
  setPort p { x with counters := c, reply := some (replyFrame sequence status []) } s

/-- A frame discarded whole as BUSY (R166). -/
def busyFrame (p : Port) (s : State) : State :=
  let x := s.port p
  setPort p { x with counters := { x.counters with busy := x.counters.busy + 1 } } s

/-- What a frame's bytes from its length field on are judged to be (R165). -/
inductive Verdict where
  | good (sequence : Byte) (body : List Byte)
  | bad (status : FrameStatus) (sequence : Byte)
  deriving DecidableEq, Repr

/-- Whether a length field is legal. -/
def legalLength (n : Nat) : Bool := decide (1 ≤ n ∧ n ≤ 240)

/-- A frame judged from its bytes after the opening code (R165). Bytes beyond its size are padding (R163). -/
def judgeFrame (bs : List Byte) : Verdict :=
  let n := byteAt bs 0
  let sequence := bs.getD 1 0
  if !legalLength n then .bad .badLength sequence
  else if bs.length < n + 4 then .bad .badLength sequence
  else if crc16 (bs.take (n + 2)) = BitVec.ofNat 16 (wordAt bs (n + 2)) then .good sequence ((bs.drop 2).take n)
  else .bad .badCheck sequence

/-- A judged frame taken at its port. -/
def takeVerdict (p : Port) (v : Verdict) (s : State) : State :=
  match v with
  | .good sequence body => acceptFrame p sequence body s
  | .bad status sequence => badFrame p status sequence s

/-- A frame that has ended at a port: BUSY, or judged (R165, R166). -/
def frameArrived (p : Port) (v : Verdict) (s : State) : State :=
  if (s.port p).inExecution p then busyFrame p s else takeVerdict p v s

end Sys2Proof.Machine
end

