-- ==== Sys2Proof/Machine/Chimes.lean ====
section
/-! DEFINITION. CHIME_ON_TIME_EXPIRY and CHIME_OFF_TIME_EXPIRY. -/

namespace Sys2Proof.Machine

/-- The chime whose pattern runs on the sounder. -/
def playingChime (s : State) : Option (Fin 8) := (List.finRange 8).find? fun i => s.lamps.chimes[i].state == .playing

/-- The end of an off time (R130): the count rises, and a finite chime that reaches its repetitions has finished. -/
def Chime.repetition (d : ChimeDesc) (c : Chime) : Chime :=
  let count := min 15 (c.count + 1)
  if d.repetitions != 0 && decide (d.repetitions ≤ count) then { c with count := count, served := true, phase := .none }
  else { c with count := count, phase := .onTime }

/-- The end of an on time (R130); an off time of 0 ends with it (log 28). -/
def Chime.endOnTime (d : ChimeDesc) (c : Chime) : Chime :=
  if d.offMs = 0 then c.repetition d else { c with phase := .offTime }

/-- The playing chime changed, if it is in a given part of its repetition. -/
def changePlaying (phase : ChimePhase) (f : ChimeDesc → Chime → Chime) (s : State) : State :=
  match s.lamps.settings, playingChime s with
  | some st, some i =>
    let x := s.lamps.chimes[i]
    if x.phase = phase then s.setLamps { s.lamps with chimes := s.lamps.chimes.set i (f st.chimes[i] x) } else s
  | some _, none | none, _ => s

/-- CHIME_ON_TIME_EXPIRY (R130). -/
def execChimeOnTimeExpiry (s : State) : Host.Outcome State Fault Refusal :=
  .next (complete s (changePlaying .onTime Chime.endOnTime s))

/-- CHIME_OFF_TIME_EXPIRY (R130). -/
def execChimeOffTimeExpiry (s : State) : Host.Outcome State Fault Refusal :=
  .next (complete s (changePlaying .offTime Chime.repetition s))

end Sys2Proof.Machine
end

