-- ==== Sys2Proof/Machine/CycleAndStore.lean ====
section
/-! DEFINITION. BULB_CHECK_EXPIRY and COMMIT_END. -/

namespace Sys2Proof.Machine

/-- The expiry of a running bulb-check window (R153, R154). -/
def onBulbCheck (s : State) : State :=
  if s.cycle.window.isRunning then judgePassage (s.setCycle { s.cycle with window := .stopped }) else s

/-- BULB_CHECK_EXPIRY (R153). -/
def execBulbCheckExpiry (s : State) : Host.Outcome State Fault Refusal := .next (complete s (onBulbCheck s))

/-- The end of a programming that runs (R187, R188). -/
def onCommitEnd (s : State) : State :=
  if s.store.state = .committing ∧ s.store.programming then commitEnd s else s

/-- COMMIT_END (R188). -/
def execCommitEnd (s : State) : Host.Outcome State Fault Refusal := .next (complete s (onCommitEnd s))

end Sys2Proof.Machine
end

