-- ==== Sys2Proof/Machine/GaugeMotion.lean ====
section
/-! DEFINITION. MOTION_TIMER_EXPIRY and HOMING_TIMER_EXPIRY. -/

namespace Sys2Proof.Machine

/-- A motion expiry at a gauge (R95). -/
def onMotion (gauge : Fin 6) (s : State) : State :=
  let g := s.gauges[gauge]
  putGauge gauge (g.motionExpiry (gaugeView s g)) s

/-- MOTION_TIMER_EXPIRY (R95). -/
def execMotionTimerExpiry (gauge : Fin 6) (s : State) : Host.Outcome State Fault Refusal :=
  .next (complete s (onMotion gauge s))

/-- A homing expiry at a gauge (R97). -/
def onHoming (gauge : Fin 6) (s : State) : State :=
  let g := s.gauges[gauge]
  putGauge gauge (g.homingExpiry s.cycle.state (gaugeView s g)) s

/-- HOMING_TIMER_EXPIRY (R97). -/
def execHomingTimerExpiry (gauge : Fin 6) (s : State) : Host.Outcome State Fault Refusal :=
  .next (complete s (onHoming gauge s))

end Sys2Proof.Machine
end

