-- ==== Sys2Proof/Machine/TransportOps.lean ====
section
/-! DEFINITION. The transports: chip-select periods (R163), the T-link receiver (R164, R166), the loss of a link (R174, R175) and the
expiry of a WAIT timer (R173). -/

namespace Sys2Proof.Machine

/-! ## SPI ports -/

/-- A chip-select period begun: the reply in the buffer begins to go out (R163, R178). -/
def openPeriod (p : Port) (s : State) : State :=
  let x := s.port p
  match x.period with
  | .idle => setPort p { x with period := x.reply.elim .openEmpty .openOffering, reply := none } s
  | .openOffering _ | .openEmpty | .discarded => s

/-- The reply that remains as a period ends (R163, R178). With a byte sent, the reply that went out is gone, and one that became ready meanwhile
waits for its own period; without a byte, none has gone out (log 15). A period whose beginning was not commanded offers what the buffer
holds (log 20). -/
def PortState.keptReply (sent : Bool) (x : PortState) : Option (List Byte) :=
  match x.period with
  | .idle => if sent then none else x.reply
  | .openOffering r => if sent then x.reply else x.reply.or (some r)
  | .openEmpty | .discarded => x.reply

/-- The period closed, and the reply that went out in it gone (R163). -/
def PortState.closePeriod (bytes : List Byte) (x : PortState) : PortState :=
  { x with period := .idle, reply := x.keptReply (!bytes.isEmpty) }

/-- The sequence byte that the reply to a period with a wrong opening byte echoes (log 16). -/
def wrongOpeningSequence (bytes : List Byte) : Byte := if Config.wrongOpeningEchoesSequence then bytes.getD 2 0 else 0

/-- The frame of a period, if it carries one (R163). -/
def periodVerdict (bytes : List Byte) : Option Verdict :=
  match bytes with
  | [] => if Config.emptyPeriodIsBadLength then some (.bad .badLength 0) else none
  | b :: bs =>
    if b = 0x00 then none
    else if b = requestOpening then some (judgeFrame bs)
    else some (.bad .badCheck (wrongOpeningSequence (b :: bs)))

/-- The end of a chip-select period (R163). -/
def endPeriod (p : Port) (bytes : List Byte) (s : State) : State :=
  let x := s.port p
  let s' := setPort p (x.closePeriod bytes) s
  if x.period = .discarded then s'
  else
    match periodVerdict bytes with
    | some v => frameArrived p v s'
    | none => s'

/-! ## T-link receiver -/

/-- The receiver replaced. -/
def setReceiver (r : Receiver) (s : State) : State := setPort .tlink { s.port .tlink with receiver := r } s

/-- Whether the T-link frame being received is to be discarded: a frame is in execution, or one was when it began (log 17). -/
def tlinkDiscards (began : Bool) (s : State) : Bool :=
  (s.port .tlink).inExecution .tlink || (began && Config.busyFromOpening)

/-- A T-link frame ended: discarded as BUSY or judged, with the receiver's next state. -/
def tlinkFrame (began : Bool) (v : Verdict) (next : Receiver) (s : State) : State :=
  setReceiver next (if tlinkDiscards began s then busyFrame .tlink s else takeVerdict .tlink v s)

/-- The sequence byte of the bytes received after the opening code, or 0 (R165). -/
def receivedSequence (bs : List Byte) : Byte := bs.getD 1 0

/-- A byte received in a T-link frame (R164, R166). Its stop bit is judged before it is taken as a length field: DESIGN CHOICE, log 51. -/
def tlinkFrameByte (bs : List Byte) (began : Bool) (b : Byte) (stopBit : Bool) (s : State) : State :=
  if !stopBit && !tlinkDiscards began s then tlinkFrame began (.bad .badCheck (receivedSequence bs)) .ignoring s
  else
    let bs := bs ++ [b]
    if !legalLength (byteAt bs 0) then tlinkFrame began (.bad .badLength (receivedSequence bs)) .ignoring s
    else if bs.length = byteAt bs 0 + 4 then tlinkFrame began (judgeFrame bs) .waiting s
    else setReceiver (.inFrame bs began) s

/-- A byte received while the receiver waits for the opening code (R164; log 18). -/
def tlinkOpening (b : Byte) (stopBit : Bool) (s : State) : State :=
  if b ≠ requestOpening then s
  else if stopBit then setReceiver (.inFrame [] ((s.port .tlink).inExecution .tlink)) s
  else if Config.framingErrorOpens then tlinkFrame false (.bad .badCheck 0) .ignoring s
  else s

/-- A byte received (R164). -/
def tlinkByte (b : Byte) (stopBit : Bool) (s : State) : State :=
  match (s.port .tlink).receiver with
  | .waiting => tlinkOpening b stopBit s
  | .inFrame bs began => tlinkFrameByte bs began b stopBit s
  | .ignoring => s

/-- The line quiet for more than 5 ms (R164, R166). -/
def tlinkGap (s : State) : State :=
  match (s.port .tlink).receiver with
  | .waiting => s
  | .inFrame bs began => tlinkFrame began (.bad .badLength (receivedSequence bs)) .waiting s
  | .ignoring => setReceiver .waiting s

/-- The last byte of a T-link reply sent (R166). -/
def tlinkSent (s : State) : State := setPort .tlink { s.port .tlink with reply := none } s

/-! ## Timers -/

/-- The expiry of a held frame's WAIT timer (R173). -/
def waitExpiry (p : Port) (s : State) : State :=
  mapExec (fun f => if f.hold.isSome then f.endHold .timeout else f) p s

/-- A link LOST (R175): its condition, its slots (R9), its claims (R116) and, for the T-link, the readout (R142). -/
def loseLink (p : Port) (s : State) : State :=
  let s := setPort p { s.port p with link := .lost, linkTimer := .stopped } s
  let s := setCond (linkLostCondition p) true s
  let s := clearPortClaims p (forceLost p s)
  if p = .tlink then readoutLinkLoss s else s

/-- The expiry of a running link timer (R174). -/
def linkExpiry (p : Port) (s : State) : State :=
  let x := s.port p
  if x.link = .up ∧ x.linkTimer.isRunning then loseLink p s else s

end Sys2Proof.Machine
end

