-- ==== Sys2Proof/Machine/Links.lean ====
section
/-! DEFINITION. SPI_PERIOD_END, TLINK_BYTE_RECEIVED, TLINK_GAP_TIMEOUT, TLINK_REPLY_SENT, WAIT_TIMER_EXPIRY, LINK_TIMER_EXPIRY and
CHIP_SELECT_ACTIVE. -/

namespace Sys2Proof.Machine

/-- SPI_PERIOD_END (R163). -/
def execSpiPeriodEnd (port : SpiPort) (bytes : List Byte) (s : State) : Host.Outcome State Fault Refusal :=
  .next (complete s (endPeriod port.toPort bytes s))

/-- TLINK_BYTE_RECEIVED (R164). -/
def execTlinkByteReceived (byte : Byte) (stopBit : Bool) (s : State) : Host.Outcome State Fault Refusal :=
  .next (complete s (tlinkByte byte stopBit s))

/-- TLINK_GAP_TIMEOUT (R164). -/
def execTlinkGapTimeout (s : State) : Host.Outcome State Fault Refusal := .next (complete s (tlinkGap s))

/-- TLINK_REPLY_SENT (R166). -/
def execTlinkReplySent (s : State) : Host.Outcome State Fault Refusal := .next (complete s (tlinkSent s))

/-- WAIT_TIMER_EXPIRY (R173). -/
def execWaitTimerExpiry (port : Port) (s : State) : Host.Outcome State Fault Refusal :=
  .next (complete s (waitExpiry port s))

/-- LINK_TIMER_EXPIRY (R174). -/
def execLinkTimerExpiry (port : Port) (s : State) : Host.Outcome State Fault Refusal :=
  .next (complete s (linkExpiry port s))

/-- CHIP_SELECT_ACTIVE (R163). -/
def execChipSelectActive (port : SpiPort) (s : State) : Host.Outcome State Fault Refusal :=
  .next (complete s (openPeriod port.toPort s))

end Sys2Proof.Machine
end

