-- ==== Sys2Proof/Machine/Load.lean ====
section
/-! DEFINITION. POWER_ON_RESET, CONFIG_LOAD_COMPLETE and RESTART_LOAD_END. -/

namespace Sys2Proof.Machine

/-- POWER_ON_RESET (R149). -/
def execPowerOnReset (strap : BitRate) (s : State) : Host.Outcome State Fault Refusal := .next (powerOn strap s)

/-- The configuration load ends where one is in progress (R149, R183). -/
def onLoadComplete (s : State) : State :=
  if s.cycle.state = .load ∧ s.store.state = .loading then loadExit (loadImage s) else s

/-- CONFIG_LOAD_COMPLETE (R183). -/
def execConfigLoadComplete (s : State) : Host.Outcome State Fault Refusal := .next (complete s (onLoadComplete s))

/-- The LOAD of a restart ends: no configuration is loaded (R149). -/
def onRestartLoadEnd (s : State) : State :=
  if s.cycle.state = .load ∧ s.store.state ≠ .loading then loadExit s else s

/-- RESTART_LOAD_END (R149). -/
def execRestartLoadEnd (s : State) : Host.Outcome State Fault Refusal := .next (complete s (onRestartLoadEnd s))

end Sys2Proof.Machine
end

