-- ==== Sys2Proof/Machine/Pulse.lean ====
section
/-! DEFINITION. PULSE_EDGE and GATE_EXPIRY. The capture counter advances by the command's microseconds, whatever else follows (log 3). -/

namespace Sys2Proof.Machine

/-- An edge at the pin once its counter stands (R27): captured where the gate runs and the edge selection names it. -/
def onEdge (channel : Fin 4) (edge : EdgeKind) (s : State) : State :=
  match s.pulse[channel].gated with
  | some st => if st.edges.captures edge then capturedEdge channel st s else s
  | none => s

/-- PULSE_EDGE (R28). -/
def execPulseEdge (channel : Fin 4) (edge : EdgeKind) (elapsed : Nat) (s : State) : Host.Outcome State Fault Refusal :=
  .next (complete s (onEdge channel edge (advanceCounter channel elapsed s)))

/-- The expiry of a running gate timer (R32). -/
def onGate (channel : Fin 4) (s : State) : State :=
  match s.pulse[channel].gated with
  | some st => gateExpiry channel st s
  | none => s

/-- GATE_EXPIRY (R32). -/
def execGateExpiry (channel : Fin 4) (elapsed : Nat) (s : State) : Host.Outcome State Fault Refusal :=
  .next (complete s (onGate channel (advanceCounter channel elapsed s)))

end Sys2Proof.Machine
end

