-- ==== Sys2Proof/Machine/SenderConverter.lean ====
section
/-! DEFINITION. SCAN_TIMER_EXPIRY, PARKED_TIMER_EXPIRY, TEST_CONVERSIONS_DONE, SETTLE_TIME_EXPIRY and CONVERSION_DONE. -/

namespace Sys2Proof.Machine

/-- The expiry of a running scan timer (R60). -/
def onScanTimer (s : State) : State := if s.conv.scanTimer.isRunning then beginPass false s else s

/-- SCAN_TIMER_EXPIRY (R60). -/
def execScanTimerExpiry (s : State) : Host.Outcome State Fault Refusal := .next (complete s (onScanTimer s))

/-- The parked timer started again, with the parked period of the configuration in force (R60, R77). -/
def renewParkedTimer (s : State) : State :=
  match s.config with
  | some c => s.setConv { s.conv with parkedTimer := .running (1000 * c.timing.parkedS) }
  | none => s

/-- The expiry of a running parked timer (R60, R75). -/
def onParkedTimer (s : State) : State :=
  if s.conv.parkedTimer.isRunning then renewParkedTimer (beginPass true s) else s

/-- PARKED_TIMER_EXPIRY (R75). -/
def execParkedTimerExpiry (s : State) : Host.Outcome State Fault Refusal := .next (complete s (onParkedTimer s))

/-- The test conversions of the pass in flight are done (R62, R63). -/
def onTestsDone (zero full : AdcCode) (s : State) : State :=
  match s.conv.pass with
  | some p => if p.stage = .testing then endTests p zero full s else s
  | none => s

/-- TEST_CONVERSIONS_DONE (R62). -/
def execTestConversionsDone (zero full : AdcCode) (s : State) : Host.Outcome State Fault Refusal :=
  .next (complete s (onTestsDone zero full s))

/-- The settle time of the present scan slot is over (R64). -/
def onSettled (s : State) : State :=
  match s.conv.pass with
  | some p => if p.stage = .settling then setPass (some { p with stage := .converting false 0 0 }) s else s
  | none => s

/-- SETTLE_TIME_EXPIRY (R64). -/
def execSettleTimeExpiry (s : State) : Host.Outcome State Fault Refusal := .next (complete s (onSettled s))

/-- A conversion of the pass in flight is done (R64). -/
def onConversion (code : AdcCode) (s : State) : State :=
  match s.conv.pass with
  | some p => endConversion p code.toNat s
  | none => s

/-- CONVERSION_DONE (R64). -/
def execConversionDone (code : AdcCode) (s : State) : Host.Outcome State Fault Refusal :=
  .next (complete s (onConversion code s))

end Sys2Proof.Machine
end

