-- ==== Sys2Proof/Machine/SignalTable.lean ====
section
/-! DEFINITION. AGING_TIMER_EXPIRY, RECLAIM_TIMER_EXPIRY and DISAGREEMENT_TIMER_EXPIRY. -/

namespace Sys2Proof.Machine

/-- AGING_TIMER_EXPIRY (R6). -/
def execAgingTimerExpiry (s : State) : Host.Outcome State Fault Refusal := .next (complete s (ageTable s))

/-- RECLAIM_TIMER_EXPIRY (R16). -/
def execReclaimTimerExpiry (entry : Fin 64) (s : State) : Host.Outcome State Fault Refusal :=
  .next (complete s (reclaimExpiry entry s))

/-- DISAGREEMENT_TIMER_EXPIRY (R18). -/
def execDisagreementTimerExpiry (entry : Fin 64) (s : State) : Host.Outcome State Fault Refusal :=
  .next (complete s (disagreementExpiry entry s))

end Sys2Proof.Machine
end

