-- ==== Sys2Proof/Machine/Switches.lean ====
section
/-! DEFINITION. RAW_LEVEL_CHANGE and DEBOUNCE_TIMER_EXPIRY. -/

namespace Sys2Proof.Machine

/-- A change of a pin's level (R81); without settings the bank does not sample it (R80), and the pin alone changes. -/
def onRawLevel (input : Fin 24) (level : Level) (s : State) : State :=
  let x := s.switches.inputs[input]
  if x.raw = level then s
  else
    match s.switches.settings with
    | some st => setInput input (x.change st.debounceMs[input] level) s
    | none => setInput input { x with raw := level } s

/-- RAW_LEVEL_CHANGE (R81). -/
def execRawLevelChange (input : Fin 24) (level : Level) (s : State) : Host.Outcome State Fault Refusal :=
  .next (complete s (onRawLevel input level s))

/-- The expiry of a running debounce timer (R81). -/
def onDebounce (input : Fin 24) (s : State) : State :=
  match s.switches.settings with
  | some st => if s.switches.inputs[input].debounce.isRunning then debounceExpiry st input s else s
  | none => s

/-- DEBOUNCE_TIMER_EXPIRY (R81). -/
def execDebounceTimerExpiry (input : Fin 24) (s : State) : Host.Outcome State Fault Refusal :=
  .next (complete s (onDebounce input s))

end Sys2Proof.Machine
end

