-- ==== Sys2Proof/Machine/TachoReadout.lean ====
section
/-! DEFINITION. RECORD_AGE_TIMER_EXPIRY and ESTIMATION_TIMER_EXPIRY. -/

namespace Sys2Proof.Machine

/-- A 100 ms expiry of the age timer (R139). -/
def onRecordAge (s : State) : State :=
  match s.tacho.settings with
  | some st => recordAgeExpiry st s
  | none => s

/-- RECORD_AGE_TIMER_EXPIRY (R139). -/
def execRecordAgeTimerExpiry (s : State) : Host.Outcome State Fault Refusal := .next (complete s (onRecordAge s))

/-- A 1 s expiry of the estimation timer (R140). -/
def onEstimation (s : State) : State :=
  match s.tacho.settings with
  | some st => estimationExpiry st s
  | none => s

/-- ESTIMATION_TIMER_EXPIRY (R140). -/
def execEstimationTimerExpiry (s : State) : Host.Outcome State Fault Refusal := .next (complete s (onEstimation s))

end Sys2Proof.Machine
end

