-- ==== Sys2Proof/Machine/Telltales.lean ====
section
/-! DEFINITION. FLASHER_PHASE_CHANGE, OPEN_CHECK_TIMER_EXPIRY, LAMP_SHORT and RETRY_TIMER_EXPIRY. -/

namespace Sys2Proof.Machine

/-- A flasher changes its phase (R121). -/
def onFlasher (which : Flasher) (s : State) : State :=
  match which with
  | .slow => s.setLamps { s.lamps with slowOn := !s.lamps.slowOn }
  | .fast => s.setLamps { s.lamps with fastOn := !s.lamps.fastOn }

/-- FLASHER_PHASE_CHANGE (R121). -/
def execFlasherPhaseChange (which : Flasher) (s : State) : Host.Outcome State Fault Refusal :=
  .next (complete s (onFlasher which s))

/-- The driver's judgement of an open load (R123). -/
def DriverFault.openCheck (current : Nat) : DriverFault → DriverFault
  | .ok => if current < 2 then .openLoad else .ok
  | .openLoad => if current < 2 then .openLoad else .ok
  | .short => .short
  | .latched => .latched

/-- The expiry of a running open-check timer (R123). -/
def onOpenCheck (telltale : Fin 40) (current : Nat) (s : State) : State :=
  let t := s.lamps.telltales[telltale]
  if t.openCheck.isRunning then
    putTelltale telltale { t with openCheck := .stopped, fault := t.fault.openCheck current } s
  else s

/-- OPEN_CHECK_TIMER_EXPIRY (R123). -/
def execOpenCheckTimerExpiry (telltale : Fin 40) (current : Nat) (s : State) : Host.Outcome State Fault Refusal :=
  .next (complete s (onOpenCheck telltale current s))

/-- A current above 300 mA at an output that is on (R124). -/
def onShort (telltale : Fin 40) (s : State) : State :=
  let t := s.lamps.telltales[telltale]
  if t.output then putTelltale telltale t.foundShort s else s

/-- LAMP_SHORT (R124). -/
def execLampShort (telltale : Fin 40) (s : State) : Host.Outcome State Fault Refusal :=
  .next (complete s (onShort telltale s))

/-- A driver tried again (R124): a lit telltale turns on at once, and that turn-on may find the short. -/
def Telltale.retry (lit shorted : Bool) (t : Telltale) : Telltale :=
  let t := { t with fault := .ok, retries := t.retries + 1, retryTimer := .stopped }
  if !lit then t
  else if shorted then (t.drive true).foundShort
  else t.drive true

/-- Whether a telltale's lamp is lit (R122). -/
def lampLit (i : Fin 40) (s : State) : Bool :=
  s.lamps.settings.any fun st => st.telltales[i].render == .lamp && s.lamps.lit s.lamps.telltales[i].shown

/-- The expiry of a running retry timer (R124), with its notice, also where the retry finds the short again (spec/07, 7.10). -/
def onRetry (telltale : Fin 40) (shorted : Bool) (s : State) : State :=
  let t := s.lamps.telltales[telltale]
  if t.retryTimer.isRunning then
    raiseItem (telltaleItem telltale) (putTelltale telltale (t.retry (lampLit telltale s) shorted) s)
  else s

/-- RETRY_TIMER_EXPIRY (R124). -/
def execRetryTimerExpiry (telltale : Fin 40) (shorted : Bool) (s : State) : Host.Outcome State Fault Refusal :=
  .next (complete s (onRetry telltale shorted s))

end Sys2Proof.Machine
end

