-- ==== Sys2Proof/Machine/Dispatch.lean ====
section
/-! DEFINITION. The meaning of each command, one arm each. -/

namespace Sys2Proof.Machine

/-- The effect of a command on everything but the queue. -/
def exec (i : Instr) (s : State) : Host.Outcome State Fault Refusal :=
  match i with
  | .powerOnReset strap => Sys2Proof.Machine.execPowerOnReset strap s
  | .configLoadComplete => Sys2Proof.Machine.execConfigLoadComplete s
  | .restartLoadEnd => Sys2Proof.Machine.execRestartLoadEnd s
  | .agingTimerExpiry => Sys2Proof.Machine.execAgingTimerExpiry s
  | .reclaimTimerExpiry entry => Sys2Proof.Machine.execReclaimTimerExpiry entry s
  | .disagreementTimerExpiry entry => Sys2Proof.Machine.execDisagreementTimerExpiry entry s
  | .pulseEdge channel edge elapsed => Sys2Proof.Machine.execPulseEdge channel edge elapsed s
  | .gateExpiry channel elapsed => Sys2Proof.Machine.execGateExpiry channel elapsed s
  | .scanTimerExpiry => Sys2Proof.Machine.execScanTimerExpiry s
  | .parkedTimerExpiry => Sys2Proof.Machine.execParkedTimerExpiry s
  | .testConversionsDone zero full => Sys2Proof.Machine.execTestConversionsDone zero full s
  | .settleTimeExpiry => Sys2Proof.Machine.execSettleTimeExpiry s
  | .conversionDone code => Sys2Proof.Machine.execConversionDone code s
  | .rawLevelChange input level => Sys2Proof.Machine.execRawLevelChange input level s
  | .debounceTimerExpiry input => Sys2Proof.Machine.execDebounceTimerExpiry input s
  | .motionTimerExpiry gauge => Sys2Proof.Machine.execMotionTimerExpiry gauge s
  | .homingTimerExpiry gauge => Sys2Proof.Machine.execHomingTimerExpiry gauge s
  | .flasherPhaseChange which => Sys2Proof.Machine.execFlasherPhaseChange which s
  | .openCheckTimerExpiry telltale current => Sys2Proof.Machine.execOpenCheckTimerExpiry telltale current s
  | .lampShort telltale => Sys2Proof.Machine.execLampShort telltale s
  | .retryTimerExpiry telltale shorted => Sys2Proof.Machine.execRetryTimerExpiry telltale shorted s
  | .chimeOnTimeExpiry => Sys2Proof.Machine.execChimeOnTimeExpiry s
  | .chimeOffTimeExpiry => Sys2Proof.Machine.execChimeOffTimeExpiry s
  | .recordAgeTimerExpiry => Sys2Proof.Machine.execRecordAgeTimerExpiry s
  | .estimationTimerExpiry => Sys2Proof.Machine.execEstimationTimerExpiry s
  | .bulbCheckExpiry => Sys2Proof.Machine.execBulbCheckExpiry s
  | .commitEnd => Sys2Proof.Machine.execCommitEnd s
  | .spiPeriodEnd port bytes => Sys2Proof.Machine.execSpiPeriodEnd port bytes s
  | .tlinkByteReceived byte stopBit => Sys2Proof.Machine.execTlinkByteReceived byte stopBit s
  | .tlinkGapTimeout => Sys2Proof.Machine.execTlinkGapTimeout s
  | .tlinkReplySent => Sys2Proof.Machine.execTlinkReplySent s
  | .waitTimerExpiry port => Sys2Proof.Machine.execWaitTimerExpiry port s
  | .linkTimerExpiry port => Sys2Proof.Machine.execLinkTimerExpiry port s
  | .chipSelectActive port => Sys2Proof.Machine.execChipSelectActive port s

end Sys2Proof.Machine
end

