-- ==== Sys2Proof/Machine/Outputs.lean ====
section
/-! DEFINITION. The outputs that follow from the state: attention lines (R178), WAKE (R159), coil duties and coil ends (R106, R107), the sounder
(R130), the excitation (R64) and the reply bytes that an SPI port offers (R163). -/

namespace Sys2Proof.Machine

/-- The reply that goes out in a period, if any (R163). -/
def Period.outgoing : Period → Option (List Byte)
  | .openOffering r => some r
  | .idle | .openEmpty | .discarded => none

/-- D-ATTN and N-ATTN (R178): a reply counts until the end of the period in which it goes out. -/
def attention (s : State) (p : SpiPort) : Bool :=
  let x := s.port p.toPort
  !x.changes.isEmpty || x.reply.isSome || x.period.outgoing.isSome

/-- WAKE (R159, R160). -/
def wakeOutput (s : State) : Bool := s.cycle.causeSwitch || s.cycle.causeWindow

/-- The quarter table Q (R106). -/
def quarter (i : Nat) : Int := [0, 131, 259, 383, 500, 609, 707, 793, 866, 924, 966, 991, 1000].getD i 0

/-- The duties of coils A and B at a phase, in per mille (R106). -/
def coilDuty (phase : Nat) : Int × Int :=
  if phase < 12 then (quarter (12 - phase), quarter phase)
  else if phase < 24 then (-quarter (phase - 12), quarter (24 - phase))
  else if phase < 36 then (-quarter (36 - phase), -quarter (phase - 24))
  else (quarter (phase - 36), -quarter (48 - phase))

/-- The duties of a gauge's coils; none while they are off (R107). -/
def Gauge.coils (c : CycleState) (g : Gauge) : Option (Int × Int) :=
  if g.driven c then some (coilDuty (g.position % 48).toNat) else none

/-- The two ends of a coil (R106): the duty in per mille of the pulses that drive each, 0 for an end that is held low. -/
structure CoilEnds where
  first : Nat
  second : Nat
  deriving DecidableEq, Repr

/-- The ends of a coil of a signed duty (R106): a positive duty drives the first end, a negative one the second, 0 neither. -/
def coilEnds (duty : Int) : CoilEnds :=
  if 0 < duty then { first := duty.toNat, second := 0 } else { first := 0, second := (-duty).toNat }

/-- The frequency of the pulses that drive a coil end, in Hz (R106). -/
def coilPulseHz : Nat := 25000

/-- The ends of a gauge's coils A and B; all four are held low while the coils are off (R107). -/
def Gauge.ends (c : CycleState) (g : Gauge) : CoilEnds × CoilEnds :=
  let duties := (g.coils c).getD (0, 0)
  (coilEnds duties.1, coilEnds duties.2)

/-- The tone that the sounder plays in Hz; none while its output is held low (R130). -/
def sounderTone (s : State) : Option Nat :=
  s.lamps.settings.bind fun st =>
    ((List.finRange 8).find? fun i => s.lamps.chimes[i].state == .playing && s.lamps.chimes[i].phase == .onTime).map
      fun i => st.chimes[i].toneHz

/-- The input whose excitation is on, with the excitation (R64). -/
def excitationOn (s : State) : Option (Fin 16 × Excitation) :=
  match s.conv.pass with
  | some p =>
    match p.stage, p.todo with
    | .settling, i :: _ | .converting .., i :: _ => (s.conv.scanSlot i).map fun d => (d.channel, d.excitation)
    | .testing, _ | .settling, [] | .converting .., [] => none
  | none => none

/-- The first `n` bytes that an SPI port clocks out in the open period: the offered reply, then zeros (R163). -/
def clockedOut (s : State) (p : SpiPort) (n : Nat) : List Byte :=
  (List.range n).map fun k => ((s.port p.toPort).period.outgoing.getD []).getD k 0

end Sys2Proof.Machine
end

