-- ==== Sys2Proof/Safety.lean ====
section
/-! DEFINITION. The terms that the statements use: how a command completes, what an event may change beside its own effect, and the
invariants. -/

namespace Sys2Proof.Machine

/-- A command completes: it answers a next state, which is a state that meets `P` once the frames that the event has started or
released have run. -/
def Completes (c : Instr) (s : State) (P : State → Prop) : Prop := ∃ t, exec c s = .next (runFrames t) ∧ P t

/-- The bytes of consecutive fields, each given by its length in bytes and its number: most significant byte first, a negative number in two's
complement (spec/00, 3.2). -/
def spell (fields : List (Nat × Int)) : List Byte :=
  fields.flatMap fun f => (List.range f.1).map fun k => BitVec.ofInt 8 (f.2 / 256 ^ (f.1 - 1 - k))

/-- A flag as the number of its bit. -/
def flag (b : Bool) (bit : Nat) : Int := if b then 2 ^ bit else 0

/-! ## What the ports take from an event -/

/-- What the link interface takes to every port: a change notice (R176), or an event that a WAIT can name (R173). -/
inductive PortEvent where
  | notice (item : Fin 113)
  | signal (ev : WaitEvent)
  deriving DecidableEq, Repr

/-- A port after one of them. -/
def PortState.take (x : PortState) : PortEvent → PortState
  | .notice i => x.notice i
  | .signal ev => x.signal ev

/-- A port after several of them, in order. -/
def PortState.takeAll (x : PortState) (l : List PortEvent) : PortState := l.foldl PortState.take x

/-- From `s` to `t`, every port has taken the same notices and events, and nothing else has happened at a port. -/
def PortsTook (s t : State) : Prop :=
  t.ports.bitRate = s.ports.bitRate ∧ ∃ l, ∀ p, t.port p = (s.port p).takeAll l

/-- No frame is held at a WAIT for an event. -/
def Released (ev : WaitEvent) (t : State) : Prop := ∀ p f tm, (t.port p).exec = some f → f.hold ≠ some (ev, tm)

/-- Every port that watches an item has it on its change list. -/
def noticed (item : Fin 113) (t : State) : Prop := ∀ p, (t.port p).watch[item] = true → item ∈ (t.port p).changes

/-! ## What is reported -/

/-- The view or the mark of an entry has changed as R20 asks of a notice, its value against the reference value before. -/
def EntryDiffers (e f : Entry) : Prop :=
  f.view.state ≠ e.view.state ∨ f.view.source ≠ e.view.source ∨ f.view.clamped ≠ e.view.clamped ∨ f.disagree ≠ e.disagree ∨
    (f.view.value ≠ e.reference ∧ e.desc.notifyDelta ≤ (f.view.value - e.reference).natAbs)

/-- A telltale has changed as R127 asks of a notice. -/
def TelltaleDiffers (a b : Telltale) : Prop :=
  b.resolved ≠ a.resolved ∨ b.shown ≠ a.shown ∨ b.fault ≠ a.fault ∨ b.failed ≠ a.failed

/-- A gauge has changed as R90 asks of a notice: its state, its remembered state or its target, or it has come to rest. -/
def GaugeDiffers (a b : Gauge) : Prop :=
  b.state ≠ a.state ∨ b.remembered ≠ a.remembered ∨ b.target ≠ a.target ∨
    ((b.velocity = 0 ∧ b.position = b.target) ∧ ¬ (a.velocity = 0 ∧ a.position = a.target))

/-- The readout has changed in its state, its figures or its remaining time (R146). -/
def ReadoutDiffers (a b : Readout) : Prop :=
  b.state ≠ a.state ∨ b.continuous ≠ a.continuous ∨ b.daily ≠ a.daily ∨ b.remaining ≠ a.remaining

/-- The distance counter has changed as R56 asks of a notice. -/
def DistanceDiffers (a b : Distance) : Prop :=
  b.odo ≠ a.odo ∨ b.odoState ≠ a.odoState ∨ b.mismatch ≠ a.mismatch ∨ b.ldc ≠ a.ldc ∨ b.tripA ≠ a.tripA ∨ b.tripB ≠ a.tripB

/-- From `s` to `t`, what an item shows has changed as its rule asks of a notice (R20, R56, R74, R90, R127, R146, R162). -/
def itemChanged (s t : State) (i : Fin 113) : Prop :=
  (∃ e : Fin 64, i = signalItem e ∧ EntryDiffers s.signals[e] t.signals[e]) ∨
  (∃ k : Fin 40, i = telltaleItem k ∧ TelltaleDiffers s.lamps.telltales[k] t.lamps.telltales[k]) ∨
  (∃ k : Fin 6, i = gaugeItem k ∧ GaugeDiffers s.gauges[k] t.gauges[k]) ∨
  (i = tachoItem ∧ ReadoutDiffers s.tacho t.tacho) ∨ (i = distanceItem ∧ DistanceDiffers s.dist t.dist) ∨
  (i = cycleItem ∧ t.cycleView ≠ s.cycleView)

/-- From `s` to `t`, the change lists have gained no item but those that meet `N`. -/
def ReportedOnly (N : Fin 113 → Prop) (s t : State) : Prop :=
  ∀ p i, i ∈ (t.port p).changes → i ∈ (s.port p).changes ∨ N i

/-- An item of the signal table or of a gauge. -/
def ofTable (i : Fin 113) : Prop := (i : Nat) < 64 ∨ (104 ≤ (i : Nat) ∧ (i : Nat) < 110)

/-- From `s` to `t`, no entry was reported but those that differ (R20, R21). -/
def EntriesReported (s t : State) : Prop :=
  ReportedOnly (fun i => ∀ e : Fin 64, i = signalItem e → EntryDiffers s.signals[e] t.signals[e]) s t

/-- From `s` to `t`, no telltale was reported but those that differ (R127). -/
def TelltalesReported (s t : State) : Prop :=
  ReportedOnly (fun i => ∀ k : Fin 40, i = telltaleItem k → TelltaleDiffers s.lamps.telltales[k] t.lamps.telltales[k]) s t

/-- Of the views handed to a gauge in turn, one has changed it as R90 asks of a notice (R92 to R94). -/
def Gauge.changedBy (c : CycleState) : List View → Gauge → Prop
  | [], _ => False
  | v :: l, g => GaugeDiffers g (g.effectiveUpdate c v) ∨ Gauge.changedBy c l (g.effectiveUpdate c v)

/-- A command that recomputes entries in one stage, and so hands effective updates to the gauges (R11). -/
def recomputes (c : Instr) : Prop :=
  c = .agingTimerExpiry ∨ (∃ e, c = .reclaimTimerExpiry e) ∨ (∃ e, c = .disagreementTimerExpiry e) ∨ (∃ k us, c = .gateExpiry k us) ∨
    (∃ code, c = .conversionDone code) ∨ (∃ k, c = .debounceTimerExpiry k) ∨ ∃ p, c = .linkTimerExpiry p

/-- The items that a command may put on the list of port `p`, from `s` to `t`, although what they show may end as it began:
- every watched item where the link recovers from LOST (R175);
- entries, telltales and gauges at a commit's end, where all entries are reported (R24) and the blocks take their settings in stages (R188);
- telltales at an acceptance, which the claims are carried through in two stages (log 34), and gauges at that of SW23, which an ignition event may follow (R82);
- entries and gauges where failed tests deliver one update after another (R63);
- gauges where the supply state changes behind a delivered value (R73, log 41), and where one of the views handed to a gauge has changed it (R92 to R94);
- the telltale of a retry (spec/07, 7.10), and the readout at a count of sixty driving seconds (R140, log 47);
- where LOAD is left, a gauge found PARKED, which may pass through PARKING (R90), and telltales where the remaining time is another, whose conditions
  are handed on first (R145). -/
def ReportDue (c : Instr) (s t : State) (p : Port) (i : Fin 113) : Prop :=
  ((s.port p).link = .lost ∧ (t.port p).link = .up ∧ (t.port p).watch[i] = true) ∨
  (c = .commitEnd ∧ (i : Nat) < 110) ∨
  (∃ k, c = .debounceTimerExpiry k ∧ ((∃ j, i = telltaleItem j) ∨ (k = 23 ∧ ∃ j, i = gaugeItem j))) ∨
  ((∃ zero full, c = .testConversionsDone zero full) ∧ ofTable i) ∨
  ((∃ code, c = .conversionDone code) ∧ t.conv.supply ≠ s.conv.supply ∧ ∃ k, i = gaugeItem k) ∨
  (recomputes c ∧ ∃ k gs views, i = gaugeItem k ∧ s.gauges[k].settings = some gs ∧
    (∀ v ∈ views, v = s.signals[gs.desc.entry].view ∨ v = t.signals[gs.desc.entry].view) ∧
    s.gauges[k].changedBy s.cycle.state views) ∨
  (∃ k shorted, c = .retryTimerExpiry k shorted ∧ i = telltaleItem k) ∨
  (c = .estimationTimerExpiry ∧ i = tachoItem ∧ t.tacho.drivingSeconds < s.tacho.drivingSeconds) ∨
  ((c = .configLoadComplete ∨ c = .restartLoadEnd) ∧
    ((∃ k, i = gaugeItem k ∧ s.gauges[k].state = .parked) ∨ (t.tacho.remaining ≠ s.tacho.remaining ∧ ∃ k, i = telltaleItem k)))

/-! ## What the end of an event may change -/

/-- A telltale unit that keeps its settings, its flashers, its claims and its drivers' faults: only what follows from the claims (patterns
resolved and shown, built-in claims, FAILED flags, outputs and open checks, chime states) may differ. -/
structure ClaimsKept (u v : TelltaleUnit) : Prop where
  settings : v.settings = u.settings
  slowOn : v.slowOn = u.slowOn
  fastOn : v.fastOn = u.fastOn
  telltales : ∀ i : Fin 40,
    v.telltales[i].latches = u.telltales[i].latches ∧ v.telltales[i].patterns = u.telltales[i].patterns ∧
    v.telltales[i].fault = u.telltales[i].fault ∧ v.telltales[i].retries = u.telltales[i].retries ∧
    v.telltales[i].retryTimer = u.telltales[i].retryTimer
  chimes : ∀ i : Fin 8,
    v.chimes[i].latches = u.chimes[i].latches ∧ v.chimes[i].portClaims = u.chimes[i].portClaims

/-- From `u` to `t` nothing has happened but the end of an event: the telltale unit's resolution (R117) with TELLTALE_FAILED, and
notices, none of them of an entry or a gauge. -/
structure EventEnd (u t : State) : Prop where
  signals : t.signals = u.signals
  pulse : t.pulse = u.pulse
  dist : t.dist = u.dist
  conv : t.conv = u.conv
  switches : t.switches = u.switches
  gauges : t.gauges = u.gauges
  tacho : t.tacho = u.tacho
  cycle : t.cycle = u.cycle
  store : t.store = u.store
  pending : t.pending = u.pending
  conditions : ∀ c, c ≠ .telltaleFailed → t.cond c = u.cond c
  lamps : ClaimsKept u.lamps t.lamps
  ports : PortsTook u t
  silent : ReportedOnly (fun i => ¬ ofTable i) u t

/-- A cycle state and the one that a passage may have made of it (R154, R156), or the same. -/
def Passage (a b : CycleState) : Prop := b = a ∨ (a = .starting ∧ b = .run) ∨ (a = .stopping ∧ b = .parked)

/-- From `u` to `t` nothing has happened but what updates of the signal table can bring about: slots, views and marks of entries, the
gauges that follow them, claim latches, the passages of the cycle state, and the end of an event. -/
structure TableEvent (u t : State) : Prop where
  descriptors : ∀ i : Fin 64, t.signals[i].desc = u.signals[i].desc
  pulse : t.pulse = u.pulse
  dist : t.dist = u.dist
  convSettings : t.conv.settings = u.conv.settings
  convPass : t.conv.pass = u.conv.pass
  convSlots : t.conv.slots = u.conv.slots
  supply : t.conv.supply = u.conv.supply
  lowCount : t.conv.lowCount = u.conv.lowCount
  overruns : t.conv.overruns = u.conv.overruns
  convTakeOver : t.conv.takeOver = u.conv.takeOver
  switches : t.switches = u.switches
  gaugeSettings : ∀ i : Fin 6, t.gauges[i].settings = u.gauges[i].settings
  tacho : t.tacho = u.tacho
  passage : Passage u.cycle.state t.cycle.state
  timersKept : t.cycle.state ≠ .parked ∨ u.cycle.state = .parked →
    t.conv.scanTimer = u.conv.scanTimer ∧ t.conv.parkedTimer = u.conv.parkedTimer
  parkedEntry : t.cycle.state = .parked → u.cycle.state ≠ .parked →
    t.conv.scanTimer = .stopped ∧
    t.conv.parkedTimer = u.conv.settings.elim .stopped fun c => .running (1000 * c.parkedS)
  ignition : t.cycle.ignition = u.cycle.ignition
  window : t.cycle.window = u.cycle.window
  windowLength : t.cycle.windowLength = u.cycle.windowLength
  commitInFlight : t.cycle.commitInFlight = u.cycle.commitInFlight
  restartPending : t.cycle.restartPending = u.cycle.restartPending
  causeSwitch : t.cycle.causeSwitch = u.cycle.causeSwitch
  causeWindow : t.cycle.causeWindow = u.cycle.causeWindow
  store : t.store = u.store
  pending : t.pending = u.pending
  conditions : ∀ c, c ≠ .telltaleFailed → t.cond c = u.cond c
  lampSettings : t.lamps.settings = u.lamps.settings
  flashers : t.lamps.slowOn = u.lamps.slowOn ∧ t.lamps.fastOn = u.lamps.fastOn
  patterns : ∀ i : Fin 40, t.lamps.telltales[i].patterns = u.lamps.telltales[i].patterns
  drivers : ∀ i : Fin 40,
    t.lamps.telltales[i].fault = u.lamps.telltales[i].fault ∧ t.lamps.telltales[i].retries = u.lamps.telltales[i].retries ∧
    t.lamps.telltales[i].retryTimer = u.lamps.telltales[i].retryTimer
  portClaims : ∀ i : Fin 8, t.lamps.chimes[i].portClaims = u.lamps.chimes[i].portClaims
  ports : PortsTook u t

/-! ## What updates do to the entries -/

/-- An entry that keeps its descriptor, its slots, its view and its reclaim timer: only its DISAGREE mark, its disagreement timer and its
reference value may differ. -/
structure EntryKept (e f : Entry) : Prop where
  desc : f.desc = e.desc
  primary : f.primary = e.primary
  alternate : f.alternate = e.alternate
  view : f.view = e.view
  reclaim : f.reclaim = e.reclaim

/-- An entry after an update from a source: the slot of that source takes it and the view is selected anew (R2, R4, R5, R11, R15); an
entry without such a slot as it was. -/
def Entry.afterUpdate (src : Source) (u : Update) (e : Entry) : Entry :=
  if e.desc.primary = src then
    Entry.select { e with primary := e.primary.take e.desc u, reclaim := if e.startsReclaim u then .running 500 else e.reclaim }
  else if e.desc.alternate = src then Entry.select { e with alternate := e.alternate.take e.desc u }
  else e

/-- An entry after its slots were changed without an update; the view is selected anew if a slot changed its state (R7, R9, R11). -/
def Entry.afterSlots (f : Source → Slot → Slot) (e : Entry) : Entry :=
  let e' := { e with primary := f e.desc.primary e.primary, alternate := f e.desc.alternate e.alternate }
  if e.primary.state = e'.primary.state ∧ e.alternate.state = e'.alternate.state then e' else e'.select

/-- A claim's latch after the views that its entry has handed over in turn (R111, R112); a claim without an entry keeps it. -/
def Claim.judgeViews (handed : Fin 64 → List View) (active : Bool) (c : Claim) : Bool :=
  match c with
  | .signal e _ _ _ _ => (handed e).foldl (fun a v => c.judge e v.value a) active
  | .absent | .switch .. | .port _ | .condition .. => active

/-- From `u` to `t`, the gauges and the claims have taken the effective updates handed to them, and nothing else has happened to the gauges and
to the latches (R11, R92, R112); a gauge is reported where, and only where, one of them has changed it (R90). -/
structure ConsumersTook (handed : Fin 64 → List View) (u t : State) : Prop where
  gauges : ∀ k : Fin 6, t.gauges[k] = u.gauges[k].settings.elim u.gauges[k] fun gs =>
    (handed gs.desc.entry).foldl (fun g v => g.effectiveUpdate u.cycle.state v) u.gauges[k]
  telltales : ∀ (i : Fin 40) (k : Fin 4), t.lamps.telltales[i].latches[k] =
    u.lamps.settings.elim u.lamps.telltales[i].latches[k] fun st =>
      st.telltales[i].claims[k].judgeViews handed u.lamps.telltales[i].latches[k]
  chimes : ∀ (i : Fin 8) (k : Fin 2), t.lamps.chimes[i].latches[k] =
    u.lamps.settings.elim u.lamps.chimes[i].latches[k] fun st =>
      st.chimes[i].claims[k].judgeViews handed u.lamps.chimes[i].latches[k]
  items : ∀ (k : Fin 6) (gs : GaugeSettings), u.gauges[k].settings = some gs →
    u.gauges[k].changedBy u.cycle.state (handed gs.desc.entry) → noticed (gaugeItem k) t
  silent : ReportedOnly (fun i => ∀ k : Fin 6, i = gaugeItem k →
    ∃ gs, u.gauges[k].settings = some gs ∧ u.gauges[k].changedBy u.cycle.state (handed gs.desc.entry)) u t

/-- What has been handed to the consumers where the entries of `fed` were recomputed: of such an entry its view as it was or is, the latter last; of
another entry nothing, unless the event has cleared its DISAGREE mark (log 21). -/
def HandedFor (fed : Fin 64 → Prop) (handed : Fin 64 → List View) (u t : State) : Prop :=
  ∀ e : Fin 64,
    (fed e → (handed e).getLast? = some t.signals[e].view) ∧
    (¬ fed e → t.signals[e].disagree = u.signals[e].disagree → handed e = []) ∧
    (∀ v ∈ handed e, v = u.signals[e].view ∨ v = t.signals[e].view)

/-- From the entry `e` to the same entry `f`, the mark and the disagreement timer have become what the judgement of the pair with the partner `p`
makes of them, by the views of `f` and of `p` (R17, R19). -/
def PairJudged (isUpdate : Bool) (e f p : Entry) : Prop :=
  let j := Entry.judgePair isUpdate p { f with disagree := e.disagree, disagreement := e.disagreement }
  f.disagree = j.disagree ∧ f.disagreement = j.disagreement

/-- What from `u` to `t` follows in the marks, the pairs, the notices and the consumers where the entries of `fed`, and no others, were recomputed,
by an update where `isUpdate`: no mark is set; an entry keeps its mark and its disagreement timer unless it or its partner was recomputed, and
where one of the two was, its pair is judged; it keeps its reference value unless it was recomputed or its mark was cleared; no recomputed
value has moved from its reference value, and a changed view or mark is reported. -/
structure Followed (isUpdate : Bool) (fed : Fin 64 → Prop) (u t : State) : Prop where
  marks : ∀ e : Fin 64, t.signals[e].disagree = true → u.signals[e].disagree = true
  pairs : ∀ e : Fin 64, ¬ fed e → (∀ p, u.signals[e].desc.partner = some p → ¬ fed p) →
    t.signals[e].disagree = u.signals[e].disagree ∧ t.signals[e].disagreement = u.signals[e].disagreement
  judged : ∀ e p : Fin 64, u.signals[e].desc.partner = some p → (fed e ↔ ¬ fed p) →
    PairJudged isUpdate u.signals[e] t.signals[e] t.signals[p]
  references : ∀ e : Fin 64, ¬ fed e → t.signals[e].disagree = u.signals[e].disagree → t.signals[e].reference = u.signals[e].reference
  moved : ∀ e : Fin 64, fed e → t.signals[e].moved = false
  reported : ∀ e : Fin 64,
    t.signals[e].view.state ≠ u.signals[e].view.state ∨ t.signals[e].view.source ≠ u.signals[e].view.source ∨
      t.signals[e].view.clamped ≠ u.signals[e].view.clamped ∨ t.signals[e].disagree ≠ u.signals[e].disagree →
    noticed (signalItem e) t
  consumers : ∃ handed, HandedFor fed handed u t ∧ ConsumersTook handed u t

/-- The entries that a source feeds. -/
def fedBy (src : Source) (s : State) (e : Fin 64) : Prop := s.signals[e].desc.primary = src ∨ s.signals[e].desc.alternate = src

/-- The entries of which a slot changed its state, where each entry `e` became `f e` (R7, R9). -/
def slotsChanged (f : Fin 64 → Entry) (s : State) (e : Fin 64) : Prop :=
  (f e).primary.state ≠ s.signals[e].primary.state ∨ (f e).alternate.state ≠ s.signals[e].alternate.state

/-- From `u` to `t`, every slot with the source has taken the update, every other slot is as it was, and nothing has happened but what an
update of the table brings about. -/
structure Delivered (src : Source) (x : Update) (u t : State) : Prop where
  table : TableEvent u t
  entries : ∀ i : Fin 64, EntryKept (u.signals[i].afterUpdate src x) t.signals[i]
  followed : Followed true (fedBy src u) u t

/-- From `u` to `t`, updates have been delivered one after another, each with the notices that it gives, and the event has ended. -/
def DeliveredInTurn : List (Source × Update) → State → State → Prop
  | [], u, t => EventEnd u t
  | (src, x) :: l, u, t => ∃ m, Delivered src x u m ∧ EntriesReported u m ∧ DeliveredInTurn l m t

/-- The cycle state that the passages make of the present one where the gauges stand as given (R154, R156). -/
def passed (s : State) (gs : Vector Gauge 6) : CycleState :=
  match s.cycle.state with
  | .starting =>
    if s.cycle.window = .stopped ∧ ∀ i : Fin 6, gs[i].state ∈ [.tracking, .parking, .parked] then .run else .starting
  | .stopping => if ∀ i : Fin 6, gs[i].state = .parked then .parked else .stopping
  | .load => .load
  | .parked => .parked
  | .run => .run

/-- From `s` to `t`, gauge `k` has become `g`, with its notice (R90) and the passage that its change of state opens (R154, R156), and nothing
else has happened but the end of the event. -/
structure GaugeEvent (k : Fin 6) (g : Gauge) (s t : State) : Prop where
  gauges : t.gauges = s.gauges.set k g
  signals : t.signals = s.signals
  claims : ClaimsKept s.lamps t.lamps
  state : t.cycle.state = if g.state = s.gauges[k].state then s.cycle.state else passed s (s.gauges.set k g)
  table : TableEvent s t
  item : gaugeNotice s.gauges[k] g = true → noticed (gaugeItem k) t
  cycle : t.cycle.state ≠ s.cycle.state → noticed cycleItem t ∧ Released .cycle t

/-- From `u` to `t`, each gauge `k` has become `g k`, with its notice (R90) and the passage that this opens (R154, R156), and nothing else has
happened but the end of the event. -/
structure GaugesBecome (g : Fin 6 → Gauge) (u t : State) : Prop where
  gauges : ∀ k : Fin 6, t.gauges[k] = g k
  signals : t.signals = u.signals
  claims : ClaimsKept u.lamps t.lamps
  table : TableEvent u t
  items : ∀ k : Fin 6, gaugeNotice u.gauges[k] (g k) = true → noticed (gaugeItem k) t
  silent : ReportedOnly (fun i => ∀ k : Fin 6, i = gaugeItem k → GaugeDiffers u.gauges[k] (g k)) u t
  state : t.cycle.state = if ∀ k : Fin 6, (g k).state = u.gauges[k].state then u.cycle.state else passed u (Vector.ofFn g)
  cycle : t.cycle.state ≠ u.cycle.state → Released .cycle t

/-- From `u` to `t` the cycle controller has entered STARTING, with what the blocks do there (R60, R69, R90, R100, R103, R125, R152). -/
structure StartingEntered (u t : State) : Prop where
  cycle : t.cycle =
    { u.cycle with
      state := .starting
      window := .running u.cycle.windowLength
      causeSwitch := false
      causeWindow := false }
  gauges : ∀ i : Fin 6, t.gauges[i] = u.gauges[i].start u.conv.supply (gaugeView u u.gauges[i])
  parkedTimer : t.conv.parkedTimer = .stopped
  scanTimer : t.conv.scanTimer =
    match u.conv.scanTimer with
    | .running ms => .running ms
    | .stopped => u.config.elim .stopped fun c => .running c.timing.scanMs
  seeds : ∀ i : Fin 16, t.conv.slots[i] =
    if (u.conv.scanSlot i).any (·.fastSettle) then { u.conv.slots[i] with seed := true } else u.conv.slots[i]
  converter : t.conv.settings = u.conv.settings ∧ t.conv.pass = u.conv.pass ∧ t.conv.supply = u.conv.supply ∧
    t.conv.lowCount = u.conv.lowCount ∧ t.conv.overruns = u.conv.overruns ∧ t.conv.takeOver = u.conv.takeOver
  drivers : ∀ i : Fin 40,
    t.lamps.telltales[i].fault = (if u.lamps.telltales[i].fault.isShort then .ok else u.lamps.telltales[i].fault) ∧
    t.lamps.telltales[i].retries = 0 ∧ t.lamps.telltales[i].retryTimer = .stopped ∧
    t.lamps.telltales[i].patterns = u.lamps.telltales[i].patterns ∧ t.lamps.telltales[i].latches = u.lamps.telltales[i].latches
  unit : t.lamps.settings = u.lamps.settings ∧ t.lamps.slowOn = u.lamps.slowOn ∧ t.lamps.fastOn = u.lamps.fastOn
  chimes : ∀ i : Fin 8,
    t.lamps.chimes[i].latches = u.lamps.chimes[i].latches ∧ t.lamps.chimes[i].portClaims = u.lamps.chimes[i].portClaims
  others : t.signals = u.signals ∧ t.pulse = u.pulse ∧ t.dist = u.dist ∧ t.switches = u.switches ∧ t.tacho = u.tacho ∧
    t.store = u.store ∧ t.pending = u.pending
  conditions : ∀ c, c ≠ .telltaleFailed → t.cond c = u.cond c
  ports : PortsTook u t
  items : ∀ i : Fin 6,
    gaugeNotice u.gauges[i] t.gauges[i] = true ∨ u.gauges[i].reparks (gaugeView u u.gauges[i]) = true → noticed (gaugeItem i) t
  silent : ReportedOnly (fun j => ∀ i : Fin 6, j = gaugeItem i →
    GaugeDiffers u.gauges[i] t.gauges[i] ∨ u.gauges[i].reparks (gaugeView u u.gauges[i]) = true) u t
  telltales : TelltalesReported u t
  item : noticed cycleItem t
  event : Released .cycle t

/-- The cycle state at a STOPPING entry once the gauges have taken the IGN_OFF (R156). -/
def stoppingState (u : State) : CycleState :=
  if ∀ i : Fin 6, u.gauges[i].ignitionOff.state = .parked then .parked else .stopping

/-- From `u` to `t` the cycle controller has entered STOPPING, or passed through it to PARKED, with what the blocks do there
(R60, R101, R155, R156, R157). `wake` says whether a wake cause SWITCH follows the entry. -/
structure StoppingEntered (wake : Bool) (u t : State) : Prop where
  cycle : t.cycle =
    { u.cycle with
      state := stoppingState u
      window := .stopped
      causeSwitch := u.cycle.causeSwitch || (wake && stoppingState u == .parked) }
  gauges : ∀ i : Fin 6, t.gauges[i] = u.gauges[i].ignitionOff
  converter : t.conv =
    if stoppingState u = .parked then
      { u.conv with
        scanTimer := .stopped
        parkedTimer := u.conv.settings.elim .stopped fun c => .running (1000 * c.parkedS) }
    else u.conv
  claims : ClaimsKept u.lamps t.lamps
  others : t.signals = u.signals ∧ t.pulse = u.pulse ∧ t.dist = u.dist ∧ t.switches = u.switches ∧ t.tacho = u.tacho ∧
    t.store = u.store ∧ t.pending = u.pending
  conditions : ∀ c, c ≠ .telltaleFailed → t.cond c = u.cond c
  ports : PortsTook u t
  items : ∀ i : Fin 6, gaugeNotice u.gauges[i] t.gauges[i] = true → noticed (gaugeItem i) t
  silent : ReportedOnly (fun j => ∀ i : Fin 6, j = gaugeItem i → GaugeDiffers u.gauges[i] t.gauges[i]) u t
  telltales : TelltalesReported u t
  item : noticed cycleItem t
  event : Released .cycle t

/-- From a port `x` to `y`, the frame in execution stands as it was, but that a hold at a WAIT for CHANGE or CYCLE may have ended with OK (R173). -/
structure PortState.FrameStands (x y : PortState) : Prop where
  none : x.exec = .none → y.exec = .none
  frame : ∀ f, x.exec = some f →
    y.exec = some f ∨
      (∃ ev tm, (ev = .change ∨ ev = .cycle) ∧ f.hold = some (ev, tm)) ∧ y.exec = some (f.endHold .ok)

/-- What the first judgement behind a taking of settings leaves in a claim's latch (R111): an ABOVE or a BELOW claim is active by its threshold
alone, on the view as it stands; the other claims are judged without it. -/
def Claim.latchedAfresh (s : State) (c : Claim) (latch : Bool) : Prop :=
  (∀ e t h p, c = .signal e .above t h p → p ≠ .follow → (latch = true ↔ t < s.signals[e].view.value)) ∧
  (∀ e t h p, c = .signal e .below t h p → p ≠ .follow → (latch = true ↔ s.signals[e].view.value < t))

/-- The claim latches of all telltales and chimes stand as their first judgement under a configuration leaves them (R111, R133, R134). -/
structure LatchedAfresh (c : Configuration) (t : State) : Prop where
  telltales : ∀ (i : Fin 40) (k : Fin 4), c.telltales[i].claims[k].latchedAfresh t t.lamps.telltales[i].latches[k]
  chimes : ∀ (i : Fin 8) (k : Fin 2), c.chimes[i].claims[k].latchedAfresh t t.lamps.chimes[i].latches[k]

/-- From `u` to `t` the part has left LOAD for PARKED under a configuration, as the blocks take it
(R30, R57, R59, R80, R87, R88, R110, R134, R135, R143, R150, R157, R174, R180). -/
structure LoadLeft (c : Configuration) (u t : State) : Prop where
  cycle : t.cycle = { u.cycle with state := .parked, windowLength := c.timing.bulbMs }
  pulse : ∀ i : Fin 4, t.pulse[i] =
    { u.pulse[i] with
      settings := some c.pulse[i], gate := .running c.pulse[i].gateMs, n := 0, tFirst := none, tLast := none, rejected := 0
      tPrev := none, spacingRef := none, current := 0, takeOver := false }
  dist : t.dist =
    { u.dist with
      stepSize := c.pulse[0].scale
      residue := if c.pulse[0].scale = u.dist.stepSize then u.dist.residue else 0
      parityOdd := false }
  converter : t.conv =
    { u.conv with
      settings := some
        { scanMs := c.timing.scanMs, parkedS := c.timing.parkedS, slots := c.scanList, curves := c.curves
          curveValid := u.store.senderMarks }
      slots := .replicate 16 { y := 0, seed := true, refuel := 0 }
      takeOver := false
      scanTimer := .stopped
      parkedTimer := .running (1000 * c.timing.parkedS) }
  switches : t.switches.settings = some c.switches ∧ ∀ i : Fin 24, t.switches.inputs[i] =
    { u.switches.inputs[i] with debounce := .running c.switches.debounceMs[i] }
  gauges : ∀ i : Fin 6, t.gauges[i] =
    { u.gauges[i] with settings := some { desc := c.gauges[i], curveValid := u.store.gaugeMarks[i] } }
  lamps : t.lamps.settings = some { telltales := c.telltales, chimes := c.chimes } ∧
    t.lamps.slowOn = u.lamps.slowOn ∧ t.lamps.fastOn = u.lamps.fastOn
  latches : LatchedAfresh c t
  tacho : t.tacho =
    { u.tacho with
      settings := some c.readout
      remaining := if u.tacho.state = .none then 0 else c.readout.limit - u.tacho.continuous }
  links : ∀ p, (t.port p).link = (u.port p).link ∧ (t.port p).timeout = c.timing.timeout p ∧
    ((u.port p).link = .up → (u.port p).held = false → (t.port p).linkTimer = .running (c.timing.timeout p)) ∧
    ((u.port p).link ≠ .up → (t.port p).linkTimer = (u.port p).linkTimer) ∧
    (t.port p).watch = (u.port p).watch ∧ (t.port p).counters = (u.port p).counters ∧ (t.port p).cursors = (u.port p).cursors
  transport : ∀ p, (t.port p).receiver = (u.port p).receiver ∧ (t.port p).period = (u.port p).period ∧
    (t.port p).reply = (u.port p).reply ∧ ∃ l, (t.port p).changes = (u.port p).changes ++ l
  silent : ReportedOnly (fun i => i = cycleItem ∨
    (t.tacho.remaining ≠ u.tacho.remaining ∧ (i = tachoItem ∨ ∃ k, i = telltaleItem k))) u t
  frames : ∀ p, (u.port p).FrameStands (t.port p)
  others : t.signals = u.signals ∧ t.store = u.store ∧ t.pending = u.pending
  conditions : ∀ d, d ∉ [.telltaleFailed, .odoMismatch, .tachoPrewarn, .tachoLimit] → t.cond d = u.cond d
  item : noticed cycleItem t
  event : Released .cycle t

/-! ## Invariants -/

/-- A port's change list holds no item twice and only items of its watch set (R176). -/
def PortState.listLegal (x : PortState) : Prop := x.changes.Nodup ∧ ∀ i ∈ x.changes, x.watch[i] = true

/-- The change lists of all ports are legal. -/
def ListsLegal (s : State) : Prop := ∀ p, (s.port p).listLegal

/-- The controller conditions that the supply state, the mismatch mark, the links and the readout own stand as these give them
(Table 4-5 and R74; R53; R175; R144 and R145). -/
structure ConditionsStand (s : State) : Prop where
  supplyLow : s.cond .supplyLow = (s.conv.supply == .low)
  supplyHigh : s.cond .supplyHigh = (s.conv.supply == .high)
  odoMismatch : s.cond .odoMismatch = s.dist.mismatch
  linkLost : ∀ p, s.cond (linkLostCondition p) = ((s.port p).link == .lost)
  tachoStale : s.cond .tachoStale = (s.tacho.state == .estimated || s.tacho.state == .lost)
  tachoPrewarn : ∀ st, s.tacho.settings = some st →
    (s.cond .tachoPrewarn = true ↔ s.tacho.state ≠ .none ∧ st.prewarn ≤ s.tacho.continuous)
  tachoLimit : ∀ st, s.tacho.settings = some st →
    (s.cond .tachoLimit = true ↔ s.tacho.state ≠ .none ∧ st.limit ≤ s.tacho.continuous)

/-- TELLTALE_FAILED is raised exactly while a FAILED flag is set (R126). -/
def FailedCondition (s : State) : Prop :=
  ∀ st, s.lamps.settings = some st → s.cond .telltaleFailed = s.lamps.telltales.toList.any (·.failed)

/-- The image and the staging buffer are in canonical form. -/
def MemoriesWf (s : State) : Prop := Memory.wf s.store.image ∧ Memory.wf s.store.staging

/-- The telltale unit's settings are those of a configuration as R110 normalises it. -/
def LampsNormal (s : State) : Prop := ∀ st, s.lamps.settings = some st → ∃ c : Configuration, st = lampSettings c.normal

/-- Every resolved pattern, FAILED flag and built-in claim stands as the claims give it (R117, R118, R119, R126). -/
def ClaimsResolved (s : State) : Prop :=
  ∀ st, s.lamps.settings = some st →
    (∀ i : Fin 40,
      s.lamps.telltales[i].resolved = resolveOne s st.telltales[i] s.lamps.builtIn i s.lamps.telltales[i] ∧
      s.lamps.telltales[i].failed = failedFlag s st.telltales[i] s.lamps.builtIn i s.lamps.telltales[i]) ∧
    s.lamps.builtIn = { judgeBuiltIn s st s.lamps.telltales s.lamps.builtIn with failed := s.cond .telltaleFailed }

/-- Every telltale's shown pattern and lamp output stand as its resolved pattern, the cycle state and the flashers give them
(R120, R122). -/
def LampsSettled (s : State) : Prop :=
  ∀ st, s.lamps.settings = some st → ∀ i : Fin 40,
    s.lamps.telltales[i].shown =
      gated s.cycle.state st.telltales[i]
        (bulbChecked s.cycle.window.isRunning st.telltales[i] s.lamps.telltales[i].resolved) ∧
    s.lamps.telltales[i].output =
      (st.telltales[i].render == .lamp && s.lamps.lit s.lamps.telltales[i].shown && !s.lamps.telltales[i].fault.isShort)

/-- Chime `i` is the one that the sounder arbiter plays: active in RUN, of the highest priority, and of the lowest channel among the equals
(R129). -/
def Arbitrated (st : LampSettings) (s : State) (i : Fin 8) : Prop :=
  s.cycle.state = .run ∧ chimeActive s st i = true ∧
    ∀ j, chimeActive s st j = true →
      st.chimes[j].priority < st.chimes[i].priority ∨ (st.chimes[j].priority = st.chimes[i].priority ∧ i ≤ j)

/-- Every chime's state stands as its claims, its served flag and the arbiter give it, and no chime without an active claim has its served
flag set (R128, R129, R132). -/
def ChimesSettled (s : State) : Prop :=
  ∀ st, s.lamps.settings = some st → ∀ i : Fin 8,
    (chimeClaimed s st.chimes[i] s.lamps.chimes[i] = false → s.lamps.chimes[i].served = false) ∧
    (s.lamps.chimes[i].state = .quiet ↔ chimeClaimed s st.chimes[i] s.lamps.chimes[i] = false) ∧
    (s.lamps.chimes[i].state = .served ↔
      chimeClaimed s st.chimes[i] s.lamps.chimes[i] = true ∧ s.lamps.chimes[i].served = true) ∧
    (s.lamps.chimes[i].state = .playing ↔ Arbitrated st s i)

/-- The readout stands as its chapter gives it: the estimation timer runs exactly in ESTIMATED (R139 to R142), the remaining time is the limit
less the continuous figure (R143), and in NONE there is no record and no figure (R146, R148). -/
structure ReadoutStands (s : State) : Prop where
  estimating : s.tacho.estimation.isRunning = true ↔ s.tacho.state = .estimated
  remaining : ∀ st, s.tacho.settings = some st →
    s.tacho.remaining = if s.tacho.state = .none then 0 else st.limit - s.tacho.continuous
  none : s.tacho.state = .none →
    s.tacho.record = none ∧ s.tacho.age = 0 ∧ s.tacho.ageTimer = .stopped ∧ s.tacho.continuous = 0 ∧ s.tacho.daily = 0
  seconds : s.tacho.drivingSeconds < 60

/-- Whether a gauge's position is that of a homing run, or unknown: UNHOMED, HOMING, or HELD in a homing run (R96). -/
def Gauge.unplaced (g : Gauge) : Bool :=
  g.state == .unhomed || g.state == .homing || (g.state == .held && g.remembered == some .homing)

/-- Every gauge's position and target lie within 0 and its full scale, but where its position is unplaced (R96). -/
def NeedlesWithin (s : State) : Prop :=
  ∀ (i : Fin 6) (gs : GaugeSettings), s.gauges[i].settings = some gs → s.gauges[i].unplaced = false →
    (0 ≤ s.gauges[i].position ∧ s.gauges[i].position ≤ gs.desc.fullScale) ∧
    (0 ≤ s.gauges[i].target ∧ s.gauges[i].target ≤ gs.desc.fullScale)

/-- What keeps the needles within their travel: the travel settings are normalised (R88), no gauge moves in PARKED or LOAD (R102, R107), and a
commit is in flight in PARKED only (R158, R186). -/
structure GaugesStand (s : State) : Prop where
  within : NeedlesWithin s
  travel : ∀ (i : Fin 6) (gs : GaugeSettings), s.gauges[i].settings = some gs → gs.desc.park ≤ gs.desc.fullScale
  parked : s.cycle.state = .parked → ∀ i : Fin 6, s.gauges[i].state = .unhomed ∨ s.gauges[i].state = .parked
  load : s.cycle.state = .load → ∀ i : Fin 6, s.gauges[i].state = .unhomed
  commit : s.store.state = .committing → s.cycle.state = .parked ∧ s.cycle.commitInFlight = true

/-- Every frame in execution is held at a WAIT: none has a request left that could run. -/
def FramesHeld (s : State) : Prop := s.nextRunnable = none

/-- The odometer's range, and 0 with the mismatch mark clear while it is UNKNOWN (Tables 3-1 and 3-2, R48, R49). -/
def OdometerLegal (s : State) : Prop :=
  s.dist.odo ≤ distanceTop ∧ (s.dist.odoState = .unknown → s.dist.odo = 0 ∧ s.dist.mismatch = false)

end Sys2Proof.Machine
end

