-- ==== Sys2Proof/Certificates/Slice0/Obligations.lean ====
section
/-! DEFINITION. The statements for the provers. Each completion statement gives the state before the frames run by its parts; `Completes`,
`EventEnd`, `TableEvent` and `Delivered` (Sys2Proof/Safety.lean) say what else may differ from them. -/

open Sys2Proof Sys2Proof.Machine

/-! ## The machine -/

/-- A step runs the command at the front of the queue with the queue's rest; on an empty queue the part idles, which is the model's choice
(log 2). -/
def Obligations.StepRunsFrontCommand : Prop :=
  (∀ (c : Instr) (rest : List Instr) (s : State), step (s.setPending (c :: rest)) = exec c (s.setPending rest)) ∧
  (∀ s, s.pending = [] → step s = .next s)

/-- The frames of an event run until each has ended or is held: the first port in the order D, N, T whose frame is not held runs its next request,
as one event, or, with none left, ends the frame. A frame that ends has its reply with the results of its requests ready, has its link timer started
afresh where that does not run, and, where it carried a commit, begins to program: block 239 of the image is erased. A part without a runnable
frame is left as it is; so between two steps every frame in execution is held at a WAIT. That they run within the step, and in that order, is
the model's choice (log 4), and so is that a reply replaces an earlier one which has not begun to go out (log 20). -/
def Obligations.FramesHeldKept : Prop :=
  (∀ s, (runFrames s).nextRunnable = none ∧ (s.nextRunnable = none → runFrames s = s)) ∧
  (∀ (s : State) (p : Port), s.nextRunnable = some p → runFrames s = runFrames (advanceFrame p s)) ∧
  (∀ (s : State) (p : Port),
    let ready (q : Port) : Prop := ∃ f, (s.port q).exec = some f ∧ f.hold = none
    s.nextRunnable = some p ↔
      ready p ∧ (p = .nlink → ¬ ready .dlink) ∧ (p = .tlink → ¬ ready .dlink ∧ ¬ ready .nlink)) ∧
  (∀ (s : State) (p : Port) (f : FrameExec), (s.port p).exec = some f →
    let x := s.port p
    (∀ q rest, f.rest = q :: rest →
      let u := runRequest p q (setPort p { x with exec := some { f with rest := rest } } s)
      EventEnd u (advanceFrame p s) ∧ (s.cycleView ≠ u.cycleView → noticed cycleItem (advanceFrame p s))) ∧
    (f.rest = [] →
      let ended : State :=
        setPort p
          { x with
            exec := none, reply := some (replyFrame f.sequence .ok f.results)
            linkTimer :=
              if x.link = .up ∧ x.linkTimer = .stopped ∧ s.cycle.state ≠ .load then .running x.timeout else x.linkTimer } s
      (f.commit = false → advanceFrame p s = ended) ∧
      (f.commit = true → ∃ m : Memory,
        advanceFrame p s = ended.setStore { s.store with programming := true, image := m } ∧
        (Memory.wf s.store.image →
          ∀ a, m.read a = if 3824 ≤ a ∧ a < 3840 then 0xFF else Memory.read s.store.image a)))) ∧
  (∀ s t, FramesHeld s → step s = .next t → FramesHeld t)

/-- R176: a WATCH write gives the membership of its eight items and takes removed items from the change list; one that marks items 113 to 119 is
refused with RANGE; a READ returns the membership; a notice puts a watched item that is not listed at the tail, whatever the link state; and every
step keeps the change lists free of repeats, within the watch set and so within 113 items. -/
def Obligations.WatchSetsAndChangeLists : Prop :=
  (∀ (x : PortState) (j : Fin 15) (bits : Nat),
    (∀ i : Fin 113, (x.setWatch j bits).watch[i] = if (i : Nat) / 8 = j then bitOf bits (i % 8) else x.watch[i]) ∧
    (x.setWatch j bits).changes = x.changes.filter (fun i => (x.setWatch j bits).watch[i])) ∧
  (∀ (p : Port) (j : Fin 15) (b : Byte) (s : State),
    judgeElement .watch p j [b] s = (if (j : Nat) = 14 ∧ 1 < b.toNat then some .range else none) ∧
    writeElement .watch p j [b] s = setPort p ((s.port p).setWatch j b.toNat) s) ∧
  (∀ (p : Port) (j : Fin 15) (s : State), ∃ b, readElement .watch p j s = [b] ∧
    ∀ i : Fin 113, (i : Nat) / 8 = j → bitOf b.toNat (i % 8) = (s.port p).watch[i]) ∧
  (∀ (i : Fin 113) (s : State) (p : Port),
    ((raiseItem i s).port p).watch = (s.port p).watch ∧
    ((raiseItem i s).port p).changes =
      if (s.port p).watch[i] = true ∧ i ∉ (s.port p).changes then (s.port p).changes ++ [i] else (s.port p).changes) ∧
  (∀ s t, ListsLegal s → step s = .next t → ListsLegal t) ∧
  (∀ s p, ListsLegal s → (s.port p).changes.length ≤ 113)

/-- R144 for TACHO_PREWARN and TACHO_LIMIT, and the conditions of the supply state, the mismatch mark, the links and TACHO_STALE: every step
keeps each as its owner's state gives it. -/
def Obligations.ConditionsStandKept : Prop := ∀ s t, ConditionsStand s → step s = .next t → ConditionsStand t

/-- R51: the adoption of a tachograph odometer, with the mismatch mark that no other operation of the counter changes, and that the odometer
never falls: every step but a power-on reset leaves it at its value or above. In UNKNOWN the odometer becomes the figure, the state TRACKED, and the
mark stays (R50); a seed gives the odometer and the state SEEDED, and changes nothing else (R49). -/
def Obligations.OdometerNeverFalls : Prop :=
  (∀ (d : Distance) (T : Nat), d.odoState ≠ .unknown →
    d.adopt T =
      { d with
        odo := if d.odo ≤ T then T else d.odo
        odoState := .tracked
        mismatch := if d.odo ≤ T then decide (d.tolerance < T - d.odo) else decide (d.tolerance < d.odo - T) }) ∧
  (∀ (d : Distance) (T : Nat), d.odoState = .unknown → d.adopt T = { d with odo := T, odoState := .tracked }) ∧
  (∀ (d : Distance) (v : Nat), d.seed v = { d with odo := v, odoState := .seeded }) ∧
  (∀ (d : Distance) (both : Bool) (v k : Nat),
    (d.edge both).mismatch = d.mismatch ∧ (d.seed v).mismatch = d.mismatch ∧ (d.takeStepSize k).mismatch = d.mismatch) ∧
  (∀ s t, OdometerLegal s → step s = .next t → OdometerLegal t) ∧
  (∀ s t, OdometerLegal s → (∀ strap, s.pending.head? ≠ some (.powerOnReset strap)) → step s = .next t → s.dist.odo ≤ t.dist.odo)

/-- R143: the remaining time is the limit less the continuous figure, or 0 at the limit and above it and in NONE; every step keeps this, with
what else the readout's state says of its timers and figures. -/
def Obligations.ReadoutStandsKept : Prop := ∀ s t, ReadoutStands s → step s = .next t → ReadoutStands t

/-- Every step keeps every gauge's position and target within 0 and its full scale, but where a homing run or UNHOMED leaves the position
unknown (R96), with what this rests on. -/
def Obligations.NeedlesWithinKept : Prop := ∀ s t, GaugesStand s → step s = .next t → GaugesStand t

/-- Every step keeps the image and the staging buffer in canonical form. An unlisted address reads the erased byte (log 6). -/
def Obligations.MemoriesKept : Prop := ∀ s t, MemoriesWf s → step s = .next t → MemoriesWf t

/-- After every step, every telltale is shown and driven as its resolved pattern, the cycle state, the window, the flashers and its driver fault give
it (R120, R122), and TELLTALE_FAILED stands exactly while a FAILED flag is set (R126). The bulb check and the cycle gating of R120, and what is lit
(R122), are spelled out. What is reported: a telltale whose resolved or shown pattern, driver fault or FAILED flag a command or a request of a frame
has changed, whatever brought it about, is reported on its item (R127), but at the exit from LOAD, which reports none of its first judgement (R134); a
gauge that one has changed as R90 asks is reported on its item (of the two exits from LOAD, which leave a gauge UNHOMED, PARKED or homing, `LoadLeft`
gives the notices); and every command that changes what item 112 shows reports it (R162). What is not: no command and no request of a frame puts an
item on a list but one of which what it shows has changed as its rule asks (R20, R21, R56, R90, R127, R146, R162), or that `ReportDue` names; of a
WRITE to SIGNALS or TACHO, the entries, the gauges and item 110 have statements of their own. That an acceptance is carried through in two stages (log
34), that a value of AN15 is delivered before the supply is judged (log 41), and that a count of sixty is reported where both figures stand at 1,440
(log 47), are the model's. -/
def Obligations.ShownKept : Prop :=
  (∀ s t, LampsSettled s ∧ FailedCondition s → step s = .next t → LampsSettled t ∧ FailedCondition t) ∧
  (∀ (windowRunning : Bool) (d : TelltaleDesc) (p : Pattern),
    bulbChecked windowRunning d p = if windowRunning = true ∧ d.proveOut = true ∧ p = .off then .on else p) ∧
  (∀ (c : CycleState) (d : TelltaleDesc) (p : Pattern),
    (c = .load → gated c d p = .off) ∧
    (c = .parked ∨ c = .stopping → gated c d p = if d.parkedActive = true then p else .off) ∧
    (c = .starting ∨ c = .run → gated c d p = p)) ∧
  (∀ (u : TelltaleUnit) (p : Pattern),
    u.lit p = true ↔ p = .on ∨ p = .follow ∨ (p = .slow ∧ u.slowOn = true) ∨ (p = .fast ∧ u.fastOn = true)) ∧
  (∀ (c : Instr) (s : State), c ≠ .configLoadComplete → c ≠ .restartLoadEnd →
    Completes c s fun t =>
      ∀ i : Fin 40, TelltaleDiffers s.lamps.telltales[i] t.lamps.telltales[i] → noticed (telltaleItem i) t) ∧
  (∀ (p : Port) (s : State),
    let t := advanceFrame p s
    ∀ i : Fin 40, TelltaleDiffers s.lamps.telltales[i] t.lamps.telltales[i] → noticed (telltaleItem i) t) ∧
  (∀ (before s : State),
    let t := finishEvent before s
    ∀ i : Fin 40, TelltaleDiffers s.lamps.telltales[i] t.lamps.telltales[i] → noticed (telltaleItem i) t) ∧
  (∀ (c : Instr) (s : State), LampsNormal s →
    Completes c s fun t => ∀ p i, i ∈ (t.port p).changes → i ∈ (s.port p).changes ∨ itemChanged s t i ∨ ReportDue c s t p i) ∧
  (∀ (p : Port) (f : FrameExec) (s : State), LampsNormal s → (s.port p).exec = some f →
    let t := advanceFrame p s
    ∀ q i, i ∈ (t.port q).changes →
      i ∈ (s.port q).changes ∨ itemChanged s t i ∨
        (∃ index count data rest, f.rest = .write .signals index count data :: rest ∧ ofTable i) ∨
        (∃ index count data rest, f.rest = .write .tacho index count data :: rest ∧ (ofTable i ∨ i = tachoItem))) ∧
  (∀ (c : Instr) (s : State), Completes c s fun t => t.cycleView ≠ s.cycleView → noticed cycleItem t) ∧
  (∀ (c : Instr) (s : State), c ≠ .configLoadComplete → c ≠ .restartLoadEnd →
    Completes c s fun t => ∀ k : Fin 6, GaugeDiffers s.gauges[k] t.gauges[k] → noticed (gaugeItem k) t) ∧
  (∀ (p : Port) (s : State) (k : Fin 6),
    GaugeDiffers s.gauges[k] (advanceFrame p s).gauges[k] → noticed (gaugeItem k) (advanceFrame p s))

/-- Every step keeps the telltale unit's settings normalised, and leaves every resolved pattern, FAILED flag and built-in claim as the claims give it
(R117, R118, R119, R126). From this, in RUN a MANDATORY LAMP telltale with an active claim, of its descriptor or built in, is lit or flashes at its
output, unless its driver is in SHORT or LATCHED, and TT0 then has an active claim (the property that R122 states). The aggregation and fallback
claims of TT0 and TT1 (R118, R119) and the FAILED flag (R126) are spelled out. -/
def Obligations.ResolvedKept : Prop :=
  (∀ s t, LampsNormal s ∧ ClaimsResolved s → step s = .next t → LampsNormal t ∧ ClaimsResolved t) ∧
  (∀ (s : State) (st : LampSettings) (i : Fin 40),
    LampsNormal s → ClaimsResolved s → LampsSettled s → FailedCondition s →
    s.lamps.settings = some st → s.cycle.state = .run → st.telltales[i].render = .lamp → st.telltales[i].lampClass = .mandatory →
    s.lamps.telltales[i].resolved ≠ .off ∨ (∃ k, telltaleClaim s st.telltales[i] s.lamps.telltales[i] k = true) ∨
      s.lamps.builtIn.any i = true →
    (s.lamps.telltales[i].shown ≠ .off ∧
      (s.lamps.telltales[i].fault.isShort = false →
        s.lamps.telltales[i].output =
          (match s.lamps.telltales[i].shown with
          | .off => false
          | .on | .follow => true
          | .slow => s.lamps.slowOn
          | .fast => s.lamps.fastOn)) ∧
      (s.lamps.telltales[i].fault.isShort = true →
        s.lamps.telltales[i].output = false ∧ s.cond .telltaleFailed = true ∧ s.lamps.telltales[(0 : Fin 40)].resolved ≠ .off))) ∧
  (∀ (s : State) (st : LampSettings) (ts : Vector Telltale 40) (b : BuiltInClaims),
    let j := judgeBuiltIn s st ts b
    let some' (P : Fin 40 → TelltaleDesc → Prop) : Prop := ∃ i : Fin 40, ts[i].resolved ≠ .off ∧ P i st.telltales[i]
    let fallback : Prop := s.cycle.state = .run ∧ (s.port .dlink).link = .lost
    (j.stop = true ↔ some' fun i d => i ≠ 0 ∧ d.colour = .red ∧ d.lampClass = .mandatory) ∧
    (j.check = true ↔ some' fun i d => i ≠ 1 ∧ d.colour = .amber) ∧
    (j.fallback0 = true ↔ fallback ∧ some' fun _ d => d.render = .screen ∧ d.colour = .red) ∧
    (j.fallback1 = true ↔ fallback ∧ some' fun _ d => d.render = .screen ∧ (d.colour = .amber ∨ d.colour = .other)) ∧
    j.failed = b.failed) ∧
  (∀ (s : State) (d : TelltaleDesc) (b : BuiltInClaims) (i : Fin 40) (x : Telltale),
    failedFlag s d b i x = true ↔
      d.render = .lamp ∧ d.lampClass = .mandatory ∧ (x.fault = .short ∨ x.fault = .latched) ∧
        ((i = 0 ∧ (b.stop = true ∨ b.fallback0 = true)) ∨ (i = 1 ∧ (b.check = true ∨ b.fallback1 = true)) ∨
          ∃ k : Fin 4, telltaleClaim s d x k = true ∧ ∀ p, d.claims[k] ≠ .condition .telltaleFailed p))

/-- After every step, every chime's state follows from its claims, its served flag and the arbiter's choice, which is made in RUN alone
(R128, R129, R132). The chimes are settled at the end of every event, behind the telltales; what settling makes of a chime's state, served flag,
count and phase is spelled out: the served flag is cleared when no claim is active (R128), a chosen chime plays from its beginning (R129, R130), a
pre-empted finite chime is SERVED and a pre-empted continuous one WAITING from its beginning (R131), and a departure from RUN leaves a playing
chime WAITING with its served flag as it was and its count returned to 0, which holds too where its claims end with the departure (R132). That a
chime keeps its count when it otherwise becomes QUIET or SERVED is the model's reading (log 27). -/
def Obligations.ChimesSettledKept : Prop :=
  (∀ s t, ChimesSettled s → step s = .next t → ChimesSettled t) ∧
  (∀ before s : State, (finishEvent before s).lamps = (settleChimes (settleLamps true s)).lamps) ∧
  (∀ (s : State) (st : LampSettings), s.lamps.settings = some st →
    (∃ c, settleChimes s = s.setLamps { s.lamps with chimes := c }) ∧
    ∀ i : Fin 8,
      let x := s.lamps.chimes[i]
      let y := (settleChimes s).lamps.chimes[i]
      let finite := st.chimes[i].repetitions ≠ 0
      (chimeClaimed s st.chimes[i] x = false →
        y = { x with
          served := false, state := .quiet, phase := .none
          count := if x.state = .playing ∧ s.cycle.state ≠ .run then 0 else x.count }) ∧
      (chimeClaimed s st.chimes[i] x = true → x.served = true → y = { x with state := .served, phase := .none }) ∧
      (Arbitrated st s i → x.state = .playing → y = x) ∧
      (Arbitrated st s i → x.state ≠ .playing → y = { x with state := .playing, count := 0, phase := .onTime }) ∧
      (chimeActive s st i = true → ¬ Arbitrated st s i →
        (x.state = .playing → s.cycle.state = .run → finite → y = { x with served := true, state := .served, phase := .none }) ∧
        (x.state = .playing → s.cycle.state ≠ .run ∨ ¬ finite → y = { x with state := .waiting, count := 0, phase := .none }) ∧
        (x.state ≠ .playing → y = { x with state := .waiting, phase := .none })))

/-- State.reset meets every invariant. It holds at the values the spec gives and at those the model chooses (logs 6 to 8). -/
def Obligations.ResetMeetsInvariants : Prop :=
  FramesHeld State.reset ∧ ListsLegal State.reset ∧ ConditionsStand State.reset ∧ OdometerLegal State.reset ∧
  ReadoutStands State.reset ∧ GaugesStand State.reset ∧ MemoriesWf State.reset ∧ LampsSettled State.reset ∧
  FailedCondition State.reset ∧ LampsNormal State.reset ∧ ClaimsResolved State.reset ∧ ChimesSettled State.reset

/-- A block written to the staging buffer or the image reads back, and every other address reads as before; the canonical form is kept. What an image
reads as: its soundness (R182), its map (Tables 11-1 and 12-6), each record's fields in the codes of Table 12-8, and what fails it (R184). An unlisted
address reads the erased byte (log 6); the channel field of a scan slot (log 10), a sweep-enable byte other than 0 and 1 (log 13) and the fields that
validation passes over (log 31), with bits that carry no field (log 53), are the model's. -/
def Obligations.BlockReadsBack : Prop :=
  (∀ (m : Memory) (i : Nat) (bs : List Byte), m.wf → bs.length = 16 →
    (m.writeBlock i bs).wf ∧
    (∀ k, k < 16 → (m.writeBlock i bs).read (16 * i + k) = bs.getD k 0) ∧
    (∀ a, a < 16 * i ∨ 16 * i + 16 ≤ a → (m.writeBlock i bs).read a = m.read a)) ∧
  (∀ (m : Memory) (c : Configuration),
    soundImage m = some c ↔
      (∃ k, k < 16 ∧ m.read (3824 + k) ≠ 0xFF) ∧
      crc16 ((List.range 3824).map m.read) = m.read 3824 ++ m.read 3825 ∧ parseImage m = some c) ∧
  (∀ (m : Memory) (c : Configuration),
    let bytes (a n : Nat) : List Byte := (List.range n).map fun k => m.read (a + k)
    parseImage m = some c ↔
      (∀ i : Fin 64, parseDescriptor (bytes (17 * i) 17) = some c.descriptors[i]) ∧
      (∀ i : Fin 40, parseTelltale (bytes (1088 + 32 * i) 32) = some c.telltales[i]) ∧
      (∀ i : Fin 8, parseChime (bytes (2368 + 32 * i) 32) = some c.chimes[i]) ∧
      (∀ i : Fin 4, parsePulse i (bytes (2624 + 16 * i) 16) = some c.pulse[i]) ∧
      (((List.range 16).map fun k => bytes (2688 + 16 * k) 16).takeWhile fun r => r.getD 0 0 ≠ 0xFF).map parseScanSlot =
        c.scanList.map some ∧
      ((c.scanList.map (·.channel)).Nodup ∧ 15 ∈ c.scanList.map (·.channel)) ∧
      (∀ i : Fin 16, c.curves[i] =
        ((List.range 8).map fun k =>
          ({ x := wordAt (bytes (2944 + 32 * i) 32) (4 * k), y := signedAt (bytes (2944 + 32 * i) 32) (4 * k + 2) } : CurvePoint)).takeWhile
          fun p => p.x ≠ 0xFFFF) ∧
      (∀ i : Fin 6, parseGauge (bytes (3456 + 48 * i) 48) = some c.gauges[i]) ∧
      ((∀ p : Fin 12, c.switches.activeHigh[p] = (wordAt (bytes 3744 32) 0).testBit p) ∧
        (∀ i : Fin 24, c.switches.debounceMs[i] = 10 * byteAt (bytes 3744 32) (2 + i)) ∧
        (∀ i : Fin 24, c.switches.wake[i] = (byteAt (bytes 3744 32) (26 + i / 8)).testBit (i % 8))) ∧
      c.timing =
        { scanMs := wordAt (bytes 3776 16) 0, parkedS := byteAt (bytes 3776 16) 2, bulbMs := 100 * byteAt (bytes 3776 16) 3
          timeoutD := 100 * byteAt (bytes 3776 16) 4, timeoutN := 100 * byteAt (bytes 3776 16) 5
          timeoutT := 100 * byteAt (bytes 3776 16) 6 } ∧
      c.readout =
        { staleS := byteAt (bytes 3792 16) 0, motion := wordAt (bytes 3792 16) 1, prewarn := wordAt (bytes 3792 16) 3
          limit := wordAt (bytes 3792 16) 5 } ∧
      c.odoTolerance = wordAt (bytes 3792 16) 7 ∧ c.label = bytes 3808 16 ++ bytes 3826 14 ∧ c.crc = m.read 3824 ++ m.read 3825) ∧
  (∀ (r : List Byte) (k : Nat),
    byteAt r k = (r.getD k 0).toNat ∧ wordAt r k = (r.getD k 0).toNat * 256 + (r.getD (k + 1) 0).toNat ∧
    signedAt r k = BitVec.toInt (r.getD k 0 ++ r.getD (k + 1) 0)) ∧
  (∀ (r : List Byte) (d : Descriptor),
    parseDescriptor r = some d ↔
      byteAt r 0 / 16 = d.kind.code ∧ byteAt r 0 % 16 = d.policy.code ∧ byteAt r 1 = d.primary.code ∧ byteAt r 2 = d.alternate.code ∧
      d.min = signedAt r 3 ∧ d.max = signedAt r 5 ∧ d.default = signedAt r 7 ∧ d.staleMs = 10 * byteAt r 9 ∧
      d.lostMs = 100 * byteAt r 10 ∧ d.notifyDelta = wordAt r 11 ∧
      ((byteAt r 13 = 0xFF ∧ d.partner = none) ∨ ∃ p : Fin 64, byteAt r 13 = p ∧ d.partner = some p) ∧
      d.tolerance = wordAt r 14 ∧ d.persistenceMs = 100 * byteAt r 16 ∧ d.min ≤ d.max) ∧
  (∀ (ofChime : Bool) (r : List Byte) (c : Claim),
    let carries (p : Pattern) : Prop := if ofChime then p = .on else byteAt r 0 % 16 = p.code
    parseClaim ofChime r = some c ↔
      match c with
      | .absent => byteAt r 0 / 16 = 0
      | .signal e t threshold hysteresis p =>
        byteAt r 0 / 16 = 1 ∧ byteAt r 1 = e ∧ byteAt r 2 = t.code ∧ threshold = signedAt r 3 ∧ hysteresis = wordAt r 5 ∧ carries p
      | .switch i p => byteAt r 0 / 16 = 2 ∧ byteAt r 1 = i ∧ carries p
      | .port q => byteAt r 0 / 16 = 3 ∧ byteAt r 1 = Port.sourceCode q
      | .condition x p => byteAt r 0 / 16 = 4 ∧ byteAt r 1 = x.index ∧ carries p) ∧
  (∀ (r : List Byte) (d : TelltaleDesc),
    parseTelltale r = some d ↔
      byteAt r 0 = d.render.code ∧ byteAt r 1 = d.lampClass.code ∧ byteAt r 2 = d.colour.code ∧
      d.proveOut = (byteAt r 3).testBit 0 ∧ d.parkedActive = (byteAt r 3).testBit 1 ∧
      ∀ k : Fin 4, parseClaim false (r.drop (4 + 7 * k)) = some d.claims[k]) ∧
  (∀ (r : List Byte) (d : ChimeDesc),
    parseChime r = some d ↔
      d.toneHz = wordAt r 0 ∧ d.onMs = 10 * byteAt r 2 ∧ d.offMs = 10 * byteAt r 3 ∧ d.repetitions = byteAt r 4 ∧
      d.priority = byteAt r 5 ∧ ∀ k : Fin 2, parseClaim true (r.drop (6 + 7 * k)) = some d.claims[k]) ∧
  (∀ (i : Fin 4) (r : List Byte) (d : PulseSettings),
    parsePulse i r = some d ↔
      byteAt r 0 = d.kind.code ∧ byteAt r 1 = d.edges.code ∧ d.scale = wordAt r 2 ∧ d.spacingUs = 10 * byteAt r 4 ∧
      (byteAt r 5, d.gateMs) ∈ [(0, 50), (1, 100), (2, 200), (3, 500)] ∧ d.zeroTimeoutMs = 100 * byteAt r 6 ∧ d.creep = wordAt r 7 ∧
      (i = 0 → d.kind = .speed)) ∧
  (∀ (r : List Byte) (d : ScanSlot),
    parseScanSlot r = some d ↔
      byteAt r 0 = 5 + d.channel ∧ byteAt r 1 = d.excitation.code ∧ d.settleUs = wordAt r 2 ∧ d.averaging = byteAt r 4 ∧
      d.averaging ∈ [1, 2, 4, 8] ∧ d.lower = wordAt r 5 ∧ d.upper = wordAt r 7 ∧ byteAt r 9 = (if d.checked then 0 else 1) ∧
      byteAt r 10 = d.curve ∧ d.shift = byteAt r 11 ∧ d.refuelThreshold = wordAt r 12 ∧ d.fastSettle = (byteAt r 14).testBit 0 ∧
      d.parked = (byteAt r 14).testBit 1) ∧
  (∀ (r : List Byte) (d : GaugeDesc),
    parseGauge r = some d ↔
      byteAt r 0 = d.entry ∧
      d.points =
        ((List.range (min 6 (byteAt r 1))).map fun k =>
          ({ x := signedAt r (2 + 4 * k), y := wordAt r (4 + 4 * k) } : CurvePoint)) ∧
      d.fullScale = wordAt r 26 ∧ d.park = wordAt r 28 ∧ byteAt r 30 = (if d.holdOnLoss then 1 else 0) ∧ d.deadband = byteAt r 31 ∧
      d.vmax = byteAt r 32 ∧ d.accel = byteAt r 33 ∧ d.homingSpeed = byteAt r 34 ∧ d.sweepEnable = sweepEnable (r.getD 35 0)) ∧
  (sweepEnable 0 = false ∧ sweepEnable 1 = true) ∧
  (∀ ps : List CurvePoint,
    (senderCurveValid ps = true ↔ 2 ≤ ps.length ∧ (∀ k p q, ps[k]? = some p → ps[k + 1]? = some q → p.x < q.x) ∧ ∀ p ∈ ps, p.x ≤ 4095) ∧
    (gaugeCurveValid ps = true ↔ 2 ≤ ps.length ∧ ∀ k p q, ps[k]? = some p → ps[k + 1]? = some q → p.x < q.x))

/-! ## Resets and the exit from LOAD -/

/-- POWER_ON_RESET: every block at its power-on values, the conditions clear, nothing in the ports; the image, the pins' levels and the queue
are kept, the strap gives the bit rate, and a chip-select period that was open is discarded. Before the load the descriptors, the staging
buffer, the curve marks, the step size, the tolerance, the window length and the channels' settings in use are the model's choice (logs 6, 8);
that the T-link receiver waits for an opening code at once (log 48) is its choice too; that the strap comes with the command (log 7), and that
the whole of a period open at the reset is discarded (log 20), are its readings. -/
def Obligations.PowerOnReset : Prop :=
  ∀ strap s, ∃ t, exec (.powerOnReset strap) s = .next t ∧
    (∀ i : Fin 64,
      t.signals[i].primary = { value := 0, state := .empty, age := 0, clamped := false, cause := .none } ∧
      t.signals[i].alternate = { value := 0, state := .empty, age := 0, clamped := false, cause := .none } ∧
      t.signals[i].reclaim = .stopped ∧ t.signals[i].disagreement = .idle ∧ t.signals[i].disagree = false) ∧
    (∀ i : Fin 4, t.pulse[i] =
      { settings := none, counter := 0, gate := .stopped, n := 0, tFirst := none, tLast := none, rejected := 0, tPrev := none
        spacingRef := none, current := 0, takeOver := false }) ∧
    (t.dist.residue = 0 ∧ t.dist.parityOdd = false ∧ t.dist.ldc = 0 ∧ t.dist.tripA = 0 ∧ t.dist.tripB = 0 ∧ t.dist.odo = 0 ∧
      t.dist.odoState = .unknown ∧ t.dist.mismatch = false) ∧
    t.conv =
      { settings := none, scanTimer := .stopped, parkedTimer := .stopped, pass := none
        slots := .replicate 16 { y := 0, seed := true, refuel := 0 }, supply := .normal, lowCount := 0, overruns := 0
        takeOver := false } ∧
    (t.switches.settings = none ∧ ∀ i : Fin 24, t.switches.inputs[i] =
      { raw := s.switches.inputs[i].raw, debounce := .stopped, accepted := none }) ∧
    (∀ i : Fin 6, t.gauges[i] =
      { settings := none, state := .unhomed, remembered := none, position := 0, fraction := 0, velocity := 0, target := 0
        leg := .none, homingCount := 0 }) ∧
    (t.lamps.settings = none ∧ t.lamps.slowOn = true ∧ t.lamps.fastOn = true ∧
      (∀ i : Fin 40, t.lamps.telltales[i] =
        { latches := .replicate 4 false, patterns := { dlink := .off, nlink := .off, tlink := .off }, resolved := .off
          shown := .off, output := false, fault := .ok, retries := 0, openCheck := .stopped, retryTimer := .stopped
          failed := false }) ∧
      (∀ i : Fin 8, t.lamps.chimes[i] =
        { latches := .replicate 2 false, portClaims := { dlink := false, nlink := false, tlink := false }, served := false
          state := .quiet, count := 0, phase := .none })) ∧
    t.tacho =
      { settings := none, record := none, age := 0, ageTimer := .stopped, state := .none, continuous := 0, daily := 0
        remaining := 0, estimation := .stopped, drivingSeconds := 0, estimationTime := 0 } ∧
    (t.cycle.state = .load ∧ t.cycle.ignition = false ∧ t.cycle.window = .stopped ∧ t.cycle.commitInFlight = false ∧
      t.cycle.restartPending = false ∧ t.cycle.causeSwitch = false ∧ t.cycle.causeWindow = false) ∧
    (∀ p, t.port p =
      { link := .down, linkTimer := .stopped, timeout := 0
        period := if (s.port p).period = .idle then .idle else .discarded
        receiver := .waiting, exec := none, reply := none, cursors := .replicate 13 0, watch := .replicate 113 false
        changes := [], counters := { good := 0, badCheck := 0, badLength := 0, busy := 0, refused := 0 } }) ∧
    t.ports.bitRate = strap ∧
    (t.store.image = s.store.image ∧ t.store.inForce = none ∧ t.store.state = .loading ∧ t.store.programming = false) ∧
    (∀ c, t.cond c = false) ∧ t.pending = s.pending

/-- A RESTART accepted with no commit in flight is carried out at once: it keeps the configuration in force, the descriptors, the
distance counter but for its edge parity, the flashers, the bit rate and timeouts, CONFIG_DEFAULTS and ODO_MISMATCH, and leaves every other
piece of state at its value after reset; with a commit in flight it is held as restart pending. A chip-select period that is open at the restart is
discarded, the whole of it by the model's reading (log 20). Choices of the model are that the T-link receiver waits for an opening code at once
(log 48), and that the channels hold no settings in use and the position of an UNHOMED gauge is held as 0 (log 8). -/
def Obligations.RestartKeeps : Prop :=
  (∀ s, s.cycle.commitInFlight = true →
    requestRestart s = s.setCycle { s.cycle with restartPending := true }) ∧
  (∀ s, s.cycle.commitInFlight = false →
    (∀ i : Fin 64,
      (requestRestart s).signals[i] =
        { desc := s.signals[i].desc
          primary := { value := 0, state := .empty, age := 0, clamped := false, cause := .none }
          alternate := { value := 0, state := .empty, age := 0, clamped := false, cause := .none }
          view := { value := s.signals[i].desc.default, state := .none, source := .substitute, clamped := false }
          disagree := false, reclaim := .stopped, disagreement := .idle, reference := s.signals[i].desc.default }) ∧
    (requestRestart s).dist = { s.dist with parityOdd := false } ∧
    (requestRestart s).pulse = State.reset.pulse ∧
    (requestRestart s).conv = State.reset.conv ∧
    ((requestRestart s).switches.settings = none ∧ ∀ i : Fin 24, (requestRestart s).switches.inputs[i] =
      { raw := s.switches.inputs[i].raw, debounce := .stopped, accepted := none }) ∧
    (requestRestart s).gauges = State.reset.gauges ∧
    (requestRestart s).lamps = { State.reset.lamps with slowOn := s.lamps.slowOn, fastOn := s.lamps.fastOn } ∧
    (requestRestart s).tacho = State.reset.tacho ∧
    (requestRestart s).cycle = { State.reset.cycle with windowLength := s.cycle.windowLength } ∧
    (∀ p, (requestRestart s).port p =
      { State.reset.port p with
        timeout := (s.port p).timeout
        period := if (s.port p).period = .idle then .idle else .discarded }) ∧
    (requestRestart s).ports.bitRate = s.ports.bitRate ∧
    (requestRestart s).store = s.store ∧
    (∀ c, (requestRestart s).cond c = (decide (c = .configDefaults ∨ c = .odoMismatch) && s.cond c)) ∧
    (requestRestart s).pending = s.pending)

/-- CONFIG_LOAD_COMPLETE and RESTART_LOAD_END in LOAD with ignition level 0. At power-on the store takes a sound image with CONFIG_DEFAULTS clear, or
the built-in defaults with it raised; the table takes its descriptors; either way the blocks take the configuration in force and the part leaves LOAD
for PARKED, with the claim latches judged for the first time (R134); what the ports receive, run and reply stands as it was. The normalisation that
each block applies as it takes its settings is spelled out (R1, R26, R57, R59, R80, R88, R110, R135, R150, R180). What the built-in defaults hold
where no table states it (log 12), and that a curve point's position stands as it is (log 43), are the model's choice. -/
def Obligations.LoadEnds : Prop :=
  (∀ s, s.cycle.state = .load → s.store.state = .loading → s.cycle.ignition = false →
    (∀ c, soundImage s.store.image = some c →
      Completes .configLoadComplete s
        (LoadLeft c.normal
          (setCond .configDefaults false
            ((s.setSignals (c.normal.descriptors.map Entry.emptied)).setDist
                { s.dist with tolerance := c.normal.odoTolerance } |>.setStore
              { s.store with
                inForce := some c, state := .loaded, staging := s.store.image
                senderMarks := c.curves.map senderCurveValid
                gaugeMarks := c.gauges.map fun d => gaugeCurveValid d.points })))) ∧
    (soundImage s.store.image = none →
      Completes .configLoadComplete s
        (LoadLeft builtInDefaults.normal
          (setCond .configDefaults true
            ((s.setSignals (builtInDefaults.normal.descriptors.map Entry.emptied)).setDist
                { s.dist with tolerance := builtInDefaults.normal.odoTolerance } |>.setStore
              { s.store with
                inForce := some builtInDefaults, state := .defaults
                staging := Memory.ofBytes builtInDefaults.bytes
                senderMarks := builtInDefaults.curves.map senderCurveValid
                gaugeMarks := builtInDefaults.gauges.map fun d => gaugeCurveValid d.points }))))) ∧
  (∀ s c, s.cycle.state = .load → s.store.state ≠ .loading → s.store.inForce = some c → s.cycle.ignition = false →
    Completes .restartLoadEnd s (LoadLeft c.normal s)) ∧
  (∀ (c : Configuration) (i : Fin 64),
    let d := c.descriptors[i]
    let lo := if d.kind = .boolean then 0 else d.min
    let hi := if d.kind = .boolean then 1 else d.max
    c.normal.descriptors[i] =
      { d with
        min := lo, max := hi, default := if d.default < lo then lo else if hi < d.default then hi else d.default
        staleMs := max 10 d.staleMs, lostMs := max (max 10 d.staleMs) (max 100 d.lostMs), persistenceMs := max 100 d.persistenceMs
        notifyDelta := min 32767 d.notifyDelta, alternate := if d.alternate = d.primary then .none else d.alternate
        partner := if d.partner = some i then none else d.partner }) ∧
  (∀ (c : Configuration) (i : Fin 4),
    let d := c.pulse[i]
    let n := c.normal.pulse[i]
    let bounds (b : Nat) : Prop :=
      ∃ e : Fin 64,
        let x := c.normal.descriptors[e]
        (x.primary = .pulse i ∨ x.alternate = .pulse i) ∧
          ((0 < x.min ∧ (b : Int) = x.min) ∨ (x.min ≤ 0 ∧ 0 < x.max ∧ (b : Int) = x.max))
    n.kind = d.kind ∧ n.edges = d.edges ∧ n.gateMs = d.gateMs ∧
    n.scale =
      (match d.kind with
      | .speed => max 2400 (min 25000 d.scale)
      | .rotation => max 1 (min 255 d.scale)
      | .frequency => 1) ∧
    n.spacingUs = max 10 (min 2550 d.spacingUs) ∧ n.zeroTimeoutMs = max 100 (min 4000 d.zeroTimeoutMs) ∧
    (d.kind ≠ .speed → n.creep = min 32767 d.creep) ∧
    (d.kind = .speed → n.creep ≤ min 32767 d.creep ∧ (∀ b, bounds b → n.creep ≤ b) ∧
      (n.creep = min 32767 d.creep ∨ bounds n.creep))) ∧
  (∀ c : Configuration,
    c.normal.scanList = c.scanList.map (fun d =>
      { d with
        settleUs := min 2000 d.settleUs, lower := min 4095 d.lower, upper := min 4095 d.upper
        checked := d.checked && decide (min 4095 d.lower ≤ min 4095 d.upper)
        shift := min 10 d.shift, refuelThreshold := min 32767 d.refuelThreshold }) ∧
    c.normal.switches = { c.switches with debounceMs := c.switches.debounceMs.map fun ms => max 10 (min 2550 ms) } ∧
    c.normal.timing =
      { scanMs := max 20 (min 500 c.timing.scanMs), parkedS := max 1 (min 60 c.timing.parkedS)
        bulbMs := max 500 (min 5000 c.timing.bulbMs), timeoutD := max 100 (min 25500 c.timing.timeoutD)
        timeoutN := max 100 (min 25500 c.timing.timeoutN), timeoutT := max 100 (min 25500 c.timing.timeoutT) } ∧
    c.normal.readout =
      { staleS := max 1 (min 10 c.readout.staleS), motion := max 1 (min 25000 c.readout.motion)
        prewarn := min (max 1 (min 1440 c.readout.limit)) (max 1 (min 1440 c.readout.prewarn))
        limit := max 1 (min 1440 c.readout.limit) } ∧
    c.normal.odoTolerance = min 1000 c.odoTolerance ∧ c.normal.curves = c.curves ∧ c.normal.label = c.label ∧ c.normal.crc = c.crc) ∧
  (∀ (c : Configuration) (i : Fin 6),
    let d := c.gauges[i]
    let fullScale := max 1 (min 4320 d.fullScale)
    c.normal.gauges[i] =
      { d with
        fullScale := fullScale, park := min fullScale d.park, deadband := min 48 d.deadband, vmax := max 1 (min 64 d.vmax)
        accel := max 1 (min 16 d.accel), homingSpeed := max 1 (min 4 d.homingSpeed) }) ∧
  (∀ (c : Configuration) (i : Fin 40) (k : Fin 4),
    let d := c.telltales[i]
    let n := c.normal.telltales[i]
    let claim := d.claims[k]
    let barred : Prop := i ≠ 0 ∧ i ≠ 1 ∧
      (d.render = .screen ∨ d.colour = .amber ∨ (d.colour = .red ∧ d.lampClass = .mandatory))
    n.proveOut = d.proveOut ∧ n.parkedActive = d.parkedActive ∧
    (i = 0 → n.render = .lamp ∧ n.lampClass = .mandatory ∧ n.colour = .red) ∧
    (i = 1 → n.render = .lamp ∧ n.lampClass = .mandatory ∧ n.colour = .amber) ∧
    (i ≠ 0 → i ≠ 1 → n.render = d.render ∧ n.lampClass = d.lampClass ∧ n.colour = d.colour) ∧
    (claim = .absent → n.claims[k] = .absent) ∧
    (∀ e t threshold hysteresis p, claim = .signal e t threshold hysteresis p →
      n.claims[k] = if p = .off then .absent else .signal e t threshold (min 32767 hysteresis) p) ∧
    (∀ input p, claim = .switch input p → n.claims[k] = if p = .off then .absent else .switch input p) ∧
    (∀ q, claim = .port q →
      ((∃ j : Fin 4, j < k ∧ d.claims[j] = .port q) → n.claims[k] = .absent) ∧
      ((∀ j : Fin 4, j < k → d.claims[j] ≠ .port q) → n.claims[k] = .port q)) ∧
    (∀ x p, claim = .condition x p →
      (p = .off ∨ (x = .telltaleFailed ∧ barred) → n.claims[k] = .absent) ∧
      (p ≠ .off → ¬ (x = .telltaleFailed ∧ barred) → n.claims[k] = .condition x (if p = .follow then .on else p)))) ∧
  (∀ (c : Configuration) (i : Fin 8),
    let d := c.chimes[i]
    let n := c.normal.chimes[i]
    n.toneHz = max 500 (min 4000 d.toneHz) ∧ n.onMs = max 10 (min 2550 d.onMs) ∧ n.offMs = min 2550 d.offMs ∧
    n.repetitions = min 15 d.repetitions ∧ n.priority = min 7 d.priority ∧
    ∀ k : Fin 2,
      (∀ e t threshold hysteresis p, d.claims[k] = .signal e t threshold hysteresis p →
        n.claims[k] = .signal e t threshold (min 32767 hysteresis) p) ∧
      ((∀ e t threshold hysteresis p, d.claims[k] ≠ .signal e t threshold hysteresis p) → n.claims[k] = d.claims[k]))

/-! ## Signal table -/

/-- AGING_TIMER_EXPIRY: every slot ages and changes its state by age, every entry with a changed slot state is recomputed. The ages, the
passages by age, and the exceptions of EMPTY slots, switch inputs and analog inputs in supply LOW are spelled out. -/
def Obligations.AgingExpiry : Prop :=
  (∀ s, Completes .agingTimerExpiry s fun t => TableEvent s t ∧
    (∀ i : Fin 64, EntryKept (s.signals[i].afterSlots fun src x => x.ageBy s.signals[i].desc src s.conv.supply) t.signals[i]) ∧
    Followed false (slotsChanged (fun i => s.signals[i].afterSlots fun src x => x.ageBy s.signals[i].desc src s.conv.supply) s) s t) ∧
  (∀ (d : Descriptor) (src : Source) (supply : Supply) (x : Slot),
    let y := x.ageBy d src supply
    (x.state = .empty → y = x) ∧
    ((∃ a, src = .analog a) → supply = .low → y = x) ∧
    (x.state ≠ .empty → ¬ ((∃ a, src = .analog a) ∧ supply = .low) →
      y.value = x.value ∧ y.clamped = x.clamped ∧ y.cause = x.cause ∧
      y.age = (if x.age < 65535 then x.age + 1 else 65535) ∧
      ((∃ i, src = .switch i) → y.state = x.state) ∧
      ((∀ i, src ≠ .switch i) →
        (x.state = .fault ∨ x.state = .lost → y.state = x.state) ∧
        (x.state = .stale → y.state = if d.lostMs ≤ 10 * y.age then .lost else .stale) ∧
        (x.state = .live →
          y.state = if d.lostMs ≤ 10 * y.age then .lost else if d.staleMs ≤ 10 * y.age then .stale else .live))))

/-- RECLAIM_TIMER_EXPIRY of a running timer: the timer stops, the entry is recomputed, and a primary that is LIVE or STALE serves. The timer's start
is spelled out: a value update at a primary slot that is EMPTY, LOST or FAULT, while the alternate serves, which goes on serving (R15). -/
def Obligations.ReclaimExpiry : Prop :=
  (∀ (u : Update) (e : Entry),
    e.startsReclaim u = true ↔
      (∃ v, u = .value v) ∧ (e.primary.state = .empty ∨ e.primary.state = .lost ∨ e.primary.state = .fault) ∧
        e.view.source = .alternate) ∧
  (∀ (src : Source) (v : Int) (e : Entry), e.desc.primary = src → e.desc.alternate ≠ .none →
    e.alternate.state = .live ∨ e.alternate.state = .stale →
    (e.startsReclaim (.value v) = true →
      (e.afterUpdate src (.value v)).reclaim = .running 500 ∧ (e.afterUpdate src (.value v)).view.source = .alternate) ∧
    (e.startsReclaim (.value v) = false → (e.afterUpdate src (.value v)).reclaim = e.reclaim)) ∧
  (∀ (i : Fin 64) s ms, s.signals[i].reclaim = .running ms →
    Completes (.reclaimTimerExpiry i) s fun t =>
      TableEvent s t ∧
      EntryKept (Entry.select { s.signals[i] with reclaim := .stopped }) t.signals[i] ∧
      (s.signals[i].primary.state = .live ∨ s.signals[i].primary.state = .stale →
        t.signals[i].view =
          { value := s.signals[i].primary.value, state := s.signals[i].primary.state.effective, source := .primary
            clamped := s.signals[i].primary.clamped }) ∧
      (∀ j, j ≠ i → EntryKept s.signals[j] t.signals[j]) ∧
      Followed false (· = i) s t)

/-- DISAGREEMENT_TIMER_EXPIRY of a RUNNING timer: the DISAGREE mark is set, the timer is EXPIRED unless the pair is no longer LIVE, the entry is
recomputed, and a notice reports a mark that was clear. The judgement of a pair, to which `Followed` holds every entry whose pair an event concerns,
is spelled out: the comparison at an update with the tolerance (R17), and the exit from LIVE (R19). -/
def Obligations.DisagreementExpiry : Prop :=
  (∀ (isUpdate : Bool) (a b : Entry),
    let j := Entry.judgePair isUpdate b a
    let comparable : Prop := a.view.state = .live ∧ b.view.state = .live
    let apart : Prop := (a.desc.tolerance : Int) < |a.view.value - b.view.value|
    (¬ comparable → j = { a with disagreement := .idle }) ∧
    (comparable → isUpdate = false → j = a) ∧
    (comparable → isUpdate = true → apart →
      j = { a with disagreement := if a.disagreement = .idle then .running a.desc.persistenceMs else a.disagreement }) ∧
    (comparable → isUpdate = true → ¬ apart → j = { a with disagreement := .idle, disagree := false })) ∧
  (∀ (i : Fin 64) s ms, s.signals[i].disagreement = .running ms →
    Completes (.disagreementTimerExpiry i) s fun t =>
      TableEvent s t ∧
      t.signals[i].disagree = true ∧
      (t.signals[i].disagreement = .expired ∨ t.signals[i].disagreement = .idle) ∧
      EntryKept s.signals[i].select t.signals[i] ∧
      (∀ j, j ≠ i → EntryKept s.signals[j] t.signals[j]) ∧
      Followed false (· = i) (s.setSignals (s.signals.set i { s.signals[i] with disagree := true, disagreement := .expired })) t ∧
      (s.signals[i].disagree = false → noticed (signalItem i) t))

/-- Selection: R12 and R14 whole, the reclaim timer's stop of R16, and the substitute of R13; with what an update makes of a slot: the stored value
with its clamping and its CLAMPED mark (R4), and a fault that keeps both (R5). -/
def Obligations.SelectionServes : Prop :=
  (∀ (d : Descriptor) (x : Slot),
    (∀ v : Int,
      let stored (w : Int) (clamped : Bool) : Slot := { value := w, state := .live, age := 0, clamped := clamped, cause := .none }
      (d.kind = .boolean → x.take d (.value v) = stored (if v = 0 then 0 else 1) false) ∧
      (d.kind = .value → v < d.min → x.take d (.value v) = stored d.min true) ∧
      (d.kind = .value → d.min ≤ v → d.max < v → x.take d (.value v) = stored d.max true) ∧
      (d.kind = .value → d.min ≤ v → v ≤ d.max → x.take d (.value v) = stored v false)) ∧
    (∀ c, x.take d (.fault c) = { x with state := .fault, age := 0, cause := c })) ∧
  ∀ e : Entry,
    let primaryServes := e.primary.state = .live ∨ e.primary.state = .stale
    let alternateServes := e.desc.alternate ≠ .none ∧ (e.alternate.state = .live ∨ e.alternate.state = .stale)
    let held := e.view.source = .alternate ∧ alternateServes ∧ primaryServes ∧ e.reclaim ≠ .stopped
    e.select.primary = e.primary ∧ e.select.alternate = e.alternate ∧ e.select.disagree = e.disagree ∧
    e.select.disagreement = e.disagreement ∧
    (primaryServes ∧ alternateServes → e.select.reclaim = e.reclaim) ∧
    (¬ (primaryServes ∧ alternateServes) → e.select.reclaim = .stopped) ∧
    (primaryServes → ¬ held →
      e.select.view =
        { value := e.primary.value, state := if e.primary.state = .live then .live else .stale, source := .primary
          clamped := e.primary.clamped }) ∧
    (alternateServes → (held ∨ ¬ primaryServes) →
      e.select.view =
        { value := e.alternate.value, state := if e.alternate.state = .live then .live else .stale, source := .alternate
          clamped := e.alternate.clamped }) ∧
    (¬ primaryServes → ¬ alternateServes →
      e.select.view.source = .substitute ∧ e.select.view.clamped = false ∧
      (e.primary.state = .fault → e.select.view.state = .fault) ∧
      (e.primary.state = .empty → (e.desc.alternate = .none ∨ e.alternate.state = .empty) → e.select.view.state = .none) ∧
      (e.primary.state = .empty → e.desc.alternate ≠ .none → e.alternate.state ≠ .empty → e.select.view.state = .lost) ∧
      (e.primary.state = .lost → e.select.view.state = .lost) ∧
      e.select.view.value =
        if e.select.view.state = .none ∨ e.desc.policy = .default then e.desc.default else e.view.value)

/-! ## Pulse unit and distance counter -/

/-- PULSE_EDGE: of an edge that the channel does not capture (its gate stopped, or the other polarity), nothing but the capture counter moves; a
captured one is rejected where the interval from the spacing reference is shorter than the spacing, else accepted into the window
record; on PC0 an accepted edge reaches the distance counter, and item 111 is reported where what it shows changed. That the counter moves by the
command's microseconds is the model's choice (log 3). -/
def Obligations.PulseEdges : Prop :=
  (∀ (i : Fin 4) (edge : EdgeKind) (us : Nat) s,
    (s.pulse[i].gate = .stopped ∨ s.pulse[i].settings = none ∨
      ∃ st, s.pulse[i].settings = some st ∧
        ((st.edges = .rising ∧ edge = .falling) ∨ (st.edges = .falling ∧ edge = .rising))) →
    Completes (.pulseEdge i edge us) s
      (EventEnd (s.setPulse (s.pulse.set i { s.pulse[i] with counter := s.pulse[i].counter + BitVec.ofNat 24 us })))) ∧
  (∀ (i : Fin 4) (edge : EdgeKind) (us ms : Nat) (st : PulseSettings) s,
    s.pulse[i].gate = .running ms → s.pulse[i].settings = some st →
    (st.edges = .both ∨ (st.edges = .rising ∧ edge = .rising) ∨ (st.edges = .falling ∧ edge = .falling)) →
    let now : Stamp := s.pulse[i].counter + BitVec.ofNat 24 us
    let accepted : PulseChannel :=
      { s.pulse[i] with
        counter := now, n := s.pulse[i].n + 1, tFirst := if s.pulse[i].n = 0 then some now else s.pulse[i].tFirst
        tLast := some now, spacingRef := some now }
    (∀ ref, s.pulse[i].spacingRef = some ref → (now - ref).toNat < st.spacingUs →
      Completes (.pulseEdge i edge us) s
        (EventEnd (s.setPulse (s.pulse.set i { s.pulse[i] with counter := now, rejected := s.pulse[i].rejected + 1 })))) ∧
    ((∀ ref, s.pulse[i].spacingRef = some ref → st.spacingUs ≤ (now - ref).toNat) →
      (i ≠ 0 → Completes (.pulseEdge i edge us) s (EventEnd (s.setPulse (s.pulse.set i accepted)))) ∧
      (i = 0 → s.cond .odoMismatch = s.dist.mismatch →
        Completes (.pulseEdge i edge us) s fun t =>
          EventEnd ((s.setPulse (s.pulse.set i accepted)).setDist (s.dist.edge (st.edges == .both))) t ∧
          (distanceChanged s.dist t.dist = true → noticed distanceItem t))))

/-- R48: a step advances the ODO by its state, and one counted in UNKNOWN is not added later; with the pulses of an edge, the residue, the LDC
and the trips (R45 to R47). -/
def Obligations.PulsesAndSteps : Prop :=
  (∀ d : Distance,
    (d.edge false = d.pulse) ∧
    (d.parityOdd = false → d.edge true = { d with parityOdd := true }) ∧
    (d.parityOdd = true → d.edge true = Distance.pulse { d with parityOdd := false }) ∧
    (d.residue + 10 < d.stepSize → d.pulse = { d with residue := d.residue + 10 }) ∧
    (d.stepSize ≤ d.residue + 10 → d.pulse = Distance.step { d with residue := d.residue + 10 - d.stepSize })) ∧
  (∀ d : Distance,
    d.step.odo = (match d.odoState with
      | .unknown => d.odo
      | .seeded | .tracked => if d.odo < 999999999 then d.odo + 1 else 999999999) ∧
    d.step.odoState = d.odoState ∧ d.step.mismatch = d.mismatch ∧ d.step.residue = d.residue ∧
    d.step.parityOdd = d.parityOdd ∧ d.step.stepSize = d.stepSize ∧ d.step.tolerance = d.tolerance ∧
    (d.ldc < 999999999 → d.step.ldc = d.ldc + 1 ∧ 
      (d.tripA < 1000000 → d.step.tripA = if d.tripA = 999999 then 0 else d.tripA + 1) ∧
      (d.tripB < 1000000 → d.step.tripB = if d.tripB = 999999 then 0 else d.tripB + 1)) ∧
    (999999999 ≤ d.ldc → d.step.ldc = d.ldc ∧ d.step.tripA = d.tripA ∧ d.step.tripB = d.tripB)) ∧
  (∀ (d : Distance) (v : Nat), d.odoState = .unknown → (d.step.adopt v).odo = v ∧ (d.step.seed v).odo = v)

/-- What a gate expiry forms: R34 (case A), R35 (case B), R36 (case B′), R37 (case C) and R33 (noise), with the rounding of R38 and the flush of
R39, and what the channel carries into the next window, whose start clears the window record (R40). The constant of each result kind (Table 2-2)
and the edges per pulse (R27) are spelled out. -/
def Obligations.WindowCases : Prop :=
  ∀ (st : PulseSettings) (now : Stamp) (x : PulseChannel),
    let rate (n span : Nat) : Nat :=
      let den := span * st.scale * st.edges.perPulse
      let q := (n * st.kind.constant + den / 2) / den
      if q < st.creep then 0 else q
    (x.n < x.rejected ∧ 4 < x.rejected →
      x.expire st now = { update := .fault .noise, current := 0, tPrev := none, spacingRef := none }) ∧
    (¬ (x.n < x.rejected ∧ 4 < x.rejected) →
      (∀ prev last, 1 ≤ x.n → x.tPrev = some prev → x.tLast = some last →
        x.expire st now =
          { update := .value (rate x.n (last - prev).toNat), current := rate x.n (last - prev).toNat
            tPrev := some last, spacingRef := some last }) ∧
      (∀ first last, 2 ≤ x.n → x.tPrev = none → x.tFirst = some first → x.tLast = some last →
        x.expire st now =
          { update := .value (rate (x.n - 1) (last - first).toNat), current := rate (x.n - 1) (last - first).toNat
            tPrev := some last, spacingRef := some last }) ∧
      (∀ last, x.n = 1 → x.tPrev = none → x.tLast = some last →
        x.expire st now =
          { update := .value x.current, current := x.current, tPrev := some last, spacingRef := some last }) ∧
      (x.n = 0 → (∀ prev, x.tPrev = some prev → st.zeroTimeoutMs * 1000 ≤ (now - prev).toNat) →
        x.expire st now = { update := .value 0, current := 0, tPrev := none, spacingRef := none }) ∧
      (∀ prev, x.n = 0 → x.tPrev = some prev → (now - prev).toNat < st.zeroTimeoutMs * 1000 →
        let den := (now - prev).toNat * st.scale * st.edges.perPulse
        let r := min x.current ((st.kind.constant + den / 2) / den)
        let f := if r < st.creep then 0 else r
        x.expire st now = { update := .value f, current := f, tPrev := some prev, spacingRef := x.spacingRef })) ∧
    (∀ gateMs, x.startWindow gateMs =
      { x with n := 0, tFirst := none, tLast := none, rejected := 0, gate := .running gateMs }) ∧
    st.kind.constant = (match st.kind with | .speed => 360000000000 | .rotation => 60000000 | .frequency => 100000000) ∧
    st.edges.perPulse = (match st.edges with | .rising => 1 | .falling => 1 | .both => 2)

/-- GATE_EXPIRY with no take-over to make: the window's update reaches every slot of the channel, the carried state is kept, the next window
starts, and on PC0 event GATE0 releases the frames that wait for it. That the counter moves by the command's microseconds is the model's
choice (log 3). -/
def Obligations.GateExpiry : Prop :=
  ∀ (i : Fin 4) (us ms : Nat) (st : PulseSettings) s,
    s.pulse[i].gate = .running ms → s.pulse[i].settings = some st → s.pulse[i].takeOver = false → s.cycle.state ≠ .load →
    let now : Stamp := s.pulse[i].counter + BitVec.ofNat 24 us
    let r := s.pulse[i].expire st now
    Completes (.gateExpiry i us) s fun t =>
      Delivered (.pulse i) r.update
        (s.setPulse (s.pulse.set i
          { s.pulse[i] with
            counter := now, current := r.current, tPrev := r.tPrev, spacingRef := r.spacingRef
            n := 0, tFirst := none, tLast := none, rejected := 0, gate := .running st.gateMs })) t ∧
      (i = 0 → Released .gate0 t)

/-- GATE_EXPIRY with take-over pending: the window is computed under the old settings, a result below the creep threshold of new SPEED settings is
delivered as 0, and the channel takes the settings of the configuration in force with its carried state cleared; PC0 hands its scale to the distance
counter. That the counter moves by the command's microseconds is the model's choice (log 3). -/
def Obligations.GateTakeOver : Prop :=
  ∀ (i : Fin 4) (us ms : Nat) (st : PulseSettings) (cfg : Configuration) s,
    s.pulse[i].gate = .running ms → s.pulse[i].settings = some st → s.pulse[i].takeOver = true → s.config = some cfg →
    s.cycle.state ≠ .load → s.cond .odoMismatch = s.dist.mismatch →
    let now : Stamp := s.pulse[i].counter + BitVec.ofNat 24 us
    let r := s.pulse[i].expire st now
    let new := cfg.pulse[i]
    let update : Update := match r.update with
      | .value v => if new.kind = .speed ∧ v < new.creep then .value 0 else .value v
      | .fault c => .fault c
    Completes (.gateExpiry i us) s fun t =>
      Delivered (.pulse i) update
        ((s.setPulse (s.pulse.set i
          { s.pulse[i] with
            counter := now, current := 0, tPrev := none, spacingRef := none, settings := some new, takeOver := false
            n := 0, tFirst := none, tLast := none, rejected := 0, gate := .running new.gateMs })).setDist
          (if i = 0 then
            { s.dist with
              stepSize := new.scale, residue := if new.scale = s.dist.stepSize then s.dist.residue else 0, parityOdd := false }
          else s.dist)) t ∧
      (i = 0 → Released .gate0 t)

/-! ## Sender converter and supply -/

/-- SCAN_TIMER_EXPIRY and PARKED_TIMER_EXPIRY of a running timer: an overrun where a pass is in flight, else a pass begun with its test
conversions over the run list or the parked list, after a pending take-over; the parked timer takes the parked period in force. That the filter
state is 0 until the next seed is the model's choice (log 40). -/
def Obligations.PassBegins : Prop :=
  (∀ (s : State) (parked : Bool) (ms : Nat),
    (if parked then s.conv.parkedTimer else s.conv.scanTimer) = .running ms →
    let c : Instr := if parked then .parkedTimerExpiry else .scanTimerExpiry
    let v : Converter :=
      if parked then
        { s.conv with parkedTimer := s.config.elim s.conv.parkedTimer fun cfg => .running (1000 * cfg.timing.parkedS) }
      else s.conv
    (∀ p, s.conv.pass = some p →
      Completes c s (EventEnd (s.setConv { v with overruns := (s.conv.overruns + 1) % 65536 }))) ∧
    (∀ st, s.conv.pass = none → s.conv.takeOver = false → s.conv.settings = some st →
      Completes c s
        (EventEnd (s.setConv { v with pass := some { parked := parked, todo := st.positions parked, stage := .testing } }))) ∧
    (∀ cfg, s.conv.pass = none → s.conv.takeOver = true → s.config = some cfg →
      let st : ConverterSettings :=
        { scanMs := cfg.timing.scanMs, parkedS := cfg.timing.parkedS, slots := cfg.scanList, curves := cfg.curves
          curveValid := s.store.senderMarks }
      Completes c s
        (EventEnd (s.setConv
          { v with
            settings := some st, slots := .replicate 16 { y := 0, seed := true, refuel := 0 }, takeOver := false
            pass := some { parked := parked, todo := st.positions parked, stage := .testing } })))) ∧
  (∀ (st : ConverterSettings) (parked : Bool),
    (st.positions parked).Pairwise (· < ·) ∧
    ∀ i, i ∈ st.positions parked ↔ ∃ d, st.slots[(i : Nat)]? = some d ∧ (parked = true → d.parked = true))

/-- TEST_CONVERSIONS_DONE of a pass in its tests: within the limits, ADC_TEST_FAIL is cleared and the pass goes on to its first scan slot; outside
them it is raised, the pass ends, and the scan slots of the pass deliver TEST_FAIL one after another in list order, in supply LOW AN15's alone. -/
def Obligations.TestConversions : Prop :=
  ∀ (s : State) (p : Pass) (zero full : AdcCode), s.conv.pass = some p → p.stage = .testing →
    (zero.toNat ≤ 8 → 4087 ≤ full.toNat →
      Completes (.testConversionsDone zero full) s
        (EventEnd (setCond .adcTestFail false (s.setConv { s.conv with
          pass := match p.todo with
            | [] => none
            | i :: _ => some { p with
                stage := if (s.conv.scanSlot i).any (fun d => d.settleUs != 0) then .settling else .converting false 0 0 } })))) ∧
    ((8 < zero.toNat ∨ full.toNat < 4087) → s.cycle.state ≠ .load →
      Completes (.testConversionsDone zero full) s fun t =>
        DeliveredInTurn
          (p.todo.filterMap fun k => (s.conv.scanSlot k).bind fun d =>
            if s.conv.supply = .low ∧ d.channel ≠ 15 then none else some (.analog d.channel, .fault .testFail))
          (setCond .adcTestFail true (s.setConv { s.conv with pass := none })) t ∧
        ∀ i : Fin 64, EntryKept
          (p.todo.foldl
            (fun e k => match s.conv.scanSlot k with
              | some d => if s.conv.supply = .low ∧ d.channel ≠ 15 then e else e.afterUpdate (.analog d.channel) (.fault .testFail)
              | none => e)
            s.signals[i])
          t.signals[i])

/-- SETTLE_TIME_EXPIRY, and CONVERSION_DONE of the discarded conversion and of one before the last: the pass moves on and nothing else
changes. The excitation of the present scan slot is on from its settle wait to its last conversion, and no other (R64). -/
def Obligations.ConversionsAddUp : Prop :=
  (∀ (s : State) (channel : Fin 16) (x : Excitation),
    excitationOn s = some (channel, x) ↔
      ∃ p i rest d, s.conv.pass = some p ∧ p.todo = i :: rest ∧ s.conv.scanSlot i = some d ∧
        (p.stage = .settling ∨ ∃ discarded sum taken, p.stage = .converting discarded sum taken) ∧
        channel = d.channel ∧ x = d.excitation) ∧
  ∀ (s : State) (p : Pass), s.conv.pass = some p →
    (p.stage = .settling →
      Completes .settleTimeExpiry s
        (EventEnd (s.setConv { s.conv with pass := some { p with stage := .converting false 0 0 } }))) ∧
    (∀ code sum taken, p.stage = .converting false sum taken →
      Completes (.conversionDone code) s
        (EventEnd (s.setConv { s.conv with pass := some { p with stage := .converting true 0 0 } }))) ∧
    (∀ code sum taken i rest st d, p.stage = .converting true sum taken → p.todo = i :: rest →
      s.conv.settings = some st → s.conv.scanSlot i = some d → taken + 1 < d.averaging →
      Completes (.conversionDone code) s
        (EventEnd (s.setConv { s.conv with
          pass := some { p with stage := .converting true (sum + code.toNat) (taken + 1) } })))

/-- CONVERSION_DONE of a scan slot's last conversion, for every channel but AN15: discarded in supply LOW; a window fault, with the wake cause of
a parked pass in PARKED and, where that cause is new, the notice for item 112; a CURVE fault; or a valid value, which seeds, reseeds or steps the
filter, whose output is delivered. The pass moves on to its next scan slot. That a parked pass which outlives a STARTING entry hands the cause
where it finds the controller in PARKED again is the model's choice (log 50). -/
def Obligations.SenderResult : Prop :=
  ∀ (s : State) (p : Pass) (code : AdcCode) (sum taken : Nat) (i : Fin 16) (rest : List (Fin 16)) (st : ConverterSettings)
    (d : ScanSlot),
    s.conv.pass = some p → p.stage = .converting true sum taken → p.todo = i :: rest → s.conv.settings = some st →
    s.conv.scanSlot i = some d → d.averaging ≤ taken + 1 → d.channel ≠ 15 → s.cycle.state ≠ .load →
    let avg := (sum + code.toNat + d.averaging / 2) / d.averaging
    let next : Option Pass := s.conv.openSlot p.parked rest
    let w := s.conv.slots[i]
    let faulted (causeWindow : Bool) : State :=
      (s.setConv { s.conv with pass := next, slots := s.conv.slots.set i { w with refuel := 0 } }).setCycle
        { s.cycle with causeWindow := s.cycle.causeWindow || causeWindow }
    (s.conv.supply = .low →
      Completes (.conversionDone code) s (EventEnd (s.setConv { s.conv with pass := next }))) ∧
    (s.conv.supply ≠ .low → d.checked = true → avg < d.lower ∨ d.upper < avg →
      Completes (.conversionDone code) s fun t =>
        Delivered (.analog d.channel) (.fault (if avg < d.lower then .shortLow else .openHigh))
          (faulted (p.parked && t.cycle.state == .parked)) t ∧
        t.cycle.causeWindow = (s.cycle.causeWindow || (p.parked && t.cycle.state == .parked)) ∧
        (t.cycle.causeWindow ≠ s.cycle.causeWindow → noticed cycleItem t)) ∧
    (s.conv.supply ≠ .low → (d.checked = true → d.lower ≤ avg ∧ avg ≤ d.upper) → st.curveValid[d.curve] = false →
      Completes (.conversionDone code) s (Delivered (.analog d.channel) (.fault .curve) (faulted false))) ∧
    (s.conv.supply ≠ .low → (d.checked = true → d.lower ≤ avg ∧ avg ≤ d.upper) → st.curveValid[d.curve] = true →
      let x := interpolate st.curves[d.curve] avg
      let vspd := s.signals[(0 : Fin 64)].view
      let count :=
        if d.refuelThreshold ≠ 0 ∧ vspd.state = .live ∧ vspd.value = 0 ∧ d.refuelThreshold < (x - (w.y + 32768) / 65536).natAbs
        then w.refuel + 1 else 0
      let z : ScanState :=
        if w.seed = true then { y := x * 65536, seed := false, refuel := 0 }
        else if 10 ≤ count then { w with y := x * 65536, refuel := 0 }
        else { w with y := w.y + (x * 65536 - w.y) / (2 ^ d.shift : Nat), refuel := count }
      Completes (.conversionDone code) s
        (Delivered (.analog d.channel) (.value ((z.y + 32768) / 65536))
          (s.setConv { s.conv with pass := next, slots := s.conv.slots.set i z })))

/-- CONVERSION_DONE of AN15's last conversion, in every supply state. A valid value is delivered and the supply judged from it, with the conditions of
the new state, every gauge held on entering LOW and resumed on leaving it, and a notice for item 112 at a change. A window fault, with the wake cause
of a parked pass, and a CURVE fault are delivered and judge nothing: the supply state and the low count stay (R72). What holding and resuming make of
a gauge is spelled out; a gauge that is not HELD stays as it is when the supply leaves LOW. That the value is delivered before the supply is judged
(log 41), and that a parked pass which outlives a STARTING entry hands the cause where it finds the controller in PARKED again (log 50), are the
model's choice; that a gauge which resumes at rest on its target is PARKED, or ends its leg, at once is its reading (log 25). -/
def Obligations.SupplyResult : Prop :=
  (∀ (s : State) (p : Pass) (code : AdcCode) (sum taken : Nat) (i : Fin 16) (rest : List (Fin 16)) (st : ConverterSettings)
    (d : ScanSlot),
    s.conv.pass = some p → p.stage = .converting true sum taken → p.todo = i :: rest → s.conv.settings = some st →
    s.conv.scanSlot i = some d → d.averaging ≤ taken + 1 → d.channel = 15 → s.cycle.state ≠ .load →
    let avg := (sum + code.toNat + d.averaging / 2) / d.averaging
    let next : Option Pass := s.conv.openSlot p.parked rest
    let faulted (causeWindow : Bool) : State :=
      (s.setConv { s.conv with pass := next, slots := s.conv.slots.set i { s.conv.slots[i] with refuel := 0 } }).setCycle
        { s.cycle with causeWindow := s.cycle.causeWindow || causeWindow }
    ((d.checked = true → d.lower ≤ avg ∧ avg ≤ d.upper) → st.curveValid[d.curve] = true →
      let z := s.conv.slots[i].takeValue s.signals[(0 : Fin 64)].view d (interpolate st.curves[d.curve] avg)
      let V := filterOutput z.y
      let r := judgeSupply V s.conv.supply s.conv.lowCount
      Completes (.conversionDone code) s fun t => ∃ u,
        Delivered (.analog 15) (.value V) (s.setConv { s.conv with pass := next, slots := s.conv.slots.set i z }) u ∧
        GaugesBecome
          (fun k =>
            if s.conv.supply ≠ .low ∧ r.1 = .low then u.gauges[k].hold u.cycle.state
            else if s.conv.supply = .low ∧ r.1 ≠ .low then u.gauges[k].resume u.cycle.state (gaugeView u u.gauges[k])
            else u.gauges[k])
          (setCond .supplyHigh (r.1 == .high) (setCond .supplyLow (r.1 == .low)
            (u.setConv { u.conv with supply := r.1, lowCount := r.2 }))) t ∧
        (s.conv.supply ≠ r.1 → noticed cycleItem t)) ∧
    (d.checked = true → avg < d.lower ∨ d.upper < avg →
      Completes (.conversionDone code) s fun t =>
        Delivered (.analog 15) (.fault (if avg < d.lower then .shortLow else .openHigh))
          (faulted (p.parked && t.cycle.state == .parked)) t ∧
        t.cycle.causeWindow = (s.cycle.causeWindow || (p.parked && t.cycle.state == .parked)) ∧
        (t.cycle.causeWindow ≠ s.cycle.causeWindow → noticed cycleItem t)) ∧
    ((d.checked = true → d.lower ≤ avg ∧ avg ≤ d.upper) → st.curveValid[d.curve] = false →
      Completes (.conversionDone code) s (Delivered (.analog 15) (.fault .curve) (faulted false)))) ∧
  (∀ (c : CycleState) (g : Gauge),
    (g.driven c = true → g.state ≠ .held → g.hold c = { g with state := .held, remembered := some g.state, velocity := 0 }) ∧
    (g.driven c = false ∨ g.state = .held → g.hold c = g) ∧
    (g.state ≠ .held → ∀ v, g.resume c v = g) ∧
    (g.driven c = true ↔ g.state ≠ .unhomed ∧ (g.state = .parked → c ≠ .parked))) ∧
  (∀ (c : CycleState) (v : View) (g : Gauge) (gs : GaugeSettings), g.settings = some gs → g.state = .held →
    (g.remembered = some .homing →
      g.resume c v =
        { g with
          state := .homing, remembered := none, position := gs.desc.fullScale + 240, homingCount := gs.desc.fullScale + 240
          fraction := 0, velocity := 0, target := 0, leg := .none }) ∧
    (g.remembered = some .sweep → g.position ≠ g.target →
      g.resume c v = { g with state := .sweep, remembered := none, velocity := 0 }) ∧
    (∀ m, g.remembered = some m → m = .tracking ∨ m = .parking ∨ m = .parked →
      let back : Gauge :=
        { g with
          state := if m = .parking ∧ g.position = g.target then .parked else m
          remembered := none, velocity := 0 }
      g.resume c v = if c = .starting ∨ c = .run then back.effectiveUpdate c v else back) ∧
    (g.remembered = some .sweep → g.position = g.target →
      let back : Gauge := { g with state := .sweep, remembered := none, velocity := 0 }
      (g.leg = .out → g.resume c v = { back with leg := .back, target := 0 }) ∧
      (g.leg ≠ .out → g.resume c v = back.takeDecision gs v)))

/-- The supply judgement's table (R72). -/
def Obligations.SupplyJudgement : Prop :=
  (∀ V n, V < 1600 → judgeSupply V .normal n = if n + 1 < 2 then (.normal, n + 1) else (.low, 2)) ∧
  (∀ V n, 1600 ≤ V → V ≤ 3200 → judgeSupply V .normal n = (.normal, 0)) ∧
  (∀ V n, 3200 < V → judgeSupply V .normal n = (.high, 0)) ∧
  (∀ V n, V < 1800 → judgeSupply V .low n = (.low, n)) ∧
  (∀ V n, 1800 ≤ V → V ≤ 3200 → judgeSupply V .low n = (.normal, 0)) ∧
  (∀ V n, 3200 < V → judgeSupply V .low n = (.high, 0)) ∧
  (∀ V n, V < 1600 → judgeSupply V .high n = (.normal, 1)) ∧
  (∀ V n, 1600 ≤ V → V ≤ 3100 → judgeSupply V .high n = (.normal, 0)) ∧
  (∀ V n, 3100 < V → judgeSupply V .high n = (.high, n))

/-- R67 and R89: a valid curve at and below its first point, at and above its last, and between two points, with the quotient rounded to the
nearest integer, a half away from zero; a gauge's curve position is the result clamped into 0 to full scale. -/
def Obligations.CurveValues : Prop :=
  (∀ (ps : List CurvePoint) (v : Int), strictlyRising ps = true →
    (∀ p, ps.head? = some p → v ≤ p.x → interpolate ps v = p.y) ∧
    (∀ p, ps.getLast? = some p → p.x ≤ v → interpolate ps v = p.y) ∧
    (∀ i p q, ps[i]? = some p → ps[i + 1]? = some q → p.x ≤ v → v < q.x →
      interpolate ps v = p.y + roundAway ((v - p.x) * (q.y - p.y)) (q.x - p.x).toNat)) ∧
  (∀ (num : Int) (den : Nat), 0 < den →
    2 * (num - roundAway num den * den).natAbs ≤ den ∧
    (2 * (num - roundAway num den * den).natAbs = den → num.natAbs < (roundAway num den * den).natAbs)) ∧
  (∀ (gs : GaugeSettings) (v : Int),
    gs.curvePosition v =
      if interpolate gs.desc.points v < 0 then 0
      else if (gs.desc.fullScale : Int) < interpolate gs.desc.points v then (gs.desc.fullScale : Int)
      else interpolate gs.desc.points v)

/-! ## Switch bank and ignition -/

/-- RAW_LEVEL_CHANGE: the debounce timer starts or stops; a pin that has not changed, or that the bank does not sample, starts none. -/
def Obligations.RawLevelChange : Prop :=
  ∀ (i : Fin 24) (l : Level) s,
    (s.switches.inputs[i].raw = l → Completes (.rawLevelChange i l) s (EventEnd s)) ∧
    (s.switches.inputs[i].raw ≠ l → s.switches.settings = none →
      Completes (.rawLevelChange i l) s
        (EventEnd (s.setSwitches { s.switches with
          inputs := s.switches.inputs.set i { s.switches.inputs[i] with raw := l } }))) ∧
    (∀ st, s.switches.inputs[i].raw ≠ l → s.switches.settings = some st →
      Completes (.rawLevelChange i l) s
        (EventEnd (s.setSwitches { s.switches with
          inputs := s.switches.inputs.set i
            { raw := l, accepted := s.switches.inputs[i].accepted
              debounce := if s.switches.inputs[i].accepted = some l then .stopped else .running st.debounceMs[i] } })))

/-- DEBOUNCE_TIMER_EXPIRY of a running timer that hands no ignition event: the level accepted already changes nothing else; an acceptance delivers the
logical level to every slot of the input, which the telltale unit and the arbiter take before the level is presented to them (R82, R83), and hands the
wake cause SWITCH where a wake-capable input's level has changed and the cycle controller is in PARKED at that moment; a cause that is new raises the
notice for item 112 (R162), and of the telltales those are reported that change at one of the two stages (R127). WAKE is asserted while the wake cause
is not empty (R159). That the claims are carried through between the two stages is the model's reading (log 34). -/
def Obligations.Acceptance : Prop :=
  (∀ s, wakeOutput s = true ↔ s.cycle.causeSwitch = true ∨ s.cycle.causeWindow = true) ∧
  ∀ (i : Fin 24) (ms : Nat) (st : SwitchSettings) s,
    s.switches.settings = some st → s.switches.inputs[i].debounce = .running ms →
    let x := s.switches.inputs[i]
    let level := (x.raw == .high) == st.polarity i
    let before : Option Bool := x.accepted.map fun l => (l == .high) == st.polarity i
    let bank : SwitchBank :=
      { s.switches with inputs := s.switches.inputs.set i { x with accepted := some x.raw, debounce := .stopped } }
    (x.accepted = some x.raw → Completes (.debounceTimerExpiry i) s (EventEnd (s.setSwitches bank))) ∧
    (x.accepted ≠ some x.raw → i ≠ 23 ∨ before.getD false = level → s.cycle.state ≠ .load →
      Completes (.debounceTimerExpiry i) s fun t =>
        let woken := st.wake[i] && before == some (!level) && t.cycle.state == .parked
        let value : Update := .value (if level then 1 else 0)
        (∃ m, Delivered (.switch i) value s m ∧ EntriesReported s m ∧ TelltalesReported s m ∧ LampsSettled m ∧ ChimesSettled m ∧
          EventEnd ((m.setSwitches bank).setCycle { m.cycle with causeSwitch := s.cycle.causeSwitch || woken }) t ∧
          (LampsNormal s → TelltalesReported m t)) ∧
        Delivered (.switch i) value
          ((s.setSwitches bank).setCycle { s.cycle with causeSwitch := s.cycle.causeSwitch || woken }) t ∧
        t.cycle.causeSwitch = (s.cycle.causeSwitch || woken) ∧
        (t.cycle.causeSwitch ≠ s.cycle.causeSwitch → noticed cycleItem t))

/-- DEBOUNCE_TIMER_EXPIRY of SW23 with a change of its logical level: the level is delivered and the telltale unit and the arbiter take the update and
then the level (R82), and then IGN_ON enters STARTING from PARKED and STOPPING, and IGN_OFF enters STOPPING from STARTING and RUN; in every other
state of Table 9-1, and in PARKED with a commit in flight, the ignition level is set alone, with the wake cause SWITCH where SW23 is wake-capable and
the cycle controller in PARKED (R85, R151). What a gauge does at a STARTING entry (R100) and at an IGN_OFF (R101) is spelled out, and where a PARKED
gauge passes through PARKING, which raises its notice (R90). That the claims are carried through behind the update and behind the level (log 34), that
a gauge at rest on the park position, or at full scale as it enters its sweep, ends that at once (log 25), what a HELD gauge remembers at a STARTING
entry (log 26), and that its leg is none behind an IGN_OFF (log 45), are the model's readings. -/
def Obligations.IgnitionEvents : Prop :=
  (∀ (v : View) (g : Gauge) (gs : GaugeSettings), g.settings = some gs →
    let start := g.startingEntry v
    let shows := gs.curveValid = true ∧ (v.state = .live ∨ v.state = .stale ∨ gs.desc.holdOnLoss = true)
    (∀ supply : Supply, g.start supply v = if supply = .low then start.hold .starting else start) ∧
    (g.reparks v = true ↔ g.state = .parked ∧ gs.desc.sweepEnable = false ∧ ¬ shows) ∧
    (g.state = .unhomed →
      start =
        { g with
          state := .homing, position := gs.desc.fullScale + 240, homingCount := gs.desc.fullScale + 240, fraction := 0
          velocity := 0, target := 0, leg := .none }) ∧
    (g.state = .homing ∨ g.state = .sweep ∨ g.state = .tracking → start = g) ∧
    (g.state = .parked ∨ g.state = .parking →
      (gs.desc.sweepEnable = true → g.velocity ≠ 0 ∨ g.position ≠ gs.desc.fullScale →
        start = { g with state := .sweep, leg := .out, target := gs.desc.fullScale }) ∧
      (gs.desc.sweepEnable = true → g.velocity = 0 → g.position = gs.desc.fullScale →
        start = { g with state := .sweep, leg := .back, target := 0 }) ∧
      (gs.desc.sweepEnable = false → start = g.takeDecision gs v)) ∧
    (g.state = .held →
      (g.remembered = some .parked ∨ g.remembered = some .parking →
        (gs.desc.sweepEnable = true →
          start = { g with remembered := some .sweep, leg := .out, target := gs.desc.fullScale }) ∧
        (gs.desc.sweepEnable = false → shows →
          start = { g with remembered := some .tracking, leg := .none, target := gs.curvePosition v.value }) ∧
        (gs.desc.sweepEnable = false → ¬ shows →
          start = { g with remembered := some .parking, leg := .none, target := gs.desc.park })) ∧
      (g.remembered ≠ some .parked → g.remembered ≠ some .parking → start = g)) ∧
    (g.state = .sweep ∨ g.state = .tracking ∨ g.state = .parking →
      g.ignitionOff =
        { g with
          state := if g.velocity = 0 ∧ g.position = gs.desc.park then .parked else .parking
          target := gs.desc.park, leg := .none }) ∧
    (g.state = .held → g.remembered ≠ some .homing →
      g.ignitionOff = { g with remembered := some .parking, target := gs.desc.park, leg := .none }) ∧
    (g.state = .homing ∨ g.state = .unhomed ∨ g.state = .parked ∨ (g.state = .held ∧ g.remembered = some .homing) →
      g.ignitionOff = g)) ∧
  ∀ (ms : Nat) (st : SwitchSettings) s,
    s.switches.settings = some st → s.switches.inputs[(23 : Fin 24)].debounce = .running ms →
    let x := s.switches.inputs[(23 : Fin 24)]
    let level := (x.raw == .high) == st.polarity 23
    let before : Option Bool := x.accepted.map fun l => (l == .high) == st.polarity 23
    let sampled : State :=
      s.setSwitches { s.switches with
        inputs := s.switches.inputs.set (23 : Fin 24) { x with accepted := some x.raw, debounce := .stopped } }
    let presented (v : Int) (u : State) : Prop :=
      (∃ m, Delivered (.switch 23) (.value v) s m ∧ EntriesReported s m ∧ TelltalesReported s m ∧ LampsSettled m ∧ ChimesSettled m ∧
        EventEnd (m.setSwitches sampled.switches) u ∧ TelltalesReported m u) ∧
      Delivered (.switch 23) (.value v) sampled u ∧ LampsSettled u ∧ ChimesSettled u
    before.getD false ≠ level → x.accepted ≠ some x.raw →
    (level = true → s.cycle.commitInFlight = false → s.cycle.state = .parked ∨ s.cycle.state = .stopping →
      Completes (.debounceTimerExpiry 23) s fun t => ∃ u, presented 1 u ∧ StartingEntered (u.setCycle { u.cycle with ignition := true }) t) ∧
    (level = true → s.cycle.commitInFlight = true → s.cycle.state = .parked → st.wake[(23 : Fin 24)] = false →
      Completes (.debounceTimerExpiry 23) s
        (Delivered (.switch 23) (.value 1) (sampled.setCycle { s.cycle with ignition := true }))) ∧
    (level = false → s.cycle.state = .starting ∨ s.cycle.state = .run →
      Completes (.debounceTimerExpiry 23) s fun t => ∃ u, presented 0 u ∧
        StoppingEntered st.wake[(23 : Fin 24)] (u.setCycle { u.cycle with ignition := false }) t) ∧
    ((level = true ∧ (s.cycle.state = .starting ∨ s.cycle.state = .run ∨ (s.cycle.state = .parked ∧ s.cycle.commitInFlight = true))) ∨
        (level = false ∧ (s.cycle.state = .parked ∨ s.cycle.state = .stopping)) →
      Completes (.debounceTimerExpiry 23) s fun t => ∃ u,
        let woken := st.wake[(23 : Fin 24)] && before == some (!level) && u.cycle.state == .parked
        presented (if level then 1 else 0) u ∧
        EventEnd (u.setCycle { u.cycle with ignition := level, causeSwitch := s.cycle.causeSwitch || woken }) t ∧
        (t.cycle.ignition ≠ s.cycle.ignition ∨ t.cycle.causeSwitch ≠ s.cycle.causeSwitch ∨ t.cycle.state ≠ s.cycle.state →
          noticed cycleItem t))

/-! ## Gauges -/

/-- MOTION_TIMER_EXPIRY of a gauge whose motion timer runs: one motion step and what coming to rest does. The step is spelled out: the new velocity
by the signs of V and D and the stopping distance, the advance in sixteenths, the bounds of the travel, and the arrival. The tracking decision at a
sweep's end is spelled out in HomingStep. What the position drives is spelled out too: the duties of the two coils by the phase (R106), the end
that each drives, and the coils that are off (R107). -/
def Obligations.MotionStep : Prop :=
  (∀ phase : Nat,
    let Q : List Int := [0, 131, 259, 383, 500, 609, 707, 793, 866, 924, 966, 991, 1000]
    (phase < 12 → coilDuty phase = (Q.getD (12 - phase) 0, Q.getD phase 0)) ∧
    (12 ≤ phase → phase < 24 → coilDuty phase = (-Q.getD (phase - 12) 0, Q.getD (24 - phase) 0)) ∧
    (24 ≤ phase → phase < 36 → coilDuty phase = (-Q.getD (36 - phase) 0, -Q.getD (phase - 24) 0)) ∧
    (36 ≤ phase → phase < 48 → coilDuty phase = (Q.getD (phase - 36) 0, -Q.getD (48 - phase) 0))) ∧
  (∀ (duty : Int) (n : Nat),
    (duty = n → coilEnds duty = { first := n, second := 0 }) ∧ (duty = -n → coilEnds duty = { first := 0, second := n })) ∧
  (∀ (c : CycleState) (g : Gauge),
    (g.state = .unhomed ∨ (g.state = .parked ∧ c = .parked) →
      g.coils c = none ∧ g.ends c = ({ first := 0, second := 0 }, { first := 0, second := 0 })) ∧
    (g.state ≠ .unhomed → ¬ (g.state = .parked ∧ c = .parked) → ∀ phase : Nat, (phase : Int) = g.position % 48 →
      g.coils c = some (coilDuty phase) ∧ g.ends c = (coilEnds (coilDuty phase).1, coilEnds (coilDuty phase).2))) ∧
  (∀ (k : Fin 6) (gs : GaugeSettings) s,
    s.gauges[k].settings = some gs → s.gauges[k].state ∈ [.sweep, .tracking, .parking, .parked] →
    (s.gauges[k].velocity ≠ 0 ∨ s.gauges[k].position ≠ s.gauges[k].target) →
    Completes (.motionTimerExpiry k) s
      (GaugeEvent k ((s.gauges[k].motionStep gs).arrive gs s.signals[gs.desc.entry].view) s)) ∧
  (∀ (vmax accel : Nat) (v d : Int),
    let stopping := v * v / (32 * accel)
    ((v = 0 ∨ (v.sign = d.sign ∧ stopping < d.natAbs)) →
      (v < d.sign * vmax → nextVelocity vmax accel v d = min (v + accel) (d.sign * vmax)) ∧
      (d.sign * vmax ≤ v → nextVelocity vmax accel v d = max (v - accel) (d.sign * vmax))) ∧
    (v ≠ 0 → (v.sign ≠ d.sign ∨ (d.natAbs : Int) ≤ stopping) →
      (nextVelocity vmax accel v d).natAbs = v.natAbs - accel ∧
      (accel < v.natAbs → (nextVelocity vmax accel v d).sign = v.sign))) ∧
  (∀ (gs : GaugeSettings) (g : Gauge),
    let v := nextVelocity gs.desc.vmax gs.desc.accel g.velocity (g.target - g.position)
    let sixteenths := 16 * g.position + g.fraction + v
    let P := sixteenths / 16
    let moved : Gauge :=
      if P < 0 then { g with position := 0, fraction := 0, velocity := 0 }
      else if (gs.desc.fullScale : Int) < P then { g with position := gs.desc.fullScale, fraction := 0, velocity := 0 }
      else { g with position := P, fraction := (sixteenths % 16).toNat, velocity := v }
    g.motionStep gs =
      if (g.target - moved.position).natAbs ≤ 1 ∧ moved.velocity.natAbs ≤ gs.desc.accel then
        { moved with position := g.target, fraction := 0, velocity := 0 }
      else moved) ∧
  (∀ (gs : GaugeSettings) (v : View) (g : Gauge),
    (g.velocity ≠ 0 ∨ g.position ≠ g.target → g.arrive gs v = g) ∧
    (g.velocity = 0 → g.position = g.target →
      (g.state = .parking → g.arrive gs v = { g with state := .parked }) ∧
      (g.state = .tracking ∨ g.state = .parked → g.arrive gs v = g) ∧
      (g.state = .sweep → g.leg = .out → g.arrive gs v = { g with leg := .back, target := 0 }) ∧
      (g.state = .sweep → g.leg ≠ .out → g.arrive gs v = g.takeDecision gs v)))

/-- HOMING_TIMER_EXPIRY of a HOMING gauge: P and the homing count fall by the homing speed, and the run's end goes on by the cycle state and the
sweep enable, with the tracking decision spelled out. That a gauge which finds itself at rest on the park position is PARKED at once, outside the
tracking decision too, is the model's reading (log 25). -/
def Obligations.HomingStep : Prop :=
  (∀ (k : Fin 6) (gs : GaugeSettings) s, s.gauges[k].settings = some gs → s.gauges[k].state = .homing →
    let g := s.gauges[k]
    let ended : Gauge := { g with position := 0, velocity := 0, fraction := 0, homingCount := 0 }
    (gs.desc.homingSpeed < g.homingCount →
      Completes (.homingTimerExpiry k) s
        (GaugeEvent k
          { g with
            position := max 0 (g.position - gs.desc.homingSpeed), homingCount := g.homingCount - gs.desc.homingSpeed } s)) ∧
    (g.homingCount ≤ gs.desc.homingSpeed → s.cycle.state = .starting ∨ s.cycle.state = .run → gs.desc.sweepEnable = true →
      0 < gs.desc.fullScale →
      Completes (.homingTimerExpiry k) s
        (GaugeEvent k { ended with state := .sweep, leg := .out, target := gs.desc.fullScale } s)) ∧
    (g.homingCount ≤ gs.desc.homingSpeed → s.cycle.state = .starting ∨ s.cycle.state = .run → gs.desc.sweepEnable = false →
      Completes (.homingTimerExpiry k) s
        (GaugeEvent k (ended.takeDecision gs s.signals[gs.desc.entry].view) s)) ∧
    (g.homingCount ≤ gs.desc.homingSpeed → s.cycle.state = .stopping →
      Completes (.homingTimerExpiry k) s
        (GaugeEvent k
          { ended with
            state := if gs.desc.park = 0 then .parked else .parking, leg := .none, target := gs.desc.park } s))) ∧
  (∀ (gs : GaugeSettings) (v : View) (g : Gauge),
    let shows := gs.curveValid = true ∧ (v.state = .live ∨ v.state = .stale ∨ gs.desc.holdOnLoss = true)
    (shows → g.takeDecision gs v = { g with state := .tracking, target := gs.curvePosition v.value, leg := .none }) ∧
    (¬ shows →
      g.takeDecision gs v =
        { g with
          state := if g.velocity = 0 ∧ g.position = gs.desc.park then .parked else .parking
          target := gs.desc.park, leg := .none }))

/-- An effective update of a TRACKING gauge that shows its value moves the target unless the gauge is at rest and the new target lies within the
deadband of P, and a target that is left raises no notice (R92); with what an update does in every other state (R93, R94). That a gauge which loses
its source under GO_PARK is PARKED at once where it is at rest on the park position is the model's reading (log 25). -/
def Obligations.EffectiveUpdates : Prop :=
  ∀ (c : CycleState) (v : View) (g : Gauge) (gs : GaugeSettings), g.settings = some gs →
    let shows := v.state = .live ∨ v.state = .stale
    let new := gs.curvePosition v.value
    let left := (g.velocity = 0 ∧ g.position = g.target) ∧ (new - g.position).natAbs ≤ gs.desc.deadband
    (g.state = .tracking → shows ∨ gs.desc.holdOnLoss = true →
      (left → g.effectiveUpdate c v = g ∧ gaugeNotice g (g.effectiveUpdate c v) = false) ∧
      (¬ left → g.effectiveUpdate c v = { g with target := new })) ∧
    (g.state = .tracking → ¬ shows → gs.desc.holdOnLoss = false →
      g.effectiveUpdate c v =
        { g with
          state := if g.velocity = 0 ∧ g.position = gs.desc.park then .parked else .parking
          target := gs.desc.park, leg := .none }) ∧
    (g.state = .parking ∨ g.state = .parked →
      (c = .starting ∨ c = .run → gs.curveValid = true → shows →
        g.effectiveUpdate c v = { g with state := .tracking, target := new }) ∧
      (¬ ((c = .starting ∨ c = .run) ∧ gs.curveValid = true ∧ shows) → g.effectiveUpdate c v = g)) ∧
    (g.state = .unhomed ∨ g.state = .homing ∨ g.state = .sweep ∨ g.state = .held → g.effectiveUpdate c v = g)

/-! ## Telltales and chimes -/

/-- When a claim is active: the latches of ABOVE and BELOW with their hysteresis (R111), the state tests (R112), SWITCH and CONDITION claims (R113),
FOLLOW (R114) and PORT claims (R115); and the pattern that the active claims of a telltale resolve to (R117). -/
def Obligations.ClaimsJudged : Prop :=
  (∀ (v t : Int) (h : Nat),
    (judgeLatch .above v t h false = true ↔ t < v) ∧ (judgeLatch .above v t h true = false ↔ v ≤ t - h) ∧
    (judgeLatch .below v t h false = true ↔ v < t) ∧ (judgeLatch .below v t h true = false ↔ t + h ≤ v)) ∧
  (∀ (e e' : Fin 64) (test : Test) (t : Int) (h : Nat) (p : Pattern) (v : Int) (latch : Bool),
    (Claim.signal e' test t h p).judge e v latch = if e' = e ∧ p ≠ .follow then judgeLatch test v t h latch else latch) ∧
  (∀ (s : State) (written : Port → Bool) (latch : Bool),
    (∀ (e : Fin 64) (t : Int) (h : Nat) (p : Pattern), p ≠ .follow →
      ((Claim.signal e .above t h p).active s written latch = latch) ∧
      ((Claim.signal e .below t h p).active s written latch = latch) ∧
      ((Claim.signal e .equal t h p).active s written latch = true ↔ s.signals[e].view.value = t) ∧
      ((Claim.signal e .notLive t h p).active s written latch = true ↔ s.signals[e].view.state ≠ .live) ∧
      ((Claim.signal e .fault t h p).active s written latch = true ↔ s.signals[e].view.state = .fault) ∧
      ((Claim.signal e .disagree t h p).active s written latch = true ↔ s.signals[e].disagree = true)) ∧
    (∀ (e : Fin 64) (test : Test) (t : Int) (h : Nat),
      (Claim.signal e test t h .follow).active s written latch = true ↔ s.signals[e].view.value ≠ 0) ∧
    (∀ (i : Fin 24) (p : Pattern),
      (Claim.switch i p).active s written latch = true ↔
        ∃ st l, s.switches.settings = some st ∧ s.switches.inputs[i].accepted = some l ∧ ((l == .high) == st.polarity i) = true) ∧
    (∀ q : Port, (Claim.port q).active s written latch = written q) ∧
    (∀ (c : Condition) (p : Pattern), (Claim.condition c p).active s written latch = s.cond c) ∧
    Claim.absent.active s written latch = false) ∧
  (∀ (s : State) (d : TelltaleDesc) (b : BuiltInClaims) (i : Fin 40) (x : Telltale),
    let carried (p : Pattern) : Prop :=
      ∃ k : Fin 4, d.claims[k].active s (fun q => x.patterns.of q != .off) x.latches[k] = true ∧ d.claims[k].pattern x.patterns = p
    let builtIn : Prop :=
      (i = 0 ∧ (b.stop = true ∨ b.fallback0 = true ∨ b.failed = true)) ∨ (i = 1 ∧ (b.check = true ∨ b.fallback1 = true))
    (carried .fast → resolveOne s d b i x = .fast) ∧
    (¬ carried .fast → carried .slow → resolveOne s d b i x = .slow) ∧
    (¬ carried .fast → ¬ carried .slow → carried .on ∨ builtIn → resolveOne s d b i x = .on) ∧
    (¬ carried .fast → ¬ carried .slow → ¬ (carried .on ∨ builtIn) →
      (carried .follow → resolveOne s d b i x = .follow) ∧ (¬ carried .follow → resolveOne s d b i x = .off)))

/-- FLASHER_PHASE_CHANGE: the phase turns, and the lamps follow; where the telltale unit stands settled, the phase raises no notice (R127). -/
def Obligations.FlasherPhase : Prop :=
  ∀ s,
    let silent (t : State) : Prop :=
      ClaimsResolved s → LampsSettled s → FailedCondition s → ∀ p, (t.port p).changes = (s.port p).changes
    (Completes (.flasherPhaseChange .slow) s fun t =>
      EventEnd (s.setLamps { s.lamps with slowOn := !s.lamps.slowOn }) t ∧ LampsSettled t ∧ silent t) ∧
    (Completes (.flasherPhaseChange .fast) s fun t =>
      EventEnd (s.setLamps { s.lamps with fastOn := !s.lamps.fastOn }) t ∧ LampsSettled t ∧ silent t)

/-- OPEN_CHECK_TIMER_EXPIRY of a running timer: the timer stops, OK below 2 mA becomes OPEN, OPEN at 2 mA or more becomes OK, and a changed fault
is reported; where the telltales stand as their claims and the cycle give them, the telltale keeps all else. The current in whole mA is the model's
choice (log 35). -/
def Obligations.OpenLoadJudged : Prop :=
  ∀ (i : Fin 40) (mA ms : Nat) s, s.lamps.telltales[i].openCheck = .running ms →
    let x := s.lamps.telltales[i]
    let fault : DriverFault :=
      if x.fault = .ok ∧ mA < 2 then .openLoad else if x.fault = .openLoad ∧ 2 ≤ mA then .ok else x.fault
    Completes (.openCheckTimerExpiry i mA) s (fun t =>
      EventEnd (s.setLamps { s.lamps with telltales := s.lamps.telltales.set i { x with openCheck := .stopped, fault := fault } }) t ∧
      (fault ≠ x.fault → noticed (telltaleItem i) t)) ∧
    (LampsSettled s → ClaimsResolved s → FailedCondition s →
      Completes (.openCheckTimerExpiry i mA) s fun t =>
        t.lamps.telltales[i] = { x with openCheck := .stopped, fault := fault } ∧
        (fault ≠ x.fault → noticed (telltaleItem i) t))

/-- LAMP_SHORT of an output that is on: the output goes off, and the fault becomes SHORT with the 1 s retry timer, or LATCHED after three retries;
the changed fault is reported. -/
def Obligations.LampShort : Prop :=
  ∀ (i : Fin 40) s, s.lamps.telltales[i].output = true →
    let x := s.lamps.telltales[i]
    let y : Telltale :=
      if x.retries < 3 then { x with output := false, openCheck := .stopped, fault := .short, retryTimer := .running 1000 }
      else { x with output := false, openCheck := .stopped, fault := .latched }
    Completes (.lampShort i) s fun t =>
      EventEnd (s.setLamps { s.lamps with telltales := s.lamps.telltales.set i y }) t ∧
      t.lamps.telltales[i].output = false ∧ (y.fault ≠ x.fault → noticed (telltaleItem i) t)

/-- RETRY_TIMER_EXPIRY of a running timer: the fault becomes OK and the retry count rises; where the telltale is lit and its turn-on finds the short
again, the fault is SHORT, or LATCHED at the third retry; the telltale is reported. The operand is the model's choice (log 24). -/
def Obligations.LampRetry : Prop :=
  ∀ (i : Fin 40) (shorted : Bool) (ms : Nat) s, s.lamps.telltales[i].retryTimer = .running ms →
    let x := s.lamps.telltales[i]
    let again := lampLit i s && shorted
    let y : Telltale :=
      if again = false then { x with fault := .ok, retries := x.retries + 1, retryTimer := .stopped }
      else if x.retries + 1 < 3 then { x with fault := .short, retries := x.retries + 1, retryTimer := .running 1000 }
      else { x with fault := .latched, retries := x.retries + 1, retryTimer := .stopped }
    Completes (.retryTimerExpiry i shorted) s fun t =>
      EventEnd (s.setLamps { s.lamps with telltales := s.lamps.telltales.set i y }) t ∧
      noticed (telltaleItem i) t ∧ LampsSettled t

/-- CHIME_ON_TIME_EXPIRY and CHIME_OFF_TIME_EXPIRY of the playing chime, where the telltale unit stands settled: an on time ends in the off time, or
with it where the off time is 0; an off time ends a repetition; a finite chime whose count reaches its repetitions is SERVED, and any other plays
on; the arbiter has chosen again. While a chime plays in an on time, the sounder plays its tone, and it is silent otherwise. That an off time of 0
ends in the step of the on time, and that a chime keeps its count when it is SERVED, are the model's readings (logs 27, 28). -/
def Obligations.ChimeTimes : Prop :=
  (∀ (i : Fin 8) (st : LampSettings) s,
    s.lamps.settings = some st → s.lamps.chimes[i].state = .playing →
    ChimesSettled s → ClaimsResolved s → LampsNormal s → LampsSettled s → FailedCondition s →
    let x := s.lamps.chimes[i]
    let d := st.chimes[i]
    let count := if x.count < 15 then x.count + 1 else 15
    let finished := d.repetitions ≠ 0 ∧ d.repetitions ≤ count
    let goesOn (y : Chime) (t : State) : Prop := EventEnd s t ∧ ChimesSettled t ∧ t.lamps.chimes[i] = y
    let ends (t : State) : Prop :=
      EventEnd s t ∧ ChimesSettled t ∧
        t.lamps.chimes[i] = { x with state := .served, served := true, count := count, phase := .none }
    (x.phase = .onTime → d.offMs ≠ 0 → Completes .chimeOnTimeExpiry s (goesOn { x with phase := .offTime })) ∧
    (x.phase = .onTime → d.offMs = 0 → ¬ finished →
      Completes .chimeOnTimeExpiry s (goesOn { x with count := count, phase := .onTime })) ∧
    (x.phase = .onTime → d.offMs = 0 → finished → Completes .chimeOnTimeExpiry s ends) ∧
    (x.phase = .offTime → ¬ finished →
      Completes .chimeOffTimeExpiry s (goesOn { x with count := count, phase := .onTime })) ∧
    (x.phase = .offTime → finished → Completes .chimeOffTimeExpiry s ends)) ∧
  (∀ (st : LampSettings) s, s.lamps.settings = some st → ChimesSettled s → ∀ tone : Nat,
    sounderTone s = some tone ↔
      ∃ i : Fin 8, s.lamps.chimes[i].state = .playing ∧ s.lamps.chimes[i].phase = .onTime ∧ tone = st.chimes[i].toneHz)

/-! ## Tachograph readout -/

/-- A record arrival: the record is stored with age 0 and its timer afresh, its speed updates TSPD under source TLINK, its odometer is handed to the
distance counter, the readout is CURRENT with the received figures, the remaining time and the five conditions follow, item 110 is reported (item 111
where, and only where, the distance counter changed, and an entry or a telltale only where it did), and TACHO_RECORD is signalled; the record that a
TACHO write carries is validated first (R137): what it takes each field as, and which fields it has brought into range. -/
def Obligations.RecordArrival : Prop :=
  (∀ (rec : TachoRecord) (st : ReadoutSettings) s, s.tacho.settings = some st → s.cycle.state ≠ .load →
    let t := recordArrival rec s
    let fed (e : Fin 64) : Prop := e = 2 ∧ fedBy (.link .tlink) s e
    TableEvent
      (setCond .tachoStale false
        (setCond .tachoWarning (decide (rec.warnings ≠ []))
          (setCond .tachoCardDriving (decide (rec.driver1 = .drive ∧ rec.card1 = .absent))
            (setCond .tachoLimit (decide (st.limit ≤ rec.continuous))
              (setCond .tachoPrewarn (decide (st.prewarn ≤ rec.continuous))
                (setCond .odoMismatch (s.dist.adopt rec.odometer).mismatch
                  ((s.setDist (s.dist.adopt rec.odometer)).setTacho
                    { s.tacho with
                      record := some rec, age := 0, ageTimer := .running 100, state := .current
                      continuous := rec.continuous, daily := rec.daily, remaining := st.limit - rec.continuous
                      estimation := .stopped, drivingSeconds := 0, estimationTime := 0 }))))))) t ∧
    EntryKept (s.signals[(2 : Fin 64)].afterUpdate (.link .tlink) (.value rec.speed)) t.signals[(2 : Fin 64)] ∧
    (∀ e : Fin 64, e ≠ 2 → EntryKept s.signals[e] t.signals[e]) ∧
    Followed true fed s t ∧
    noticed tachoItem t ∧ Released .tachoRecord t ∧ (distanceChanged s.dist t.dist = true → noticed distanceItem t) ∧
    EntriesReported s t ∧ TelltalesReported s t ∧
    ReportedOnly (fun i => i ≠ cycleItem ∧ (i = distanceItem → DistanceDiffers s.dist t.dist)) s t) ∧
  (∀ (p : Port) (data : List Byte) s, writeElement .tacho p 0 data s = recordArrival (validateRecord data).1 s) ∧
  (∀ data : List Byte,
    let two (k : Nat) : Nat := (data.getD k 0).toNat * 256 + (data.getD (k + 1) 0).toNat
    let r := (validateRecord data).1
    r.continuous = min 1440 (two 4) ∧ r.currentBreak = min 1440 (two 6) ∧ r.daily = min 1440 (two 8) ∧
    r.weekly = min 9999 (two 10) ∧ r.speed = two 12 ∧ r.odometer = min 999999999 (two 14 * 65536 + two 16) ∧
    r.localTime = (if two 18 ≤ 1439 then some (two 18) else none) ∧
    r.warnings.length = min 4 (data.getD 20 0).toNat ∧ r.driver1 ≠ .absent) ∧
  (∀ data : List Byte,
    let one (k : Nat) : Nat := (data.getD k 0).toNat
    let two (k : Nat) : Nat := one k * 256 + one (k + 1)
    let r := (validateRecord data).1
    let warning (k : Nat) : Warning :=
      if one k = 1 then .overspeed else if one k = 2 then .cardMissing else if one k = 3 then .driveLimit
      else if one k = 4 then .powerInterrupt else if one k = 5 then .sensorFault else .other
    r.driver1 = (([.rest, .available, .work, .drive, .unknown] : List Activity)[one 0]?).getD .unknown ∧
    r.driver2 = (([.rest, .available, .work, .drive, .unknown, .absent] : List Activity)[one 1]?).getD .unknown ∧
    r.card1 = (([.absent, .present, .fault] : List Card)[one 2]?).getD .fault ∧
    r.card2 = (([.absent, .present, .fault] : List Card)[one 3]?).getD .fault ∧
    r.warnings = ((List.range (min 4 (one 20))).map fun k => warning (21 + k)) ∧
    ((validateRecord data).2 = true ↔
      4 < one 0 ∨ 5 < one 1 ∨ 2 < one 2 ∨ 2 < one 3 ∨ 1440 < two 4 ∨ 1440 < two 6 ∨ 1440 < two 8 ∨ 9999 < two 10 ∨
        999999999 < two 14 * 65536 + two 16 ∨ (1439 < two 18 ∧ two 18 ≠ 0xFFFF) ∨ 4 < one 20 ∨
        ∃ k, k < min 4 (one 20) ∧ (one (21 + k) = 0 ∨ 6 < one (21 + k))))

/-- RECORD_AGE_TIMER_EXPIRY of a running timer: the age rises to 65,535 at most; in CURRENT the age of ten times the stale time ends CURRENT, with
TACHO_STALE raised, estimation begun and item 110 reported. -/
def Obligations.RecordAge : Prop :=
  ∀ (ms : Nat) (st : ReadoutSettings) s, s.tacho.settings = some st → s.tacho.ageTimer = .running ms →
    let age := if s.tacho.age < 65535 then s.tacho.age + 1 else 65535
    (s.tacho.state ≠ .current ∨ age < 10 * st.staleS →
      Completes .recordAgeTimerExpiry s (EventEnd (s.setTacho { s.tacho with age := age }))) ∧
    (s.tacho.state = .current → 10 * st.staleS ≤ age →
      Completes .recordAgeTimerExpiry s fun t =>
        EventEnd (setCond .tachoStale true (s.setTacho
          { s.tacho with
            age := age, state := .estimated, estimation := .running 1000, drivingSeconds := 0, estimationTime := 0 })) t ∧
        noticed tachoItem t)

/-- ESTIMATION_TIMER_EXPIRY of a running timer: the estimation time rises, a second at or above the motion threshold is a driving second, sixty of
them add a minute to both figures, at 1,800 s estimation ends in LOST; the remaining time and the conditions follow, and item 110 is reported
where a minute was added or the state changed. That a count of sixty is reported also where both figures stand at 1,440 is the model's reading
(log 47). -/
def Obligations.Estimation : Prop :=
  ∀ (ms : Nat) (st : ReadoutSettings) s, s.tacho.settings = some st → s.tacho.estimation = .running ms →
    s.tacho.state = .estimated → s.tacho.drivingSeconds < 60 →
    let v := s.signals[(0 : Fin 64)].view
    let driving := (v.state = .live ∨ v.state = .stale) ∧ (st.motion : Int) ≤ v.value
    let seconds := if driving then s.tacho.drivingSeconds + 1 else s.tacho.drivingSeconds
    let continuous := if seconds = 60 then min 1440 (s.tacho.continuous + 1) else s.tacho.continuous
    let daily := if seconds = 60 then min 1440 (s.tacho.daily + 1) else s.tacho.daily
    let last := 1800 ≤ s.tacho.estimationTime + 1
    Completes .estimationTimerExpiry s fun t =>
      EventEnd
        (setCond .tachoStale true (setCond .tachoLimit (decide (st.limit ≤ continuous))
          (setCond .tachoPrewarn (decide (st.prewarn ≤ continuous)) (s.setTacho
            { s.tacho with
              estimationTime := s.tacho.estimationTime + 1, drivingSeconds := if seconds = 60 then 0 else seconds
              continuous := continuous, daily := daily, remaining := st.limit - continuous
              state := if last then .lost else .estimated
              estimation := if last then .stopped else .running ms })))) t ∧
      (seconds = 60 ∨ last → noticed tachoItem t)

/-! ## Cycle controller and configuration store -/

/-- BULB_CHECK_EXPIRY of a running window in STARTING: the window stops, and RUN begins where every gauge is TRACKING, PARKING or PARKED. -/
def Obligations.BulbCheckEnds : Prop :=
  ∀ (ms : Nat) s, s.cycle.window = .running ms → s.cycle.state = .starting →
    ((∃ i : Fin 6, s.gauges[i].state ∉ [.tracking, .parking, .parked]) →
      Completes .bulbCheckExpiry s fun t =>
        EventEnd (s.setCycle { s.cycle with window := .stopped }) t ∧ LampsSettled t ∧ noticed cycleItem t) ∧
    ((∀ i : Fin 6, s.gauges[i].state ∈ [.tracking, .parking, .parked]) →
      Completes .bulbCheckExpiry s fun t =>
        EventEnd (s.setCycle { s.cycle with window := .stopped, state := .run }) t ∧ LampsSettled t ∧ ChimesSettled t ∧
        noticed cycleItem t ∧ Released .cycle t)

/-- COMMIT_END of a programming in PARKED. With no restart pending: the image is the staging buffer and in force, the store is LOADED and
CONFIG_DEFAULTS clear, the table is emptied under the new descriptors and takes the re-delivered switch levels, every block takes its settings or sets
take-over pending, all 64 entries and item 112 are reported, with item 110 where the remaining time is another under the new limit (R147), every gauge
that has changed, as into UNHOMED (R90, R108), and every telltale that has (R127, R133), the claim latches are judged afresh and the served flags
clear (R133), an input whose polarity changed hands its ignition event and its wake cause (R86), and the part goes on in PARKED, or enters STARTING
where the ignition level is 1 (R158). With a restart pending: the new configuration is in force, and the restart is carried out. Choices of the model
are that the blocks are written in one with the commit's end (log 30), the order of the inputs (log 42), that LINKS shows a new timeout at once (log
52), and, behind the restart, that the T-link receiver waits for an opening code at once (log 48), that the channels hold no settings in use and that
the position of an UNHOMED gauge is held as 0 (log 8); that a chip-select period open at the restart is discarded whole is its reading (log 20). -/
def Obligations.CommitEnds : Prop :=
  (∀ (c : Configuration) s,
    s.store.state = .committing → s.store.programming = true → parseImage s.store.staging = some c → s.cycle.state = .parked →
    s.cycle.commitInFlight = true → s.cycle.restartPending = false →
    let new := c.normal
    Completes .commitEnd s fun t =>
      t.store =
        { s.store with
          image := s.store.staging, inForce := some c, state := .loaded, programming := false
          senderMarks := c.curves.map senderCurveValid, gaugeMarks := c.gauges.map fun d => gaugeCurveValid d.points } ∧
      t.cond .configDefaults = false ∧
      (∀ d, d ∉ [.configDefaults, .telltaleFailed, .tachoPrewarn, .tachoLimit] → t.cond d = s.cond d) ∧
      (∀ i : Fin 64, EntryKept
        ((List.finRange 24).foldl
          (fun e k => match s.switches.inputs[k].accepted with
            | some l => e.afterUpdate (.switch k) (.value (if (l == .high) == new.switches.polarity k then 1 else 0))
            | none => e)
          (Entry.emptied new.descriptors[i]))
        t.signals[i]) ∧
      (∀ i : Fin 64, noticed (signalItem i) t) ∧
      (∀ i : Fin 64, t.signals[i].disagree = false) ∧
      (∃ u m, (∀ i : Fin 64, u.signals[i] = Entry.emptied new.descriptors[i]) ∧
        DeliveredInTurn
          ((List.finRange 24).filterMap fun k => s.switches.inputs[k].accepted.map fun l =>
            (.switch k, .value (if (l == .high) == new.switches.polarity k then 1 else 0))) u m ∧
        t.signals = m.signals) ∧
      noticed cycleItem t ∧
      (t.tacho.remaining ≠ s.tacho.remaining → noticed tachoItem t) ∧
      (∀ i : Fin 6, GaugeDiffers s.gauges[i] t.gauges[i] → noticed (gaugeItem i) t) ∧
      (∀ i : Fin 40, TelltaleDiffers s.lamps.telltales[i] t.lamps.telltales[i] → noticed (telltaleItem i) t) ∧
      t.dist = { s.dist with tolerance := new.odoTolerance } ∧
      (t.switches.settings = some new.switches ∧ ∀ i : Fin 24, t.switches.inputs[i] =
        { s.switches.inputs[i] with
          debounce := if s.switches.inputs[i].debounce = .stopped then .stopped else .running new.switches.debounceMs[i] }) ∧
      (t.lamps.settings = some { telltales := new.telltales, chimes := new.chimes } ∧
        t.lamps.slowOn = s.lamps.slowOn ∧ t.lamps.fastOn = s.lamps.fastOn ∧
        (∀ (i : Fin 40) (p : Port), t.lamps.telltales[i].patterns.of p =
          if .port p ∈ new.telltales[i].claims.toList then s.lamps.telltales[i].patterns.of p else .off) ∧
        (∀ (i : Fin 8) (p : Port), t.lamps.chimes[i].portClaims.of p =
          (decide (.port p ∈ new.chimes[i].claims.toList) && s.lamps.chimes[i].portClaims.of p)) ∧
        LatchedAfresh new t ∧ ∀ i : Fin 8, t.lamps.chimes[i].served = false) ∧
      (∀ i : Fin 6, t.gauges[i].settings = some { desc := new.gauges[i], curveValid := gaugeCurveValid c.gauges[i].points }) ∧
      t.tacho =
        { s.tacho with
          settings := some new.readout, remaining := if s.tacho.state = .none then 0 else new.readout.limit - s.tacho.continuous } ∧
      (t.ports.bitRate = s.ports.bitRate ∧ ∃ l, ∀ p, t.port p = { (s.port p).takeAll l with timeout := new.timing.timeout p }) ∧
      (∀ i : Fin 4, t.pulse[i] = { s.pulse[i] with takeOver := true }) ∧
      t.cycle.windowLength = new.timing.bulbMs ∧ t.cycle.commitInFlight = false ∧ t.cycle.restartPending = false ∧
      t.cycle.ignition =
        (match s.switches.settings, s.switches.inputs[(23 : Fin 24)].accepted with
        | some old, some l =>
          if old.polarity 23 = new.switches.polarity 23 then s.cycle.ignition else (l == .high) == new.switches.polarity 23
        | some _, none | none, _ => s.cycle.ignition) ∧
      t.cycle.state = (if t.cycle.ignition then .starting else .parked) ∧
      (let repolarised (k : Fin 24) : Bool :=
          s.switches.inputs[k].accepted.isSome &&
            s.switches.settings.any fun old => decide (old.polarity k ≠ new.switches.polarity k)
        let stands (v : State) : Prop :=
          v.conv = { s.conv with takeOver := true } ∧
          (v.cycle.causeWindow = s.cycle.causeWindow ∧ (s.cycle.causeSwitch = true → v.cycle.causeSwitch = true) ∧
            v.cycle.window = s.cycle.window) ∧
          v.cycle.causeSwitch = (s.cycle.causeSwitch || (List.finRange 24).any fun k => new.switches.wake[k] && repolarised k) ∧
          (∀ i : Fin 40,
            v.lamps.telltales[i].fault = (if new.telltales[i].render = .screen then .ok else s.lamps.telltales[i].fault) ∧
            v.lamps.telltales[i].retryTimer = (if new.telltales[i].render = .screen then .stopped else s.lamps.telltales[i].retryTimer)) ∧
          ((∀ i : Fin 6, s.gauges[i].state = .unhomed ∨ s.gauges[i].state = .parked) →
            ∀ i : Fin 6,
              let gs : GaugeSettings := { desc := new.gauges[i], curveValid := gaugeCurveValid c.gauges[i].points }
              (s.gauges[i].state = .parked →
                (∀ old, s.gauges[i].settings = some old →
                  old.desc.fullScale ≠ gs.desc.fullScale ∨ old.desc.park ≠ gs.desc.park) →
                v.gauges[i] = { State.reset.gauges[i] with settings := some gs }) ∧
              (s.gauges[i].state = .unhomed ∨ (∃ old, s.gauges[i].settings = some old ∧
                  old.desc.fullScale = gs.desc.fullScale ∧ old.desc.park = gs.desc.park) →
                v.gauges[i] = { s.gauges[i] with settings := some gs }))
        (t.cycle.ignition = false → stands t) ∧
        (t.cycle.ignition = true → ∃ v, stands v ∧ StartingEntered v t)) ∧
      t.pending = s.pending) ∧
  (∀ (c : Configuration) s,
    s.store.state = .committing → s.store.programming = true → parseImage s.store.staging = some c → s.cycle.state = .parked →
    s.cycle.commitInFlight = true → s.cycle.restartPending = true →
    Completes .commitEnd s fun t =>
      t.store =
        { s.store with
          image := s.store.staging, inForce := some c, state := .loaded, programming := false
          senderMarks := c.curves.map senderCurveValid, gaugeMarks := c.gauges.map fun d => gaugeCurveValid d.points } ∧
      (∀ i : Fin 64, t.signals[i] = Entry.emptied c.normal.descriptors[i]) ∧
      t.dist = { s.dist with tolerance := c.normal.odoTolerance, parityOdd := false } ∧
      t.cycle = { State.reset.cycle with windowLength := c.normal.timing.bulbMs } ∧
      t.pulse = State.reset.pulse ∧ t.conv = State.reset.conv ∧ t.gauges = State.reset.gauges ∧ t.tacho = State.reset.tacho ∧
      t.lamps = { State.reset.lamps with slowOn := s.lamps.slowOn, fastOn := s.lamps.fastOn } ∧
      (t.switches.settings = none ∧ ∀ i : Fin 24, t.switches.inputs[i] =
        { raw := s.switches.inputs[i].raw, debounce := .stopped, accepted := none }) ∧
      (∀ d, t.cond d = (decide (d = .odoMismatch) && s.cond d)) ∧
      t.ports.bitRate = s.ports.bitRate ∧
      (∀ p, t.port p =
        { State.reset.port p with
          timeout := c.normal.timing.timeout p
          period := if (s.port p).period = .idle then .idle else .discarded }) ∧
      t.pending = s.pending)

/-! ## Link interface -/

/-- SPI_PERIOD_END of a period with at least one byte: the reply that has gone out leaves the buffer, and one that became ready within the period
stays for its own (log 20); a null frame is ignored; a frame that arrives in another's execution is BUSY; a bad frame raises its counter and leaves
its status reply; a good frame is accepted, brings the link up, with the recovery from LOST, and its requests are ready to run. The sequence byte
echoed for a wrong opening byte is free (log 16), and a period whose beginning was not commanded offers what the buffer holds (log 20). -/
def Obligations.SpiPeriodEnds : Prop :=
  ∀ (port : SpiPort) (b : Byte) (bs : List Byte) s,
    let p := port.toPort
    let x := s.port p
    let closed : PortState :=
      { x with period := .idle, reply := if x.period = .idle then none else x.reply }
    let c := closed.counters
    let n := (bs.getD 0 0).toNat
    let body := (bs.drop 2).take n
    let sums : Prop := crc16 (bs.take (n + 2)) = BitVec.ofNat 16 ((bs.getD (n + 2) 0).toNat * 256 + (bs.getD (n + 3) 0).toNat)
    let legal : Prop := 1 ≤ n ∧ n ≤ 240
    let bad (status : FrameStatus) (sequence : Byte) : State :=
      setPort p
        { closed with
          counters := if status = .badCheck then { c with badCheck := c.badCheck + 1 } else { c with badLength := c.badLength + 1 }
          reply := some (replyFrame sequence status []) } s
    (x.period = .discarded → Completes (.spiPeriodEnd port (b :: bs)) s (EventEnd (setPort p { x with period := .idle } s))) ∧
    (x.period ≠ .discarded →
      (b = 0x00 → Completes (.spiPeriodEnd port (b :: bs)) s (EventEnd (setPort p closed s))) ∧
      (b ≠ 0x00 → x.exec ≠ none →
        Completes (.spiPeriodEnd port (b :: bs)) s
          (EventEnd (setPort p { closed with counters := { c with busy := c.busy + 1 } } s))) ∧
      (b ≠ 0x00 → b ≠ 0xB4 → x.exec = none →
        Completes (.spiPeriodEnd port (b :: bs)) s fun t =>
          EventEnd (bad .badCheck 0) t ∨ EventEnd (bad .badCheck (bs.getD 1 0)) t) ∧
      (b = 0xB4 → x.exec = none → ¬ legal ∨ bs.length < n + 4 →
        Completes (.spiPeriodEnd port (b :: bs)) s (EventEnd (bad .badLength (bs.getD 1 0)))) ∧
      (b = 0xB4 → x.exec = none → legal → n + 4 ≤ bs.length → ¬ sums →
        Completes (.spiPeriodEnd port (b :: bs)) s (EventEnd (bad .badCheck (bs.getD 1 0)))) ∧
      (b = 0xB4 → x.exec = none → legal → n + 4 ≤ bs.length → sums →
        Completes (.spiPeriodEnd port (b :: bs)) s
          (EventEnd (setPort p
            { closed with
              link := .up
              linkTimer := if s.cycle.state = .load then x.linkTimer else .running x.timeout
              counters := { c with good := c.good + 1 }
              cursors := if x.link = .lost then .replicate 13 0 else x.cursors
              changes := if x.link = .lost then (List.finRange 113).filter (fun i => x.watch[i]) else x.changes
              exec := some
                { sequence := bs.getD 1 0, rest := requestsOf body, results := [], room := 239 - 2 * (requestsOf body).length
                  hold := none, commit := false } }
            (if x.link = .lost then setCond (linkLostCondition p) false s else s)))))

/-- TLINK_BYTE_RECEIVED: waiting for the opening code; ignoring until the line is quiet; and within a frame, discarded as BUSY or judged at its
length field, its stop bits and its end. TLINK_GAP_TIMEOUT: a frame ends with BAD_LENGTH, or discarded as BUSY, and the receiver waits for an opening
code again. What an opening code with a stop-bit error does is free (log 18), and so is a frame that began in an
execution and goes on after it (log 17), which the statement leaves out. Stop-bit errors in a discarded frame, and the quiet wait after a wrong CRC,
follow the model's reading (log 19); that a length field outside 1..240 which arrives with a stop-bit error ends the frame with BAD_CHECK is its
choice (log 51). -/
def Obligations.TlinkBytes : Prop :=
  (∀ (b : Byte) (stopBit : Bool) s,
    let x := s.port .tlink
    let busy : Prop := x.exec ≠ none ∨ x.reply ≠ none
    let c := x.counters
    let withReceiver (r : Receiver) : State := setPort .tlink { x with receiver := r } s
    let bad (status : FrameStatus) (sequence : Byte) (r : Receiver) : State :=
      setPort .tlink
        { x with
          receiver := r
          counters := if status = .badCheck then { c with badCheck := c.badCheck + 1 } else { c with badLength := c.badLength + 1 }
          reply := some (replyFrame sequence status []) } s
    let discarded (r : Receiver) : State := setPort .tlink { x with receiver := r, counters := { c with busy := c.busy + 1 } } s
    (x.receiver = .ignoring → Completes (.tlinkByteReceived b stopBit) s (EventEnd s)) ∧
    (x.receiver = .waiting →
      (b ≠ 0xB4 → Completes (.tlinkByteReceived b stopBit) s (EventEnd s)) ∧
      (b = 0xB4 → stopBit = true → busy → Completes (.tlinkByteReceived b stopBit) s (EventEnd (withReceiver (.inFrame [] true)))) ∧
      (b = 0xB4 → stopBit = true → ¬ busy → Completes (.tlinkByteReceived b stopBit) s (EventEnd (withReceiver (.inFrame [] false)))) ∧
      (b = 0xB4 → stopBit = false → busy →
        Completes (.tlinkByteReceived b stopBit) s fun t => EventEnd s t ∨ EventEnd (discarded .ignoring) t) ∧
      (b = 0xB4 → stopBit = false → ¬ busy →
        Completes (.tlinkByteReceived b stopBit) s fun t => EventEnd s t ∨ EventEnd (bad .badCheck 0 .ignoring) t)) ∧
    (∀ bs began, x.receiver = .inFrame bs began →
      let all := bs ++ [b]
      let n := (all.getD 0 0).toNat
      let body := (all.drop 2).take n
      let sums : Prop := crc16 (all.take (n + 2)) = BitVec.ofNat 16 ((all.getD (n + 2) 0).toNat * 256 + (all.getD (n + 3) 0).toNat)
      let legal : Prop := 1 ≤ n ∧ n ≤ 240
      (busy →
        (¬ legal → Completes (.tlinkByteReceived b stopBit) s (EventEnd (discarded .ignoring))) ∧
        (legal → all.length < n + 4 → Completes (.tlinkByteReceived b stopBit) s (EventEnd (withReceiver (.inFrame all began)))) ∧
        (legal → all.length = n + 4 → Completes (.tlinkByteReceived b stopBit) s (EventEnd (discarded .waiting)))) ∧
      (¬ busy → began = false →
        (stopBit = false → Completes (.tlinkByteReceived b stopBit) s (EventEnd (bad .badCheck (bs.getD 1 0) .ignoring))) ∧
        (stopBit = true → ¬ legal →
          Completes (.tlinkByteReceived b stopBit) s (EventEnd (bad .badLength (all.getD 1 0) .ignoring))) ∧
        (stopBit = true → legal → all.length < n + 4 →
          Completes (.tlinkByteReceived b stopBit) s (EventEnd (withReceiver (.inFrame all false)))) ∧
        (stopBit = true → legal → all.length = n + 4 → ¬ sums →
          Completes (.tlinkByteReceived b stopBit) s (EventEnd (bad .badCheck (all.getD 1 0) .waiting))) ∧
        (stopBit = true → legal → all.length = n + 4 → sums →
          Completes (.tlinkByteReceived b stopBit) s
            (EventEnd (setPort .tlink
              { x with
                receiver := .waiting
                link := .up
                linkTimer := if s.cycle.state = .load then x.linkTimer else .running x.timeout
                counters := { c with good := c.good + 1 }
                cursors := if x.link = .lost then .replicate 13 0 else x.cursors
                changes := if x.link = .lost then (List.finRange 113).filter (fun i => x.watch[i]) else x.changes
                exec := some
                  { sequence := all.getD 1 0, rest := requestsOf body, results := [], room := 239 - 2 * (requestsOf body).length
                    hold := none, commit := false } }
              (if x.link = .lost then setCond .linkLostT false s else s))))))) ∧
  (∀ s,
    let x := s.port .tlink
    let busy : Prop := x.exec ≠ none ∨ x.reply ≠ none
    let c := x.counters
    (x.receiver = .waiting → Completes .tlinkGapTimeout s (EventEnd s)) ∧
    (x.receiver = .ignoring →
      Completes .tlinkGapTimeout s (EventEnd (setPort .tlink { x with receiver := .waiting } s))) ∧
    (∀ bs began, x.receiver = .inFrame bs began →
      (busy →
        Completes .tlinkGapTimeout s
          (EventEnd (setPort .tlink { x with receiver := .waiting, counters := { c with busy := c.busy + 1 } } s))) ∧
      (¬ busy → began = false →
        Completes .tlinkGapTimeout s
          (EventEnd (setPort .tlink
            { x with
              receiver := .waiting, counters := { c with badLength := c.badLength + 1 }
              reply := some (replyFrame (bs.getD 1 0) .badLength []) } s)))))

/-- CHIP_SELECT_ACTIVE begins a period, in which the reply in the buffer, if any, goes out, then zeros (R163); ATTN is asserted while an item is
listed or a reply is ready or goes out (R178); TLINK_REPLY_SENT ends the execution of the T-link frame whose reply it is. A period already open
changes nothing (log 1), and the reply that goes out in a period is the one that was ready at its beginning (log 20). A reply frame is the opening
code, the length, the echoed sequence, the status, the results, and the CRC of all but the opening code, high byte first. -/
def Obligations.RepliesGoOut : Prop :=
  (∀ (port : SpiPort) s,
    (s.port port.toPort).period = .idle →
      Completes (.chipSelectActive port) s
        (EventEnd (setPort port.toPort
          { s.port port.toPort with
            period := (match (s.port port.toPort).reply with
              | some r => .openOffering r
              | none => .openEmpty)
            reply := none } s))) ∧
  (∀ (port : SpiPort) (n : Nat) s,
    (clockedOut s port n).length = n ∧
    ∀ k, k < n →
      (∀ r, (s.port port.toPort).period = .openOffering r → (clockedOut s port n)[k]? = some (r.getD k 0)) ∧
      ((∀ r, (s.port port.toPort).period ≠ .openOffering r) → (clockedOut s port n)[k]? = some 0)) ∧
  (∀ (port : SpiPort) s,
    attention s port = true ↔
      (s.port port.toPort).changes ≠ [] ∨ (∃ r, (s.port port.toPort).reply = some r) ∨
        ∃ r, (s.port port.toPort).period = .openOffering r) ∧
  (∀ (port : SpiPort) s,
    (s.port port.toPort).period ≠ .idle → Completes (.chipSelectActive port) s (EventEnd s)) ∧
  (∀ s, Completes .tlinkReplySent s (EventEnd (setPort .tlink { s.port .tlink with reply := none } s))) ∧
  (∀ (sequence : Byte) (status : FrameStatus) (results : List Byte), results.length < 240 →
    ∃ covered high low, replyFrame sequence status results = 0x4B :: covered ++ [high, low] ∧
      covered = BitVec.ofNat 8 (1 + results.length) :: sequence ::
        (match status with | .ok => 0x00 | .badCheck => 0x01 | .badLength => 0x02) :: results ∧
      high.toNat * 256 + low.toNat = (crc16 covered).toNat)

/-- A WAIT: refused with RANGE for an index above 3 or a count of 0 or above 200, completed at once for CHANGE with a change list that is not empty,
else held with its timer, the link timer stopped; and WAIT_TIMER_EXPIRY of a held frame ends the hold with TIMEOUT. -/
def Obligations.WaitHoldsAndExpires : Prop :=
  (∀ (p : Port) (index count : Nat) (f : FrameExec) s, (s.port p).exec = some f →
    let x := s.port p
    let ends (o : RequestOutcome) (refused : BitVec 16) : State :=
      setPort p
        { x with
          exec := some { f with results := f.results ++ resultBytes o 0 [] }
          counters := { x.counters with refused := x.counters.refused + refused } } s
    (3 < index ∨ count = 0 ∨ 200 < count → runRequest p (.wait index count) s = ends .range 1) ∧
    (∀ ev : WaitEvent, WaitEvent.ofIndex index = some ev → 1 ≤ count → count ≤ 200 →
      (ev = .change → x.changes ≠ [] → runRequest p (.wait index count) s = ends .ok 0) ∧
      (ev ≠ .change ∨ x.changes = [] →
        runRequest p (.wait index count) s =
          setPort p { x with exec := some { f with hold := some (ev, .running (10 * count)) }, linkTimer := .stopped } s))) ∧
  (WaitEvent.ofIndex 0 = some .change ∧ WaitEvent.ofIndex 1 = some .tachoRecord ∧ WaitEvent.ofIndex 2 = some .cycle ∧
    WaitEvent.ofIndex 3 = some .gate0) ∧
  (∀ (p : Port) (f : FrameExec) (ev : WaitEvent) (tm : Timer) s, (s.port p).exec = some f → f.hold = some (ev, tm) →
    Completes (.waitTimerExpiry p) s
      (EventEnd (setPort p
        { s.port p with exec := some { f with hold := none, results := f.results ++ resultBytes .timeout 0 [] } } s)))

/-- LINK_TIMER_EXPIRY of a link that is UP: the link is LOST, its condition is raised, its LIVE and STALE slots are forced LOST, its patterns go OFF
and its chime claims inactive, and for the T-link CURRENT and ESTIMATED end in LOST. -/
def Obligations.LinkLoss : Prop :=
  ∀ (p : Port) (ms : Nat) s, (s.port p).link = .up → (s.port p).linkTimer = .running ms →
    let lost : Prop := p = .tlink ∧ (s.tacho.state = .current ∨ s.tacho.state = .estimated)
    let u : State :=
      ((setCond (linkLostCondition p) true (setPort p { s.port p with link := .lost, linkTimer := .stopped } s)).setTacho
        (if lost then { s.tacho with state := .lost, estimation := .stopped } else s.tacho)).setLamps
          { s.lamps with
            telltales := s.lamps.telltales.map fun x => { x with patterns := x.patterns.put p .off }
            chimes := s.lamps.chimes.map fun x => { x with portClaims := x.portClaims.put p false } }
    Completes (.linkTimerExpiry p) s fun t =>
      TableEvent (if lost then setCond .tachoStale true u else u) t ∧
      (∀ i : Fin 64, EntryKept
        (s.signals[i].afterSlots fun src x =>
          if src = .link p ∧ (x.state = .live ∨ x.state = .stale) then { x with state := .lost } else x)
        t.signals[i]) ∧
      Followed false
        (slotsChanged
          (fun i => s.signals[i].afterSlots fun src x =>
            if src = .link p ∧ (x.state = .live ∨ x.state = .stale) then { x with state := .lost } else x) s) s t ∧
      (∀ i : Fin 40, t.lamps.telltales[i].patterns.of p = .off ∧
        ∀ q, q ≠ p → t.lamps.telltales[i].patterns.of q = s.lamps.telltales[i].patterns.of q) ∧
      (lost → noticed tachoItem t)

/-- A command of a timer that does not run, or of an event that cannot occur, changes nothing; that is the model's choice (log 1). -/
def Obligations.StoppedTimersChangeNothing : Prop :=
  ∀ s,
    (s.cycle.state ≠ .load ∨ s.store.state ≠ .loading → Completes .configLoadComplete s (EventEnd s)) ∧
    (s.cycle.state ≠ .load ∨ s.store.state = .loading → Completes .restartLoadEnd s (EventEnd s)) ∧
    (∀ i : Fin 64, s.signals[i].reclaim = .stopped → Completes (.reclaimTimerExpiry i) s (EventEnd s)) ∧
    (∀ i : Fin 64, s.signals[i].disagreement = .idle ∨ s.signals[i].disagreement = .expired →
      Completes (.disagreementTimerExpiry i) s (EventEnd s)) ∧
    (s.conv.scanTimer = .stopped → Completes .scanTimerExpiry s (EventEnd s)) ∧
    (s.conv.parkedTimer = .stopped → Completes .parkedTimerExpiry s (EventEnd s)) ∧
    (s.conv.pass = none → Completes .settleTimeExpiry s (EventEnd s) ∧ ∀ zero full code,
      Completes (.testConversionsDone zero full) s (EventEnd s) ∧ Completes (.conversionDone code) s (EventEnd s)) ∧
    (∀ i : Fin 24, s.switches.inputs[i].debounce = .stopped → Completes (.debounceTimerExpiry i) s (EventEnd s)) ∧
    (∀ k : Fin 6, s.gauges[k].velocity = 0 → s.gauges[k].position = s.gauges[k].target →
      Completes (.motionTimerExpiry k) s (EventEnd s)) ∧
    (∀ k : Fin 6, s.gauges[k].state = .held ∨ s.gauges[k].state = .homing ∨ s.gauges[k].state = .unhomed →
      Completes (.motionTimerExpiry k) s (EventEnd s)) ∧
    (∀ k : Fin 6, s.gauges[k].state ≠ .homing → Completes (.homingTimerExpiry k) s (EventEnd s)) ∧
    (∀ (i : Fin 40) mA, s.lamps.telltales[i].openCheck = .stopped → Completes (.openCheckTimerExpiry i mA) s (EventEnd s)) ∧
    (∀ i : Fin 40, s.lamps.telltales[i].output = false → Completes (.lampShort i) s (EventEnd s)) ∧
    (∀ (i : Fin 40) b, s.lamps.telltales[i].retryTimer = .stopped → Completes (.retryTimerExpiry i b) s (EventEnd s)) ∧
    ((∀ i : Fin 8, s.lamps.chimes[i].state ≠ .playing) →
      Completes .chimeOnTimeExpiry s (EventEnd s) ∧ Completes .chimeOffTimeExpiry s (EventEnd s)) ∧
    (s.tacho.ageTimer = .stopped → Completes .recordAgeTimerExpiry s (EventEnd s)) ∧
    (s.tacho.estimation = .stopped → Completes .estimationTimerExpiry s (EventEnd s)) ∧
    (s.cycle.window = .stopped → Completes .bulbCheckExpiry s (EventEnd s)) ∧
    (s.store.state ≠ .committing ∨ s.store.programming = false → Completes .commitEnd s (EventEnd s)) ∧
    (∀ p, (∀ f, (s.port p).exec = some f → f.hold = none) → Completes (.waitTimerExpiry p) s (EventEnd s)) ∧
    (∀ p, (s.port p).link ≠ .up ∨ (s.port p).linkTimer = .stopped → Completes (.linkTimerExpiry p) s (EventEnd s))

/-! ## Requests -/

/-- A READ: refused with NO_REGION, RIGHTS or RANGE, or answered with as many elements as the reply's room holds, from the index or the cursor on and
round the region's end, with the cursor left after the last. The rights of each port in each region (R168) and the read elements (Tables 12-3,
12-4, 12-8) are spelled out, field by field. The channel byte of a scan slot (log 10), bits that carry no field (log 53), the mismatch mark's
byte (log 39), the bytes of unused scan slots and curve points (log 11), the lost
time that no byte shows (log 14), the sweep-enable byte (log 13), the ignored pattern fields (log 46), a port's own pattern and claim before the
settings (log 32), and the link timeout shown behind a commit (log 52), are the model's. -/
def Obligations.ReadRequests : Prop :=
  (∀ (p : Port) (region index count : Nat) (f : FrameExec) s, (s.port p).exec = some f →
    let x := s.port p
    let refusal (o : RequestOutcome) : State :=
      setPort p
        { x with
          exec := some { f with results := f.results ++ resultBytes o 0 [] }
          counters := { x.counters with refused := x.counters.refused + 1 } } s
    (Region.ofNumber region = none → runRequest p (.read region index count) s = refusal .noRegion) ∧
    (∀ r, Region.ofNumber region = some r →
      (r.readable p = false → runRequest p (.read region index count) s = refusal .rights) ∧
      (r.readable p = true → (index ≠ 255 ∧ r.elements ≤ index) ∨ count = 0 ∨ r.elements < count →
        runRequest p (.read region index count) s = refusal .range) ∧
      (r.readable p = true → index = 255 ∨ index < r.elements → 1 ≤ count → count ≤ r.elements →
        let first := if index = 255 then x.cursors[r.number] else index
        let n := min count (f.room / r.readSize)
        let data := (List.range n).flatMap fun k => readElement r p ((first + k) % r.elements) s
        runRequest p (.read region index count) s =
          setPort p
            { x with
              cursors := if n = 0 then x.cursors else x.cursors.set r.number ((first + n) % r.elements)
              exec := some
                { f with
                  results := f.results ++ resultBytes (if n < count then .short else .ok) n data
                  room := f.room - data.length } } s))) ∧
  (∀ (p : Port) (i : Nat) (r : Region) s, Region.ofNumber i = some r →
    readElement .directory p i s =
      spell [(1, r.readSize), (1, r.writeSize), (1, r.elements), (1, flag (r.readable p) 0 + flag (r.writable p) 1)]) ∧
  ((List.range 13).map fun i =>
      (Region.ofNumber i).map fun r => [Port.dlink, .nlink, .tlink].map fun p => (r.readable p, r.writable p)) =
    (let read : Bool × Bool := (true, false)
    let both : Bool × Bool := (true, true)
    [[read, read, read], [both, both, both], [read, read, read], [both, both, both], [both, both, both], [read, read, read],
      [read, read, both], [both, read, read], [both, both, both], [read, read, read], [read, read, read],
      [both, read, (false, false)], [(false, true), (false, true), (false, false)]].map some) ∧
  ((List.range 13).map fun i => (Region.ofNumber i).map fun r => (r.elements, r.readSize, r.writeSize)) =
    [(13, 4, 0), (64, 6, 3), (64, 14, 0), (40, 6, 1), (8, 3, 1), (6, 8, 0), (1, 32, 32), (4, 6, 4), (15, 1, 1), (3, 16, 0), (1, 6, 0),
      (240, 16, 16), (3, 0, 1)].map some ∧
  (∀ (p : Port) (i : Fin 64) s,
    let e := s.signals[i]
    let own := if e.desc.primary = .link p then 1 else if e.desc.alternate = .link p then 2 else 0
    let slot (x : Slot) : List (Nat × Int) := [(2, x.value), (1, x.state.code), (2, x.age), (1, 16 * x.cause.code + flag x.clamped 0)]
    readElement .signals p i s =
      spell [(2, e.view.value), (1, e.view.state.code), (1, e.view.source.code), (1, flag e.view.clamped 0 + flag e.disagree 1), (1, own)] ∧
    readElement .signalDetail p i s =
      spell ((1, (e.desc.primary.code : Int)) :: slot e.primary ++
        (if e.desc.alternate = .none then [(1, 0), (2, 0), (1, 0xFF), (2, 0), (1, 0)]
        else (1, (e.desc.alternate.code : Int)) :: slot e.alternate))) ∧
  (∀ (p : Port) (i : Fin 40) s,
    let x := s.lamps.telltales[i]
    let b := s.lamps.builtIn
    let claimBit (k : Fin 4) : Int := flag (s.lamps.settings.any fun st => telltaleClaim s st.telltales[i] x k) k
    let settled (c : Bool) : Bool := s.lamps.settings.isSome && c
    readElement .telltales p i s =
      spell
        [(1, x.resolved.code), (1, x.shown.code), (1, flag (s.lamps.lit x.shown) 0 + flag x.failed 1), (1, 16 * x.fault.code + x.retries),
          (1, claimBit 0 + claimBit 1 + claimBit 2 + claimBit 3 + flag (settled ((i == 0 && b.stop) || (i == 1 && b.check))) 4 +
            flag (settled (i == 0 && b.failed)) 5 + flag (settled ((i == 0 && b.fallback0) || (i == 1 && b.fallback1))) 6),
          (1, if ∃ st, s.lamps.settings = some st ∧ .port p ∈ st.telltales[i].claims.toList then (x.patterns.of p).code else 0xFF)]) ∧
  (∀ (p : Port) (i : Fin 8) s,
    let x := s.lamps.chimes[i]
    readElement .chimes p i s =
      spell
        [(1, x.state.code), (1, x.count),
          (1, if ∃ st, s.lamps.settings = some st ∧ .port p ∈ st.chimes[i].claims.toList then flag (x.portClaims.of p) 0 else 0xFF)]) ∧
  (∀ (p : Port) (i : Fin 6) s,
    let g := s.gauges[i]
    let remembered : Int := match g.remembered with | some m => m.code | none => 0xFF
    (g.state ≠ .unhomed →
      readElement .gauges p i s = spell [(1, g.state.code), (1, remembered), (2, g.position), (2, g.target), (2, g.velocity)]) ∧
    (g.state = .unhomed → readElement .gauges p i s = spell [(1, 0), (1, remembered), (2, 0), (2, 0), (2, 0)])) ∧
  (∀ (p : Port) (i : Nat) s,
    let r := s.tacho
    let shown (x : TachoRecord) : List (Nat × Int) :=
      [(1, (16 * x.driver1.code + x.driver2.code : Int)), (1, 16 * x.card1.code + x.card2.code), (2, x.continuous), (2, x.currentBreak),
        (2, x.daily), (2, x.weekly), (2, x.speed), (4, x.odometer), (2, match x.localTime with | some t => t | none => 0xFFFF),
        (1, x.warnings.length)] ++
        (List.range 4).map fun k => (1, match x.warnings[k]? with | some w => (w.code : Int) | none => 0)
    let figures : List (Nat × Int) := [(2, r.continuous), (2, r.daily), (2, r.remaining), (2, r.age)]
    (∀ x, r.record = some x → readElement .tacho p i s = spell ((1, (r.state.code : Int)) :: shown x ++ figures)) ∧
    (r.record = none →
      readElement .tacho p i s =
        spell ([(1, (r.state.code : Int)), (1, 0x44), (1, 0), (2, 0), (2, 0), (2, 0), (2, 0), (2, 0), (4, 0), (2, 0xFFFF), (1, 0), (4, 0)] ++
          figures))) ∧
  (∀ (p : Port) s,
    let d := s.dist
    readElement .distance p 0 s = spell [(4, d.odo), (1, d.odoState.code), (1, flag d.mismatch 0)] ∧
    readElement .distance p 1 s = spell [(4, d.ldc), (2, 0)] ∧ readElement .distance p 2 s = spell [(4, d.tripA), (2, 0)] ∧
    readElement .distance p 3 s = spell [(4, d.tripB), (2, 0)]) ∧
  (∀ (p q : Port) s,
    let x := s.port q
    let n := match q with | .dlink => 0 | .nlink => 1 | .tlink => 2
    readElement .links p n s =
      spell
        [(1, n), (1, x.link.code), (1, if ∃ f, x.exec = some f ∧ f.hold ≠ none then 1 else 0), (1, x.changes.length), (2, x.timeout),
          (2, x.counters.good.toNat), (2, x.counters.badCheck.toNat), (2, x.counters.badLength.toNat), (2, x.counters.busy.toNat),
          (2, x.counters.refused.toNat)]) ∧
  (∀ (p : Port) (i : Nat) s,
    let c := s.cycle
    readElement .cycleState p i s =
      spell
        [(1, c.state.code),
          (1, flag c.ignition 0 + flag (c.window != .stopped) 1 + flag c.commitInFlight 2 + flag c.restartPending 3 +
            flag (c.causeSwitch || c.causeWindow) 4 + flag c.causeSwitch 5 + flag c.causeWindow 6),
          (1, s.conv.supply.code), (2, s.conv.overruns), (1, s.store.state.code)]) ∧
  (∀ (p : Port) (i : Nat) s,
    (s.store.inForce = none → readElement .config p i s = List.replicate 16 0) ∧
    (∀ c, s.store.inForce = some c → readElement .config p i s = (c.normal.bytes.drop (16 * i)).take 16)) ∧
  (∀ c : Configuration,
    let claimFields (ofChime : Bool) (x : Claim) : List (Nat × Int) :=
      let carried (p : Pattern) : Int := if ofChime then 0 else p.code
      match x with
      | .absent => [(7, 0)]
      | .signal e t threshold hysteresis p =>
        [(1, 16 + carried p), (1, (e : Nat)), (1, t.code), (2, threshold), (2, hysteresis)]
      | .switch i p => [(1, 32 + carried p), (1, (i : Nat)), (5, 0)]
      | .port q => [(1, 48), (1, Port.sourceCode q), (5, 0)]
      | .condition x p => [(1, 64 + carried p), (1, (x.index : Nat)), (5, 0)]
    let descriptor (d : Descriptor) : List Byte :=
      spell [(1, 16 * d.kind.code + d.policy.code), (1, d.primary.code), (1, d.alternate.code), (2, d.min), (2, d.max), (2, d.default),
        (1, (d.staleMs / 10 : Nat))] ++
      (if d.lostMs % 100 = 0 then spell [(1, (d.lostMs / 100 : Nat))] else [Config.lostTimeReadback d.lostMs]) ++
      spell [(2, d.notifyDelta), (1, match d.partner with | some p => ((p : Nat) : Int) | none => 0xFF), (2, d.tolerance),
        (1, (d.persistenceMs / 100 : Nat))]
    let telltale (d : TelltaleDesc) : List Byte :=
      spell ([(1, (d.render.code : Int)), (1, d.lampClass.code), (1, d.colour.code), (1, flag d.proveOut 0 + flag d.parkedActive 1)] ++
        d.claims.toList.flatMap (claimFields false))
    let chime (d : ChimeDesc) : List Byte :=
      spell ([(2, (d.toneHz : Int)), (1, (d.onMs / 10 : Nat)), (1, (d.offMs / 10 : Nat)), (1, d.repetitions), (1, d.priority)] ++
        d.claims.toList.flatMap (claimFields true) ++ [(12, 0)])
    let pulse (d : PulseSettings) : List Byte :=
      spell [(1, d.kind.code), (1, d.edges.code), (2, d.scale), (1, (d.spacingUs / 10 : Nat)), (1, gateCode d.gateMs),
        (1, (d.zeroTimeoutMs / 100 : Nat)), (2, d.creep), (7, 0)]
    let scanSlot (d : ScanSlot) : List Byte :=
      spell [(1, 5 + (d.channel : Nat)), (1, d.excitation.code), (2, d.settleUs), (1, d.averaging), (2, d.lower), (2, d.upper),
        (1, if d.checked then 0 else 1), (1, (d.curve : Nat)), (1, d.shift), (2, d.refuelThreshold),
        (1, flag d.fastSettle 0 + flag d.parked 1), (1, 0)]
    let senderCurve (ps : List CurvePoint) : List Byte :=
      (ps.take 8).flatMap (fun x => spell [(2, x.x.toNat), (2, x.y)]) ++
        (List.replicate (8 - ps.length) (spell [(2, 0xFFFF), (2, 0)])).flatten
    let gauge (d : GaugeDesc) : List Byte :=
      spell [(1, (d.entry : Nat)), (1, (min 6 d.points.length : Nat))] ++
        (d.points.take 6).flatMap (fun x => spell [(2, x.x), (2, x.y.toNat)]) ++ List.replicate (4 * (6 - d.points.length)) 0 ++
      spell [(2, d.fullScale), (2, d.park), (1, if d.holdOnLoss then 1 else 0), (1, d.deadband), (1, d.vmax), (1, d.accel),
        (1, d.homingSpeed), (1, if d.sweepEnable then 1 else 0), (12, 0)]
    c.bytes =
      c.descriptors.toList.flatMap descriptor ++ c.telltales.toList.flatMap telltale ++ c.chimes.toList.flatMap chime ++
        c.pulse.toList.flatMap pulse ++
        ((c.scanList.take 16).flatMap scanSlot ++ (List.replicate (16 - c.scanList.length) (spell [(1, 0xFF), (15, 0)])).flatten) ++
        c.curves.toList.flatMap senderCurve ++ c.gauges.toList.flatMap gauge ++
        (spell ((2, ((flagsOf c.switches.activeHigh.toList : Nat) : Int)) ::
            c.switches.debounceMs.toList.map (fun ms => (1, ((ms / 10 : Nat) : Int)))) ++
          (List.range 3).map (fun k => BitVec.ofNat 8 (flagsOf ((c.switches.wake.toList.drop (8 * k)).take 8))) ++ spell [(3, 0)]) ++
        spell [(2, c.timing.scanMs), (1, c.timing.parkedS), (1, (c.timing.bulbMs / 100 : Nat)), (1, (c.timing.timeoutD / 100 : Nat)),
          (1, (c.timing.timeoutN / 100 : Nat)), (1, (c.timing.timeoutT / 100 : Nat)), (9, 0)] ++
        spell [(1, c.readout.staleS), (2, c.readout.motion), (2, c.readout.prewarn), (2, c.readout.limit), (2, c.odoTolerance), (7, 0)] ++
        c.label.take 16 ++ spell [(2, c.crc.toNat)] ++ (c.label.drop 16).take 14) ∧
  (∀ (l : List Bool) (k : Nat), (flagsOf l).testBit k = l.getD k false) ∧
  ([SlotState.empty, .live, .stale, .lost, .fault].map SlotState.code = [0, 1, 2, 3, 4] ∧
    [EffState.none, .live, .stale, .lost, .fault].map EffState.code = [0, 1, 2, 3, 4] ∧
    [EffSource.primary, .alternate, .substitute].map EffSource.code = [0, 1, 2] ∧
    [FaultCause.none, .shortLow, .openHigh, .curve, .testFail, .noise, .port].map FaultCause.code = [0, 1, 2, 3, 4, 5, 6] ∧
    [EntryKind.value, .boolean].map EntryKind.code = [0, 1] ∧ [Policy.hold, .default].map Policy.code = [0, 1] ∧
    [Pattern.off, .on, .slow, .fast, .follow].map Pattern.code = [0, 1, 2, 3, 4] ∧
    [Test.above, .below, .equal, .notLive, .fault, .disagree].map Test.code = [0, 1, 2, 3, 4, 5] ∧
    [Render.lamp, .screen].map Render.code = [0, 1] ∧ [LampClass.mandatory, .standard, .info].map LampClass.code = [0, 1, 2] ∧
    [Colour.red, .amber, .other].map Colour.code = [0, 1, 2] ∧
    [DriverFault.ok, .openLoad, .short, .latched].map DriverFault.code = [0, 1, 2, 3] ∧
    [ChimeState.quiet, .waiting, .playing, .served].map ChimeState.code = [0, 1, 2, 3] ∧
    [GaugeState.unhomed, .homing, .sweep, .tracking, .parking, .parked, .held].map GaugeState.code = [0, 1, 2, 3, 4, 5, 6] ∧
    [ResultKind.speed, .rotation, .frequency].map ResultKind.code = [0, 1, 2] ∧
    [EdgeSelect.rising, .falling, .both].map EdgeSelect.code = [0, 1, 2] ∧ [50, 100, 200, 500].map gateCode = [0, 1, 2, 3] ∧
    [Excitation.none, .source1mA, .pullup].map Excitation.code = [0, 1, 2] ∧
    [Activity.rest, .available, .work, .drive, .unknown, .absent].map Activity.code = [0, 1, 2, 3, 4, 5] ∧
    [Card.absent, .present, .fault].map Card.code = [0, 1, 2] ∧
    [Warning.overspeed, .cardMissing, .driveLimit, .powerInterrupt, .sensorFault, .other].map Warning.code = [1, 2, 3, 4, 5, 6] ∧
    [ReadoutState.none, .current, .estimated, .lost].map ReadoutState.code = [0, 1, 2, 3] ∧
    [OdoState.unknown, .seeded, .tracked].map OdoState.code = [0, 1, 2] ∧
    [CycleState.load, .parked, .starting, .run, .stopping].map CycleState.code = [0, 1, 2, 3, 4] ∧
    [Supply.normal, .low, .high].map Supply.code = [0, 1, 2] ∧ [LinkState.down, .up, .lost].map LinkState.code = [0, 1, 2] ∧
    [StoreState.loading, .loaded, .defaults, .committing].map StoreState.code = [0, 1, 2, 3] ∧
    [Condition.configDefaults, .adcTestFail, .supplyLow, .supplyHigh, .linkLostD, .linkLostN, .linkLostT, .tachoPrewarn, .tachoLimit,
      .tachoStale, .tachoCardDriving, .tachoWarning, .odoMismatch, .telltaleFailed].map Condition.index = List.finRange 14 ∧
    Source.code .none = 0 ∧ (∀ i : Fin 4, (Source.pulse i).code = 1 + i) ∧ (∀ i : Fin 16, (Source.analog i).code = 5 + i) ∧
    (∀ i : Fin 24, (Source.switch i).code = 21 + i) ∧
    [Port.dlink, .nlink, .tlink].map (fun p => (Source.link p).code) = [45, 46, 47])

/-- The division of a body into requests with its four faults of structure, which end it (R167); and a WRITE in which an element is refused, which
changes nothing but the reply and the refused-request counter, with the first refused element's outcome (R171). The judgement of an element is
spelled out: SIGNALS, TELLTALES, CHIMES, TACHO, DISTANCE, CONFIG, and COMMIT, RESTART and WAKE release (WATCH has its own statement), and so is which
port may write which region (R168). Which outcome a port's write gets before the load is the model's reading (log 38); that a
request cut within its three bytes is LENGTH whatever its first byte holds is the model's choice (log 54). -/
def Obligations.WriteRefusedWhole : Prop :=
  (requestsOf [] = [] ∧ (∀ k : Byte, requestsOf [k] = [.faulty .length]) ∧ (∀ k i : Byte, requestsOf [k, i] = [.faulty .length]) ∧
    (∀ (k i c : Byte) (rest : List Byte),
      let kind := k.toNat / 16
      let region := k.toNat % 16
      (kind = 1 → requestsOf (k :: i :: c :: rest) = .read region i.toNat c.toNat :: requestsOf rest) ∧
      (kind = 3 → requestsOf (k :: i :: c :: rest) = .wait i.toNat c.toNat :: requestsOf rest) ∧
      (kind = 4 → requestsOf (k :: i :: c :: rest) = .changes c.toNat :: requestsOf rest) ∧
      (kind = 0 ∨ 4 < kind → requestsOf (k :: i :: c :: rest) = [.faulty .noKind]) ∧
      (kind = 2 → 12 < region → requestsOf (k :: i :: c :: rest) = [.faulty .noRegion]) ∧
      (∀ r, kind = 2 → Region.ofNumber region = some r →
        (rest.length < c.toNat * r.writeSize → requestsOf (k :: i :: c :: rest) = [.faulty .length]) ∧
        (c.toNat * r.writeSize ≤ rest.length →
          requestsOf (k :: i :: c :: rest) =
            .write r i.toNat c.toNat (rest.take (c.toNat * r.writeSize)) :: requestsOf (rest.drop (c.toNat * r.writeSize)))))) ∧
  (∀ (p : Port) (o : RequestOutcome) (f : FrameExec) s, (s.port p).exec = some f → 16 ≤ o.code →
    runRequest p (.faulty o) s =
      setPort p
        { s.port p with
          exec := some { f with results := f.results ++ [BitVec.ofNat 8 o.code, 0] }
          counters := { (s.port p).counters with refused := (s.port p).counters.refused + 1 } } s) ∧
  ([RequestOutcome.ok, .okClamped, .short, .timeout, .noKind, .noRegion, .range, .rights, .notSource, .state, .length].map
      RequestOutcome.code = [0x00, 0x01, 0x02, 0x03, 0x10, 0x11, 0x12, 0x13, 0x14, 0x15, 0x16]) ∧
  (∀ (p : Port) (data : List Byte) s,
    let value (k : Nat) : Nat := (data.getD k 0).toNat
    let load : Bool := decide (s.cycle.state = .load)
    (∀ e : Fin 64,
      let listed : Bool := decide (s.signals[e].desc.primary = .link p ∨ s.signals[e].desc.alternate = .link p)
      judgeElement .signals p e data s =
        if s.store.inForce ≠ none ∧ listed = false then some .notSource else if load = true then some .state
        else if 1 < value 2 then some .range else none) ∧
    (∀ i : Fin 40,
      (s.lamps.settings = none → judgeElement .telltales p i data s = some .state) ∧
      ∀ st, s.lamps.settings = some st →
        judgeElement .telltales p i data s =
          if .port p ∉ st.telltales[i].claims.toList then some .notSource else if load = true then some .state
          else if 3 < value 0 then some .range else none) ∧
    (∀ i : Fin 8,
      (s.lamps.settings = none → judgeElement .chimes p i data s = some .state) ∧
      ∀ st, s.lamps.settings = some st →
        judgeElement .chimes p i data s =
          if .port p ∉ st.chimes[i].claims.toList then some .notSource else if load = true then some .state
          else if 1 < value 0 then some .range else none) ∧
    judgeElement .tacho p 0 data s = (if load = true then some .state else none) ∧
    (
      let v := value 0 * 16777216 + value 1 * 65536 + value 2 * 256 + value 3
      judgeElement .distance p 0 data s =
        (if s.dist.odoState ≠ .unknown then some .state else if 999999999 < v then some .range else none) ∧
      judgeElement .distance p 1 data s = some .rights ∧
      judgeElement .distance p 2 data s = (if v ≠ 0 then some .range else none) ∧
      judgeElement .distance p 3 data s = (if v ≠ 0 then some .range else none)) ∧
    (∀ i : Nat,
      judgeElement .config p i data s =
        if s.cycle.state = .parked ∧ (s.store.state = .loaded ∨ s.store.state = .defaults) then none else some .state) ∧
    (
      let m : Memory := s.store.staging
      judgeElement .control p 0 data s =
        (if p ≠ .dlink then some .rights
        else if s.cycle.state ≠ .parked ∨ s.store.state = .committing ∨ s.store.state = .loading then some .state
        else if value 0 ≠ 1 then some .range
        else if crc16 ((List.range 3824).map m.read) ≠ m.read 3824 ++ m.read 3825 ∨ parseImage m = none then some .range
        else none) ∧
      judgeElement .control p 1 data s =
        (if p ≠ .dlink then some .rights else if load = true then some .state else if value 0 ≠ 1 then some .range else none) ∧
      judgeElement .control p 2 data s = (if value 0 ≠ 1 then some .range else none))) ∧
  ∀ (p : Port) (r : Region) (index count : Nat) (data : List Byte) (f : FrameExec) s, (s.port p).exec = some f →
    let x := s.port p
    let refusal (o : RequestOutcome) : State :=
      setPort p
        { x with
          exec := some { f with results := f.results ++ resultBytes o 0 [] }
          counters := { x.counters with refused := x.counters.refused + 1 } } s
    let first := if index = 255 then x.cursors[r.number] else index
    let verdict (k : Nat) : Option RequestOutcome :=
      judgeElement r p ((first + k) % r.elements) ((data.drop (k * r.writeSize)).take r.writeSize) s
    (r.writable p = false → runRequest p (.write r index count data) s = refusal .rights) ∧
    (r.writable p = true → (index ≠ 255 ∧ r.elements ≤ index) ∨ count = 0 ∨ r.elements < count →
      runRequest p (.write r index count data) s = refusal .range) ∧
    (r.writable p = true → r = .control → count ≠ 1 → runRequest p (.write r index count data) s = refusal .range) ∧
    (∀ k o, r.writable p = true → index = 255 ∨ index < r.elements → count ≤ r.elements → (r = .control → count = 1) →
      k < count → verdict k = some o → (∀ j, j < k → verdict j = none) →
      runRequest p (.write r index count data) s = refusal o) ∧
    (r.writable p = true ↔
      match r with
      | .signals | .telltales | .chimes | .watch => True
      | .tacho => p = .tlink
      | .distance | .config => p = .dlink
      | .control => p = .dlink ∨ p = .nlink
      | .directory | .signalDetail | .gauges | .links | .cycleState => False)

/-- A WRITE that no element of is refused: its elements take effect, the cursor is left after the last, and the outcome says whether a field was
brought into range, as a value of a SIGNALS element by R4 or a field of a record by R137, and no field of another region. That the elements, which
take effect together (R167, R171), do so one after another in order is the model's reading (log 33). The elements: a signal's update or fault, a
telltale's pattern and a chime's claim of the writing port, a seed and a trip's reset, a staging block, and COMMIT, RESTART and WAKE release (a record
and a watch element have statements of their own). -/
def Obligations.WritesTakeEffect : Prop :=
  (∀ (p : Port) (r : Region) (index count : Nat) (data : List Byte) s,
    let x := s.port p
    let first := if index = 255 then x.cursors[r.number] else index
    let element (k : Nat) : Nat := (first + k) % r.elements
    let bytes (k : Nat) : List Byte := (data.drop (k * r.writeSize)).take r.writeSize
    let u := (List.range count).foldl (fun s k => writeElement r p (element k) (bytes k) s)
      (setPort p { x with cursors := x.cursors.set r.number ((first + count) % r.elements) } s)
    let clamped := (List.range count).any fun k => clampsElement r (element k) (bytes k) s
    r.writable p = true → index = 255 ∨ index < r.elements → 1 ≤ count → count ≤ r.elements → (r = .control → count = 1) →
    (∀ k, k < count → judgeElement r p (element k) (bytes k) s = none) →
      ((u.port p).exec = none → runRequest p (.write r index count data) s = u) ∧
      (∀ g, (u.port p).exec = some g →
        runRequest p (.write r index count data) s =
          setPort p
            { u.port p with
              exec := some { g with results := g.results ++ resultBytes (if clamped then .okClamped else .ok) count [] } } u)) ∧
  (∀ (p : Port) (e : Fin 64) (hi lo mark : Byte) s, s.cycle.state ≠ .load →
    let x : Update := if mark = 0 then .value (BitVec.toInt (hi ++ lo)) else .fault .port
    let t := writeElement .signals p e [hi, lo, mark] s
    TableEvent s t ∧ EntryKept (s.signals[e].afterUpdate (.link p) x) t.signals[e] ∧
    (∀ j : Fin 64, j ≠ e → EntryKept s.signals[j] t.signals[j]) ∧
    Followed true (fun j => j = e ∧ fedBy (.link p) s j) s t ∧ EntriesReported s t ∧ ReportedOnly ofTable s t) ∧
  (∀ (p : Port) (i : Fin 40) (b : Byte) (v : Pattern) s, Pattern.ofCode b.toNat = some v →
    ∃ y : PortPatterns,
      writeElement .telltales p i [b] s =
        s.setLamps { s.lamps with telltales := s.lamps.telltales.set i { s.lamps.telltales[i] with patterns := y } } ∧
      y.of p = v ∧ ∀ q, q ≠ p → y.of q = s.lamps.telltales[i].patterns.of q) ∧
  (∀ (p : Port) (i : Fin 8) (b : Byte) s,
    ∃ y : PortClaims,
      writeElement .chimes p i [b] s =
        s.setLamps { s.lamps with chimes := s.lamps.chimes.set i { s.lamps.chimes[i] with portClaims := y } } ∧
      y.of p = decide (b = 1) ∧ ∀ q, q ≠ p → y.of q = s.lamps.chimes[i].portClaims.of q) ∧
  (∀ (p : Port) (a b c d : Byte) s, s.cond .odoMismatch = s.dist.mismatch →
    let v := a.toNat * 16777216 + b.toNat * 65536 + c.toNat * 256 + d.toNat
    let effect (i : Nat) (d' : Distance) : Prop :=
      let t := writeElement .distance p i [a, b, c, d] s
      EventEnd (s.setDist d') t ∧ (distanceChanged s.dist d' = true → noticed distanceItem t) ∧
        ReportedOnly (fun j => j = distanceItem ∧ distanceChanged s.dist d' = true) s t
    effect 0 { s.dist with odo := v, odoState := .seeded } ∧
    effect 2 { s.dist with tripA := 0 } ∧ effect 3 { s.dist with tripB := 0 }) ∧
  (∀ (p : Port) (i : Nat) (data : List Byte) s,
    writeElement .config p i data s = s.setStore { s.store with staging := Memory.writeBlock s.store.staging i data }) ∧
  (∀ (p : Port) (data : List Byte) (f : FrameExec) s, (s.port p).exec = some f →
    writeElement .control p 0 data s =
      setPort p { s.port p with exec := some { f with commit := true } }
        ((s.setStore { s.store with state := .committing }).setCycle { s.cycle with commitInFlight := true }) ∧
    writeElement .control p 1 data s = requestRestart s ∧
    writeElement .control p 2 data s = s.setCycle { s.cycle with causeSwitch := false, causeWindow := false }) ∧
  (∀ (data : List Byte) s,
    (∀ e : Fin 64,
      let d := s.signals[e].desc
      let v : Int := BitVec.toInt (data.getD 0 0 ++ data.getD 1 0)
      clampsElement .signals e data s = true ↔ data.getD 2 0 = 0 ∧ d.kind = .value ∧ (v < d.min ∨ d.max < v)) ∧
    clampsElement .tacho 0 data s = (validateRecord data).2 ∧
    ∀ (r : Region) (i : Nat), r ≠ .signals → r ≠ .tacho → clampsElement r i data s = false)

/-- R177: a CHANGES request. -/
def Obligations.ChangesTakesFromHead : Prop :=
  (∀ k i c : Byte, k.toNat / 16 = 4 → requestsOf [k, i, c] = [.changes c.toNat]) ∧
  (∀ (p : Port) (count : Nat) (f : FrameExec) s, (s.port p).exec = some f →
    let x := s.port p
    let asked := min count x.changes.length
    let n := min asked f.room
    let left : PortState :=
      { x with
        changes := x.changes.drop n
        exec := some
          { f with
            results := f.results ++ resultBytes (if n < asked then .short else .ok) n ((x.changes.take n).map fun i => BitVec.ofNat 8 i)
            room := f.room - n } }
    (count = 0 →
      runRequest p (.changes count) s =
        setPort p
          { x with
            exec := some { f with results := f.results ++ resultBytes .range 0 [] }
            counters := { x.counters with refused := x.counters.refused + 1 } } s) ∧
    (count ≠ 0 → runRequest p (.changes count) s = setPort p left s) ∧
    (x.listLegal → f.hold = none → ∀ i ∈ x.changes.take n, (left.notice i).changes = x.changes.drop n ++ [i])) ∧
  (∀ (p : Port) (i : Fin 113) (f : FrameExec) (tm : Timer) s,
    (s.port p).exec = some f → f.hold = some (.change, tm) → (s.port p).changes = [] → (s.port p).watch[i] = true →
    (raiseItem i s).port p =
      { s.port p with changes := [i], exec := some { f with hold := none, results := f.results ++ resultBytes .ok 0 [] } }) ∧
  (∀ (p : Port) (i : Fin 113) (rest : List (Fin 113)) (count : Nat) (f : FrameExec) s,
    (s.port p).exec = some f → (s.port p).changes = i :: rest → 1 ≤ count → 1 ≤ f.room →
    ∃ o n data g, ((runRequest p (.changes count) s).port p).exec = some g ∧
      g.results = f.results ++ resultBytes o n (BitVec.ofNat 8 i :: data))

/-- R54: the reset of a trip by a write of 0, the refusal of any other value, and a reset and a step in both orders (a step that finds the LDC at its
top changes no trip, R47). -/
def Obligations.TripReset : Prop :=
  (∀ (data : List Byte) (f : FrameExec) s,
    (s.port .dlink).exec = some f → f.hold = none → data.length = 4 →
    let t (i : Nat) := runRequest .dlink (.write .distance i 1 data) s
    let answers (i : Nat) (o : RequestOutcome) (count : Nat) : Prop :=
      ∃ g, ((t i).port .dlink).exec = some g ∧ g.results = f.results ++ resultBytes o count []
    (data = [0, 0, 0, 0] →
      ((t 2).dist = { s.dist with tripA := 0 } ∧ answers 2 .ok 1) ∧
      ((t 3).dist = { s.dist with tripB := 0 } ∧ answers 3 .ok 1) ∧
      (s.dist.tripA = 0 → ∀ q, ((t 2).port q).changes = (s.port q).changes) ∧
      (s.dist.tripB = 0 → ∀ q, ((t 3).port q).changes = (s.port q).changes)) ∧
    (data ≠ [0, 0, 0, 0] →
      ((t 2).dist = s.dist ∧ answers 2 .range 0) ∧ ((t 3).dist = s.dist ∧ answers 3 .range 0))) ∧
  (∀ d : Distance,
    (d.ldc < 999999999 →
      (Distance.step { d with tripA := 0 }).tripA = 1 ∧ (Distance.step { d with tripB := 0 }).tripB = 1) ∧
    (999999999 ≤ d.ldc →
      (Distance.step { d with tripA := 0 }).tripA = 0 ∧ (Distance.step { d with tripB := 0 }).tripB = 0) ∧
    ({ d.step with tripA := 0 } : Distance).tripA = 0 ∧ ({ d.step with tripB := 0 } : Distance).tripB = 0 ∧
    (∀ n, d.ldc + n ≤ 999999999 →
      (Distance.step^[n] { d with tripA := 0 }).tripA = n % 1000000 ∧
      (Distance.step^[n] { d with tripB := 0 }).tripB = n % 1000000))
end

