-- ==== Sys2Proof/Laws/State.lean ====
section
/-! SUPPORT. What each replacement of a part of the state leaves and what it puts there: one lemma for each field and each replacement,
true by unfolding, so that no proof unfolds a record update. -/

namespace Sys2Proof.Machine

variable (s : State)

/-! ## State.setSignals -/

@[simp] theorem State.setSignals_signals (x : Vector Entry 64) : (s.setSignals x).signals = x := rfl
@[simp] theorem State.setSignals_pulse (x : Vector Entry 64) : (s.setSignals x).pulse = s.pulse := rfl
@[simp] theorem State.setSignals_dist (x : Vector Entry 64) : (s.setSignals x).dist = s.dist := rfl
@[simp] theorem State.setSignals_conv (x : Vector Entry 64) : (s.setSignals x).conv = s.conv := rfl
@[simp] theorem State.setSignals_switches (x : Vector Entry 64) : (s.setSignals x).switches = s.switches := rfl
@[simp] theorem State.setSignals_gauges (x : Vector Entry 64) : (s.setSignals x).gauges = s.gauges := rfl
@[simp] theorem State.setSignals_lamps (x : Vector Entry 64) : (s.setSignals x).lamps = s.lamps := rfl
@[simp] theorem State.setSignals_tacho (x : Vector Entry 64) : (s.setSignals x).tacho = s.tacho := rfl
@[simp] theorem State.setSignals_cycle (x : Vector Entry 64) : (s.setSignals x).cycle = s.cycle := rfl
@[simp] theorem State.setSignals_ports (x : Vector Entry 64) : (s.setSignals x).ports = s.ports := rfl
@[simp] theorem State.setSignals_store (x : Vector Entry 64) : (s.setSignals x).store = s.store := rfl
@[simp] theorem State.setSignals_conditions (x : Vector Entry 64) : (s.setSignals x).conditions = s.conditions := rfl
@[simp] theorem State.setSignals_pending (x : Vector Entry 64) : (s.setSignals x).pending = s.pending := rfl

/-! ## State.setPulse -/

@[simp] theorem State.setPulse_signals (x : Vector PulseChannel 4) : (s.setPulse x).signals = s.signals := rfl
@[simp] theorem State.setPulse_pulse (x : Vector PulseChannel 4) : (s.setPulse x).pulse = x := rfl
@[simp] theorem State.setPulse_dist (x : Vector PulseChannel 4) : (s.setPulse x).dist = s.dist := rfl
@[simp] theorem State.setPulse_conv (x : Vector PulseChannel 4) : (s.setPulse x).conv = s.conv := rfl
@[simp] theorem State.setPulse_switches (x : Vector PulseChannel 4) : (s.setPulse x).switches = s.switches := rfl
@[simp] theorem State.setPulse_gauges (x : Vector PulseChannel 4) : (s.setPulse x).gauges = s.gauges := rfl
@[simp] theorem State.setPulse_lamps (x : Vector PulseChannel 4) : (s.setPulse x).lamps = s.lamps := rfl
@[simp] theorem State.setPulse_tacho (x : Vector PulseChannel 4) : (s.setPulse x).tacho = s.tacho := rfl
@[simp] theorem State.setPulse_cycle (x : Vector PulseChannel 4) : (s.setPulse x).cycle = s.cycle := rfl
@[simp] theorem State.setPulse_ports (x : Vector PulseChannel 4) : (s.setPulse x).ports = s.ports := rfl
@[simp] theorem State.setPulse_store (x : Vector PulseChannel 4) : (s.setPulse x).store = s.store := rfl
@[simp] theorem State.setPulse_conditions (x : Vector PulseChannel 4) : (s.setPulse x).conditions = s.conditions := rfl
@[simp] theorem State.setPulse_pending (x : Vector PulseChannel 4) : (s.setPulse x).pending = s.pending := rfl

/-! ## State.setDist -/

@[simp] theorem State.setDist_signals (x : Distance) : (s.setDist x).signals = s.signals := rfl
@[simp] theorem State.setDist_pulse (x : Distance) : (s.setDist x).pulse = s.pulse := rfl
@[simp] theorem State.setDist_dist (x : Distance) : (s.setDist x).dist = x := rfl
@[simp] theorem State.setDist_conv (x : Distance) : (s.setDist x).conv = s.conv := rfl
@[simp] theorem State.setDist_switches (x : Distance) : (s.setDist x).switches = s.switches := rfl
@[simp] theorem State.setDist_gauges (x : Distance) : (s.setDist x).gauges = s.gauges := rfl
@[simp] theorem State.setDist_lamps (x : Distance) : (s.setDist x).lamps = s.lamps := rfl
@[simp] theorem State.setDist_tacho (x : Distance) : (s.setDist x).tacho = s.tacho := rfl
@[simp] theorem State.setDist_cycle (x : Distance) : (s.setDist x).cycle = s.cycle := rfl
@[simp] theorem State.setDist_ports (x : Distance) : (s.setDist x).ports = s.ports := rfl
@[simp] theorem State.setDist_store (x : Distance) : (s.setDist x).store = s.store := rfl
@[simp] theorem State.setDist_conditions (x : Distance) : (s.setDist x).conditions = s.conditions := rfl
@[simp] theorem State.setDist_pending (x : Distance) : (s.setDist x).pending = s.pending := rfl

/-! ## State.setConv -/

@[simp] theorem State.setConv_signals (x : Converter) : (s.setConv x).signals = s.signals := rfl
@[simp] theorem State.setConv_pulse (x : Converter) : (s.setConv x).pulse = s.pulse := rfl
@[simp] theorem State.setConv_dist (x : Converter) : (s.setConv x).dist = s.dist := rfl
@[simp] theorem State.setConv_conv (x : Converter) : (s.setConv x).conv = x := rfl
@[simp] theorem State.setConv_switches (x : Converter) : (s.setConv x).switches = s.switches := rfl
@[simp] theorem State.setConv_gauges (x : Converter) : (s.setConv x).gauges = s.gauges := rfl
@[simp] theorem State.setConv_lamps (x : Converter) : (s.setConv x).lamps = s.lamps := rfl
@[simp] theorem State.setConv_tacho (x : Converter) : (s.setConv x).tacho = s.tacho := rfl
@[simp] theorem State.setConv_cycle (x : Converter) : (s.setConv x).cycle = s.cycle := rfl
@[simp] theorem State.setConv_ports (x : Converter) : (s.setConv x).ports = s.ports := rfl
@[simp] theorem State.setConv_store (x : Converter) : (s.setConv x).store = s.store := rfl
@[simp] theorem State.setConv_conditions (x : Converter) : (s.setConv x).conditions = s.conditions := rfl
@[simp] theorem State.setConv_pending (x : Converter) : (s.setConv x).pending = s.pending := rfl

/-! ## State.setSwitches -/

@[simp] theorem State.setSwitches_signals (x : SwitchBank) : (s.setSwitches x).signals = s.signals := rfl
@[simp] theorem State.setSwitches_pulse (x : SwitchBank) : (s.setSwitches x).pulse = s.pulse := rfl
@[simp] theorem State.setSwitches_dist (x : SwitchBank) : (s.setSwitches x).dist = s.dist := rfl
@[simp] theorem State.setSwitches_conv (x : SwitchBank) : (s.setSwitches x).conv = s.conv := rfl
@[simp] theorem State.setSwitches_switches (x : SwitchBank) : (s.setSwitches x).switches = x := rfl
@[simp] theorem State.setSwitches_gauges (x : SwitchBank) : (s.setSwitches x).gauges = s.gauges := rfl
@[simp] theorem State.setSwitches_lamps (x : SwitchBank) : (s.setSwitches x).lamps = s.lamps := rfl
@[simp] theorem State.setSwitches_tacho (x : SwitchBank) : (s.setSwitches x).tacho = s.tacho := rfl
@[simp] theorem State.setSwitches_cycle (x : SwitchBank) : (s.setSwitches x).cycle = s.cycle := rfl
@[simp] theorem State.setSwitches_ports (x : SwitchBank) : (s.setSwitches x).ports = s.ports := rfl
@[simp] theorem State.setSwitches_store (x : SwitchBank) : (s.setSwitches x).store = s.store := rfl
@[simp] theorem State.setSwitches_conditions (x : SwitchBank) : (s.setSwitches x).conditions = s.conditions := rfl
@[simp] theorem State.setSwitches_pending (x : SwitchBank) : (s.setSwitches x).pending = s.pending := rfl

/-! ## State.setGauges -/

@[simp] theorem State.setGauges_signals (x : Vector Gauge 6) : (s.setGauges x).signals = s.signals := rfl
@[simp] theorem State.setGauges_pulse (x : Vector Gauge 6) : (s.setGauges x).pulse = s.pulse := rfl
@[simp] theorem State.setGauges_dist (x : Vector Gauge 6) : (s.setGauges x).dist = s.dist := rfl
@[simp] theorem State.setGauges_conv (x : Vector Gauge 6) : (s.setGauges x).conv = s.conv := rfl
@[simp] theorem State.setGauges_switches (x : Vector Gauge 6) : (s.setGauges x).switches = s.switches := rfl
@[simp] theorem State.setGauges_gauges (x : Vector Gauge 6) : (s.setGauges x).gauges = x := rfl
@[simp] theorem State.setGauges_lamps (x : Vector Gauge 6) : (s.setGauges x).lamps = s.lamps := rfl
@[simp] theorem State.setGauges_tacho (x : Vector Gauge 6) : (s.setGauges x).tacho = s.tacho := rfl
@[simp] theorem State.setGauges_cycle (x : Vector Gauge 6) : (s.setGauges x).cycle = s.cycle := rfl
@[simp] theorem State.setGauges_ports (x : Vector Gauge 6) : (s.setGauges x).ports = s.ports := rfl
@[simp] theorem State.setGauges_store (x : Vector Gauge 6) : (s.setGauges x).store = s.store := rfl
@[simp] theorem State.setGauges_conditions (x : Vector Gauge 6) : (s.setGauges x).conditions = s.conditions := rfl
@[simp] theorem State.setGauges_pending (x : Vector Gauge 6) : (s.setGauges x).pending = s.pending := rfl

/-! ## State.setLamps -/

@[simp] theorem State.setLamps_signals (x : TelltaleUnit) : (s.setLamps x).signals = s.signals := rfl
@[simp] theorem State.setLamps_pulse (x : TelltaleUnit) : (s.setLamps x).pulse = s.pulse := rfl
@[simp] theorem State.setLamps_dist (x : TelltaleUnit) : (s.setLamps x).dist = s.dist := rfl
@[simp] theorem State.setLamps_conv (x : TelltaleUnit) : (s.setLamps x).conv = s.conv := rfl
@[simp] theorem State.setLamps_switches (x : TelltaleUnit) : (s.setLamps x).switches = s.switches := rfl
@[simp] theorem State.setLamps_gauges (x : TelltaleUnit) : (s.setLamps x).gauges = s.gauges := rfl
@[simp] theorem State.setLamps_lamps (x : TelltaleUnit) : (s.setLamps x).lamps = x := rfl
@[simp] theorem State.setLamps_tacho (x : TelltaleUnit) : (s.setLamps x).tacho = s.tacho := rfl
@[simp] theorem State.setLamps_cycle (x : TelltaleUnit) : (s.setLamps x).cycle = s.cycle := rfl
@[simp] theorem State.setLamps_ports (x : TelltaleUnit) : (s.setLamps x).ports = s.ports := rfl
@[simp] theorem State.setLamps_store (x : TelltaleUnit) : (s.setLamps x).store = s.store := rfl
@[simp] theorem State.setLamps_conditions (x : TelltaleUnit) : (s.setLamps x).conditions = s.conditions := rfl
@[simp] theorem State.setLamps_pending (x : TelltaleUnit) : (s.setLamps x).pending = s.pending := rfl

/-! ## State.setTacho -/

@[simp] theorem State.setTacho_signals (x : Readout) : (s.setTacho x).signals = s.signals := rfl
@[simp] theorem State.setTacho_pulse (x : Readout) : (s.setTacho x).pulse = s.pulse := rfl
@[simp] theorem State.setTacho_dist (x : Readout) : (s.setTacho x).dist = s.dist := rfl
@[simp] theorem State.setTacho_conv (x : Readout) : (s.setTacho x).conv = s.conv := rfl
@[simp] theorem State.setTacho_switches (x : Readout) : (s.setTacho x).switches = s.switches := rfl
@[simp] theorem State.setTacho_gauges (x : Readout) : (s.setTacho x).gauges = s.gauges := rfl
@[simp] theorem State.setTacho_lamps (x : Readout) : (s.setTacho x).lamps = s.lamps := rfl
@[simp] theorem State.setTacho_tacho (x : Readout) : (s.setTacho x).tacho = x := rfl
@[simp] theorem State.setTacho_cycle (x : Readout) : (s.setTacho x).cycle = s.cycle := rfl
@[simp] theorem State.setTacho_ports (x : Readout) : (s.setTacho x).ports = s.ports := rfl
@[simp] theorem State.setTacho_store (x : Readout) : (s.setTacho x).store = s.store := rfl
@[simp] theorem State.setTacho_conditions (x : Readout) : (s.setTacho x).conditions = s.conditions := rfl
@[simp] theorem State.setTacho_pending (x : Readout) : (s.setTacho x).pending = s.pending := rfl

/-! ## State.setCycle -/

@[simp] theorem State.setCycle_signals (x : CycleController) : (s.setCycle x).signals = s.signals := rfl
@[simp] theorem State.setCycle_pulse (x : CycleController) : (s.setCycle x).pulse = s.pulse := rfl
@[simp] theorem State.setCycle_dist (x : CycleController) : (s.setCycle x).dist = s.dist := rfl
@[simp] theorem State.setCycle_conv (x : CycleController) : (s.setCycle x).conv = s.conv := rfl
@[simp] theorem State.setCycle_switches (x : CycleController) : (s.setCycle x).switches = s.switches := rfl
@[simp] theorem State.setCycle_gauges (x : CycleController) : (s.setCycle x).gauges = s.gauges := rfl
@[simp] theorem State.setCycle_lamps (x : CycleController) : (s.setCycle x).lamps = s.lamps := rfl
@[simp] theorem State.setCycle_tacho (x : CycleController) : (s.setCycle x).tacho = s.tacho := rfl
@[simp] theorem State.setCycle_cycle (x : CycleController) : (s.setCycle x).cycle = x := rfl
@[simp] theorem State.setCycle_ports (x : CycleController) : (s.setCycle x).ports = s.ports := rfl
@[simp] theorem State.setCycle_store (x : CycleController) : (s.setCycle x).store = s.store := rfl
@[simp] theorem State.setCycle_conditions (x : CycleController) : (s.setCycle x).conditions = s.conditions := rfl
@[simp] theorem State.setCycle_pending (x : CycleController) : (s.setCycle x).pending = s.pending := rfl

/-! ## State.setPorts -/

@[simp] theorem State.setPorts_signals (x : LinkInterface) : (s.setPorts x).signals = s.signals := rfl
@[simp] theorem State.setPorts_pulse (x : LinkInterface) : (s.setPorts x).pulse = s.pulse := rfl
@[simp] theorem State.setPorts_dist (x : LinkInterface) : (s.setPorts x).dist = s.dist := rfl
@[simp] theorem State.setPorts_conv (x : LinkInterface) : (s.setPorts x).conv = s.conv := rfl
@[simp] theorem State.setPorts_switches (x : LinkInterface) : (s.setPorts x).switches = s.switches := rfl
@[simp] theorem State.setPorts_gauges (x : LinkInterface) : (s.setPorts x).gauges = s.gauges := rfl
@[simp] theorem State.setPorts_lamps (x : LinkInterface) : (s.setPorts x).lamps = s.lamps := rfl
@[simp] theorem State.setPorts_tacho (x : LinkInterface) : (s.setPorts x).tacho = s.tacho := rfl
@[simp] theorem State.setPorts_cycle (x : LinkInterface) : (s.setPorts x).cycle = s.cycle := rfl
@[simp] theorem State.setPorts_ports (x : LinkInterface) : (s.setPorts x).ports = x := rfl
@[simp] theorem State.setPorts_store (x : LinkInterface) : (s.setPorts x).store = s.store := rfl
@[simp] theorem State.setPorts_conditions (x : LinkInterface) : (s.setPorts x).conditions = s.conditions := rfl
@[simp] theorem State.setPorts_pending (x : LinkInterface) : (s.setPorts x).pending = s.pending := rfl

/-! ## State.setStore -/

@[simp] theorem State.setStore_signals (x : ConfigStore) : (s.setStore x).signals = s.signals := rfl
@[simp] theorem State.setStore_pulse (x : ConfigStore) : (s.setStore x).pulse = s.pulse := rfl
@[simp] theorem State.setStore_dist (x : ConfigStore) : (s.setStore x).dist = s.dist := rfl
@[simp] theorem State.setStore_conv (x : ConfigStore) : (s.setStore x).conv = s.conv := rfl
@[simp] theorem State.setStore_switches (x : ConfigStore) : (s.setStore x).switches = s.switches := rfl
@[simp] theorem State.setStore_gauges (x : ConfigStore) : (s.setStore x).gauges = s.gauges := rfl
@[simp] theorem State.setStore_lamps (x : ConfigStore) : (s.setStore x).lamps = s.lamps := rfl
@[simp] theorem State.setStore_tacho (x : ConfigStore) : (s.setStore x).tacho = s.tacho := rfl
@[simp] theorem State.setStore_cycle (x : ConfigStore) : (s.setStore x).cycle = s.cycle := rfl
@[simp] theorem State.setStore_ports (x : ConfigStore) : (s.setStore x).ports = s.ports := rfl
@[simp] theorem State.setStore_store (x : ConfigStore) : (s.setStore x).store = x := rfl
@[simp] theorem State.setStore_conditions (x : ConfigStore) : (s.setStore x).conditions = s.conditions := rfl
@[simp] theorem State.setStore_pending (x : ConfigStore) : (s.setStore x).pending = s.pending := rfl

/-! ## State.setConditions -/

@[simp] theorem State.setConditions_signals (x : Vector Bool 14) : (s.setConditions x).signals = s.signals := rfl
@[simp] theorem State.setConditions_pulse (x : Vector Bool 14) : (s.setConditions x).pulse = s.pulse := rfl
@[simp] theorem State.setConditions_dist (x : Vector Bool 14) : (s.setConditions x).dist = s.dist := rfl
@[simp] theorem State.setConditions_conv (x : Vector Bool 14) : (s.setConditions x).conv = s.conv := rfl
@[simp] theorem State.setConditions_switches (x : Vector Bool 14) : (s.setConditions x).switches = s.switches := rfl
@[simp] theorem State.setConditions_gauges (x : Vector Bool 14) : (s.setConditions x).gauges = s.gauges := rfl
@[simp] theorem State.setConditions_lamps (x : Vector Bool 14) : (s.setConditions x).lamps = s.lamps := rfl
@[simp] theorem State.setConditions_tacho (x : Vector Bool 14) : (s.setConditions x).tacho = s.tacho := rfl
@[simp] theorem State.setConditions_cycle (x : Vector Bool 14) : (s.setConditions x).cycle = s.cycle := rfl
@[simp] theorem State.setConditions_ports (x : Vector Bool 14) : (s.setConditions x).ports = s.ports := rfl
@[simp] theorem State.setConditions_store (x : Vector Bool 14) : (s.setConditions x).store = s.store := rfl
@[simp] theorem State.setConditions_conditions (x : Vector Bool 14) : (s.setConditions x).conditions = x := rfl
@[simp] theorem State.setConditions_pending (x : Vector Bool 14) : (s.setConditions x).pending = s.pending := rfl

/-! ## State.setPending -/

@[simp] theorem State.setPending_signals (x : List Instr) : (s.setPending x).signals = s.signals := rfl
@[simp] theorem State.setPending_pulse (x : List Instr) : (s.setPending x).pulse = s.pulse := rfl
@[simp] theorem State.setPending_dist (x : List Instr) : (s.setPending x).dist = s.dist := rfl
@[simp] theorem State.setPending_conv (x : List Instr) : (s.setPending x).conv = s.conv := rfl
@[simp] theorem State.setPending_switches (x : List Instr) : (s.setPending x).switches = s.switches := rfl
@[simp] theorem State.setPending_gauges (x : List Instr) : (s.setPending x).gauges = s.gauges := rfl
@[simp] theorem State.setPending_lamps (x : List Instr) : (s.setPending x).lamps = s.lamps := rfl
@[simp] theorem State.setPending_tacho (x : List Instr) : (s.setPending x).tacho = s.tacho := rfl
@[simp] theorem State.setPending_cycle (x : List Instr) : (s.setPending x).cycle = s.cycle := rfl
@[simp] theorem State.setPending_ports (x : List Instr) : (s.setPending x).ports = s.ports := rfl
@[simp] theorem State.setPending_store (x : List Instr) : (s.setPending x).store = s.store := rfl
@[simp] theorem State.setPending_conditions (x : List Instr) : (s.setPending x).conditions = s.conditions := rfl
@[simp] theorem State.setPending_pending (x : List Instr) : (s.setPending x).pending = x := rfl

/-! ## setEntry -/

@[simp] theorem setEntry_signals (i : Fin 64) (e : Entry) : (setEntry i e s).signals = s.signals.set i e := rfl
@[simp] theorem setEntry_pulse (i : Fin 64) (e : Entry) : (setEntry i e s).pulse = s.pulse := rfl
@[simp] theorem setEntry_dist (i : Fin 64) (e : Entry) : (setEntry i e s).dist = s.dist := rfl
@[simp] theorem setEntry_conv (i : Fin 64) (e : Entry) : (setEntry i e s).conv = s.conv := rfl
@[simp] theorem setEntry_switches (i : Fin 64) (e : Entry) : (setEntry i e s).switches = s.switches := rfl
@[simp] theorem setEntry_gauges (i : Fin 64) (e : Entry) : (setEntry i e s).gauges = s.gauges := rfl
@[simp] theorem setEntry_lamps (i : Fin 64) (e : Entry) : (setEntry i e s).lamps = s.lamps := rfl
@[simp] theorem setEntry_tacho (i : Fin 64) (e : Entry) : (setEntry i e s).tacho = s.tacho := rfl
@[simp] theorem setEntry_cycle (i : Fin 64) (e : Entry) : (setEntry i e s).cycle = s.cycle := rfl
@[simp] theorem setEntry_ports (i : Fin 64) (e : Entry) : (setEntry i e s).ports = s.ports := rfl
@[simp] theorem setEntry_store (i : Fin 64) (e : Entry) : (setEntry i e s).store = s.store := rfl
@[simp] theorem setEntry_conditions (i : Fin 64) (e : Entry) : (setEntry i e s).conditions = s.conditions := rfl
@[simp] theorem setEntry_pending (i : Fin 64) (e : Entry) : (setEntry i e s).pending = s.pending := rfl

/-! ## setChannel -/

@[simp] theorem setChannel_signals (i : Fin 4) (x : PulseChannel) : (setChannel i x s).signals = s.signals := rfl
@[simp] theorem setChannel_pulse (i : Fin 4) (x : PulseChannel) : (setChannel i x s).pulse = s.pulse.set i x := rfl
@[simp] theorem setChannel_dist (i : Fin 4) (x : PulseChannel) : (setChannel i x s).dist = s.dist := rfl
@[simp] theorem setChannel_conv (i : Fin 4) (x : PulseChannel) : (setChannel i x s).conv = s.conv := rfl
@[simp] theorem setChannel_switches (i : Fin 4) (x : PulseChannel) : (setChannel i x s).switches = s.switches := rfl
@[simp] theorem setChannel_gauges (i : Fin 4) (x : PulseChannel) : (setChannel i x s).gauges = s.gauges := rfl
@[simp] theorem setChannel_lamps (i : Fin 4) (x : PulseChannel) : (setChannel i x s).lamps = s.lamps := rfl
@[simp] theorem setChannel_tacho (i : Fin 4) (x : PulseChannel) : (setChannel i x s).tacho = s.tacho := rfl
@[simp] theorem setChannel_cycle (i : Fin 4) (x : PulseChannel) : (setChannel i x s).cycle = s.cycle := rfl
@[simp] theorem setChannel_ports (i : Fin 4) (x : PulseChannel) : (setChannel i x s).ports = s.ports := rfl
@[simp] theorem setChannel_store (i : Fin 4) (x : PulseChannel) : (setChannel i x s).store = s.store := rfl
@[simp] theorem setChannel_conditions (i : Fin 4) (x : PulseChannel) : (setChannel i x s).conditions = s.conditions := rfl
@[simp] theorem setChannel_pending (i : Fin 4) (x : PulseChannel) : (setChannel i x s).pending = s.pending := rfl

/-! ## setPass -/

@[simp] theorem setPass_signals (p : Option Pass) : (setPass p s).signals = s.signals := rfl
@[simp] theorem setPass_pulse (p : Option Pass) : (setPass p s).pulse = s.pulse := rfl
@[simp] theorem setPass_dist (p : Option Pass) : (setPass p s).dist = s.dist := rfl
@[simp] theorem setPass_conv (p : Option Pass) : (setPass p s).conv = { s.conv with pass := p } := rfl
@[simp] theorem setPass_switches (p : Option Pass) : (setPass p s).switches = s.switches := rfl
@[simp] theorem setPass_gauges (p : Option Pass) : (setPass p s).gauges = s.gauges := rfl
@[simp] theorem setPass_lamps (p : Option Pass) : (setPass p s).lamps = s.lamps := rfl
@[simp] theorem setPass_tacho (p : Option Pass) : (setPass p s).tacho = s.tacho := rfl
@[simp] theorem setPass_cycle (p : Option Pass) : (setPass p s).cycle = s.cycle := rfl
@[simp] theorem setPass_ports (p : Option Pass) : (setPass p s).ports = s.ports := rfl
@[simp] theorem setPass_store (p : Option Pass) : (setPass p s).store = s.store := rfl
@[simp] theorem setPass_conditions (p : Option Pass) : (setPass p s).conditions = s.conditions := rfl
@[simp] theorem setPass_pending (p : Option Pass) : (setPass p s).pending = s.pending := rfl

/-! ## setScanState -/

@[simp] theorem setScanState_signals (i : Fin 16) (z : ScanState) : (setScanState i z s).signals = s.signals := rfl
@[simp] theorem setScanState_pulse (i : Fin 16) (z : ScanState) : (setScanState i z s).pulse = s.pulse := rfl
@[simp] theorem setScanState_dist (i : Fin 16) (z : ScanState) : (setScanState i z s).dist = s.dist := rfl
@[simp] theorem setScanState_conv (i : Fin 16) (z : ScanState) : (setScanState i z s).conv = { s.conv with slots := s.conv.slots.set i z } := rfl
@[simp] theorem setScanState_switches (i : Fin 16) (z : ScanState) : (setScanState i z s).switches = s.switches := rfl
@[simp] theorem setScanState_gauges (i : Fin 16) (z : ScanState) : (setScanState i z s).gauges = s.gauges := rfl
@[simp] theorem setScanState_lamps (i : Fin 16) (z : ScanState) : (setScanState i z s).lamps = s.lamps := rfl
@[simp] theorem setScanState_tacho (i : Fin 16) (z : ScanState) : (setScanState i z s).tacho = s.tacho := rfl
@[simp] theorem setScanState_cycle (i : Fin 16) (z : ScanState) : (setScanState i z s).cycle = s.cycle := rfl
@[simp] theorem setScanState_ports (i : Fin 16) (z : ScanState) : (setScanState i z s).ports = s.ports := rfl
@[simp] theorem setScanState_store (i : Fin 16) (z : ScanState) : (setScanState i z s).store = s.store := rfl
@[simp] theorem setScanState_conditions (i : Fin 16) (z : ScanState) : (setScanState i z s).conditions = s.conditions := rfl
@[simp] theorem setScanState_pending (i : Fin 16) (z : ScanState) : (setScanState i z s).pending = s.pending := rfl

/-! ## setInput -/

@[simp] theorem setInput_signals (i : Fin 24) (x : SwitchInput) : (setInput i x s).signals = s.signals := rfl
@[simp] theorem setInput_pulse (i : Fin 24) (x : SwitchInput) : (setInput i x s).pulse = s.pulse := rfl
@[simp] theorem setInput_dist (i : Fin 24) (x : SwitchInput) : (setInput i x s).dist = s.dist := rfl
@[simp] theorem setInput_conv (i : Fin 24) (x : SwitchInput) : (setInput i x s).conv = s.conv := rfl
@[simp] theorem setInput_switches (i : Fin 24) (x : SwitchInput) : (setInput i x s).switches = { s.switches with inputs := s.switches.inputs.set i x } := rfl
@[simp] theorem setInput_gauges (i : Fin 24) (x : SwitchInput) : (setInput i x s).gauges = s.gauges := rfl
@[simp] theorem setInput_lamps (i : Fin 24) (x : SwitchInput) : (setInput i x s).lamps = s.lamps := rfl
@[simp] theorem setInput_tacho (i : Fin 24) (x : SwitchInput) : (setInput i x s).tacho = s.tacho := rfl
@[simp] theorem setInput_cycle (i : Fin 24) (x : SwitchInput) : (setInput i x s).cycle = s.cycle := rfl
@[simp] theorem setInput_ports (i : Fin 24) (x : SwitchInput) : (setInput i x s).ports = s.ports := rfl
@[simp] theorem setInput_store (i : Fin 24) (x : SwitchInput) : (setInput i x s).store = s.store := rfl
@[simp] theorem setInput_conditions (i : Fin 24) (x : SwitchInput) : (setInput i x s).conditions = s.conditions := rfl
@[simp] theorem setInput_pending (i : Fin 24) (x : SwitchInput) : (setInput i x s).pending = s.pending := rfl

/-! ## setPort -/

@[simp] theorem setPort_signals (p : Port) (x : PortState) : (setPort p x s).signals = s.signals := rfl
@[simp] theorem setPort_pulse (p : Port) (x : PortState) : (setPort p x s).pulse = s.pulse := rfl
@[simp] theorem setPort_dist (p : Port) (x : PortState) : (setPort p x s).dist = s.dist := rfl
@[simp] theorem setPort_conv (p : Port) (x : PortState) : (setPort p x s).conv = s.conv := rfl
@[simp] theorem setPort_switches (p : Port) (x : PortState) : (setPort p x s).switches = s.switches := rfl
@[simp] theorem setPort_gauges (p : Port) (x : PortState) : (setPort p x s).gauges = s.gauges := rfl
@[simp] theorem setPort_lamps (p : Port) (x : PortState) : (setPort p x s).lamps = s.lamps := rfl
@[simp] theorem setPort_tacho (p : Port) (x : PortState) : (setPort p x s).tacho = s.tacho := rfl
@[simp] theorem setPort_cycle (p : Port) (x : PortState) : (setPort p x s).cycle = s.cycle := rfl
@[simp] theorem setPort_ports (p : Port) (x : PortState) : (setPort p x s).ports = s.ports.setPort p x := rfl
@[simp] theorem setPort_store (p : Port) (x : PortState) : (setPort p x s).store = s.store := rfl
@[simp] theorem setPort_conditions (p : Port) (x : PortState) : (setPort p x s).conditions = s.conditions := rfl
@[simp] theorem setPort_pending (p : Port) (x : PortState) : (setPort p x s).pending = s.pending := rfl

/-! ## setReceiver -/

@[simp] theorem setReceiver_signals (r : Receiver) : (setReceiver r s).signals = s.signals := rfl
@[simp] theorem setReceiver_pulse (r : Receiver) : (setReceiver r s).pulse = s.pulse := rfl
@[simp] theorem setReceiver_dist (r : Receiver) : (setReceiver r s).dist = s.dist := rfl
@[simp] theorem setReceiver_conv (r : Receiver) : (setReceiver r s).conv = s.conv := rfl
@[simp] theorem setReceiver_switches (r : Receiver) : (setReceiver r s).switches = s.switches := rfl
@[simp] theorem setReceiver_gauges (r : Receiver) : (setReceiver r s).gauges = s.gauges := rfl
@[simp] theorem setReceiver_lamps (r : Receiver) : (setReceiver r s).lamps = s.lamps := rfl
@[simp] theorem setReceiver_tacho (r : Receiver) : (setReceiver r s).tacho = s.tacho := rfl
@[simp] theorem setReceiver_cycle (r : Receiver) : (setReceiver r s).cycle = s.cycle := rfl
@[simp] theorem setReceiver_store (r : Receiver) : (setReceiver r s).store = s.store := rfl
@[simp] theorem setReceiver_conditions (r : Receiver) : (setReceiver r s).conditions = s.conditions := rfl
@[simp] theorem setReceiver_pending (r : Receiver) : (setReceiver r s).pending = s.pending := rfl

/-! ## mapExec -/

@[simp] theorem mapExec_signals (f : FrameExec → FrameExec) (p : Port) : (mapExec f p s).signals = s.signals := rfl
@[simp] theorem mapExec_pulse (f : FrameExec → FrameExec) (p : Port) : (mapExec f p s).pulse = s.pulse := rfl
@[simp] theorem mapExec_dist (f : FrameExec → FrameExec) (p : Port) : (mapExec f p s).dist = s.dist := rfl
@[simp] theorem mapExec_conv (f : FrameExec → FrameExec) (p : Port) : (mapExec f p s).conv = s.conv := rfl
@[simp] theorem mapExec_switches (f : FrameExec → FrameExec) (p : Port) : (mapExec f p s).switches = s.switches := rfl
@[simp] theorem mapExec_gauges (f : FrameExec → FrameExec) (p : Port) : (mapExec f p s).gauges = s.gauges := rfl
@[simp] theorem mapExec_lamps (f : FrameExec → FrameExec) (p : Port) : (mapExec f p s).lamps = s.lamps := rfl
@[simp] theorem mapExec_tacho (f : FrameExec → FrameExec) (p : Port) : (mapExec f p s).tacho = s.tacho := rfl
@[simp] theorem mapExec_cycle (f : FrameExec → FrameExec) (p : Port) : (mapExec f p s).cycle = s.cycle := rfl
@[simp] theorem mapExec_store (f : FrameExec → FrameExec) (p : Port) : (mapExec f p s).store = s.store := rfl
@[simp] theorem mapExec_conditions (f : FrameExec → FrameExec) (p : Port) : (mapExec f p s).conditions = s.conditions := rfl
@[simp] theorem mapExec_pending (f : FrameExec → FrameExec) (p : Port) : (mapExec f p s).pending = s.pending := rfl

/-! ## setCursor -/

@[simp] theorem setCursor_signals (p : Port) (r : Region) (i : Nat) : (setCursor p r i s).signals = s.signals := rfl
@[simp] theorem setCursor_pulse (p : Port) (r : Region) (i : Nat) : (setCursor p r i s).pulse = s.pulse := rfl
@[simp] theorem setCursor_dist (p : Port) (r : Region) (i : Nat) : (setCursor p r i s).dist = s.dist := rfl
@[simp] theorem setCursor_conv (p : Port) (r : Region) (i : Nat) : (setCursor p r i s).conv = s.conv := rfl
@[simp] theorem setCursor_switches (p : Port) (r : Region) (i : Nat) : (setCursor p r i s).switches = s.switches := rfl
@[simp] theorem setCursor_gauges (p : Port) (r : Region) (i : Nat) : (setCursor p r i s).gauges = s.gauges := rfl
@[simp] theorem setCursor_lamps (p : Port) (r : Region) (i : Nat) : (setCursor p r i s).lamps = s.lamps := rfl
@[simp] theorem setCursor_tacho (p : Port) (r : Region) (i : Nat) : (setCursor p r i s).tacho = s.tacho := rfl
@[simp] theorem setCursor_cycle (p : Port) (r : Region) (i : Nat) : (setCursor p r i s).cycle = s.cycle := rfl
@[simp] theorem setCursor_store (p : Port) (r : Region) (i : Nat) : (setCursor p r i s).store = s.store := rfl
@[simp] theorem setCursor_conditions (p : Port) (r : Region) (i : Nat) : (setCursor p r i s).conditions = s.conditions := rfl
@[simp] theorem setCursor_pending (p : Port) (r : Region) (i : Nat) : (setCursor p r i s).pending = s.pending := rfl

/-! ## mapPorts -/

@[simp] theorem mapPorts_signals (f : PortState → PortState) : (mapPorts f s).signals = s.signals := rfl
@[simp] theorem mapPorts_pulse (f : PortState → PortState) : (mapPorts f s).pulse = s.pulse := rfl
@[simp] theorem mapPorts_dist (f : PortState → PortState) : (mapPorts f s).dist = s.dist := rfl
@[simp] theorem mapPorts_conv (f : PortState → PortState) : (mapPorts f s).conv = s.conv := rfl
@[simp] theorem mapPorts_switches (f : PortState → PortState) : (mapPorts f s).switches = s.switches := rfl
@[simp] theorem mapPorts_gauges (f : PortState → PortState) : (mapPorts f s).gauges = s.gauges := rfl
@[simp] theorem mapPorts_lamps (f : PortState → PortState) : (mapPorts f s).lamps = s.lamps := rfl
@[simp] theorem mapPorts_tacho (f : PortState → PortState) : (mapPorts f s).tacho = s.tacho := rfl
@[simp] theorem mapPorts_cycle (f : PortState → PortState) : (mapPorts f s).cycle = s.cycle := rfl
@[simp] theorem mapPorts_store (f : PortState → PortState) : (mapPorts f s).store = s.store := rfl
@[simp] theorem mapPorts_conditions (f : PortState → PortState) : (mapPorts f s).conditions = s.conditions := rfl
@[simp] theorem mapPorts_pending (f : PortState → PortState) : (mapPorts f s).pending = s.pending := rfl

/-! ## signalEvent -/

@[simp] theorem signalEvent_signals (ev : WaitEvent) : (signalEvent ev s).signals = s.signals := rfl
@[simp] theorem signalEvent_pulse (ev : WaitEvent) : (signalEvent ev s).pulse = s.pulse := rfl
@[simp] theorem signalEvent_dist (ev : WaitEvent) : (signalEvent ev s).dist = s.dist := rfl
@[simp] theorem signalEvent_conv (ev : WaitEvent) : (signalEvent ev s).conv = s.conv := rfl
@[simp] theorem signalEvent_switches (ev : WaitEvent) : (signalEvent ev s).switches = s.switches := rfl
@[simp] theorem signalEvent_gauges (ev : WaitEvent) : (signalEvent ev s).gauges = s.gauges := rfl
@[simp] theorem signalEvent_lamps (ev : WaitEvent) : (signalEvent ev s).lamps = s.lamps := rfl
@[simp] theorem signalEvent_tacho (ev : WaitEvent) : (signalEvent ev s).tacho = s.tacho := rfl
@[simp] theorem signalEvent_cycle (ev : WaitEvent) : (signalEvent ev s).cycle = s.cycle := rfl
@[simp] theorem signalEvent_store (ev : WaitEvent) : (signalEvent ev s).store = s.store := rfl
@[simp] theorem signalEvent_conditions (ev : WaitEvent) : (signalEvent ev s).conditions = s.conditions := rfl
@[simp] theorem signalEvent_pending (ev : WaitEvent) : (signalEvent ev s).pending = s.pending := rfl

/-! ## raiseItem -/

@[simp] theorem raiseItem_signals (item : Fin 113) : (raiseItem item s).signals = s.signals := rfl
@[simp] theorem raiseItem_pulse (item : Fin 113) : (raiseItem item s).pulse = s.pulse := rfl
@[simp] theorem raiseItem_dist (item : Fin 113) : (raiseItem item s).dist = s.dist := rfl
@[simp] theorem raiseItem_conv (item : Fin 113) : (raiseItem item s).conv = s.conv := rfl
@[simp] theorem raiseItem_switches (item : Fin 113) : (raiseItem item s).switches = s.switches := rfl
@[simp] theorem raiseItem_gauges (item : Fin 113) : (raiseItem item s).gauges = s.gauges := rfl
@[simp] theorem raiseItem_lamps (item : Fin 113) : (raiseItem item s).lamps = s.lamps := rfl
@[simp] theorem raiseItem_tacho (item : Fin 113) : (raiseItem item s).tacho = s.tacho := rfl
@[simp] theorem raiseItem_cycle (item : Fin 113) : (raiseItem item s).cycle = s.cycle := rfl
@[simp] theorem raiseItem_store (item : Fin 113) : (raiseItem item s).store = s.store := rfl
@[simp] theorem raiseItem_conditions (item : Fin 113) : (raiseItem item s).conditions = s.conditions := rfl
@[simp] theorem raiseItem_pending (item : Fin 113) : (raiseItem item s).pending = s.pending := rfl

/-! ## setCond -/

@[simp] theorem setCond_signals (c : Condition) (b : Bool) : (setCond c b s).signals = s.signals := rfl
@[simp] theorem setCond_pulse (c : Condition) (b : Bool) : (setCond c b s).pulse = s.pulse := rfl
@[simp] theorem setCond_dist (c : Condition) (b : Bool) : (setCond c b s).dist = s.dist := rfl
@[simp] theorem setCond_conv (c : Condition) (b : Bool) : (setCond c b s).conv = s.conv := rfl
@[simp] theorem setCond_switches (c : Condition) (b : Bool) : (setCond c b s).switches = s.switches := rfl
@[simp] theorem setCond_gauges (c : Condition) (b : Bool) : (setCond c b s).gauges = s.gauges := rfl
@[simp] theorem setCond_lamps (c : Condition) (b : Bool) : (setCond c b s).lamps = s.lamps := rfl
@[simp] theorem setCond_tacho (c : Condition) (b : Bool) : (setCond c b s).tacho = s.tacho := rfl
@[simp] theorem setCond_cycle (c : Condition) (b : Bool) : (setCond c b s).cycle = s.cycle := rfl
@[simp] theorem setCond_ports (c : Condition) (b : Bool) : (setCond c b s).ports = s.ports := rfl
@[simp] theorem setCond_store (c : Condition) (b : Bool) : (setCond c b s).store = s.store := rfl
@[simp] theorem setCond_conditions (c : Condition) (b : Bool) : (setCond c b s).conditions = s.conditions.set c.index b := rfl
@[simp] theorem setCond_pending (c : Condition) (b : Bool) : (setCond c b s).pending = s.pending := rfl

/-! ## changeCycle -/

@[simp] theorem changeCycle_signals (c : CycleState) : (changeCycle c s).signals = s.signals := rfl
@[simp] theorem changeCycle_pulse (c : CycleState) : (changeCycle c s).pulse = s.pulse := rfl
@[simp] theorem changeCycle_dist (c : CycleState) : (changeCycle c s).dist = s.dist := rfl
@[simp] theorem changeCycle_conv (c : CycleState) : (changeCycle c s).conv = s.conv := rfl
@[simp] theorem changeCycle_switches (c : CycleState) : (changeCycle c s).switches = s.switches := rfl
@[simp] theorem changeCycle_gauges (c : CycleState) : (changeCycle c s).gauges = s.gauges := rfl
@[simp] theorem changeCycle_lamps (c : CycleState) : (changeCycle c s).lamps = s.lamps := rfl
@[simp] theorem changeCycle_tacho (c : CycleState) : (changeCycle c s).tacho = s.tacho := rfl
@[simp] theorem changeCycle_store (c : CycleState) : (changeCycle c s).store = s.store := rfl
@[simp] theorem changeCycle_conditions (c : CycleState) : (changeCycle c s).conditions = s.conditions := rfl
@[simp] theorem changeCycle_pending (c : CycleState) : (changeCycle c s).pending = s.pending := rfl

@[simp] theorem changeCycle_cycle (c : CycleState) : (changeCycle c s).cycle = { s.cycle with state := c } := rfl

end Sys2Proof.Machine
end

