-- ==== Sys2Proof/Laws/Ports.lean ====
section
/-! SUPPORT. The controller conditions and the ports read after each operation, what a port keeps when it takes notices and events, and the
loops over a bank. -/

namespace Sys2Proof.Machine

variable (s : State)

/-! ## Loops -/

/-- What every step of a loop brings about, the whole loop brings about. -/
theorem foldl_rel {α : Type} {R : State → State → Prop} (refl : ∀ s, R s s) (trans : ∀ a b c, R a b → R b c → R a c)
    (f : State → α → State) (h : ∀ s i, R s (f s i)) (l : List α) : ∀ s, R s (l.foldl f s) := by
  induction l with
  | nil => exact refl
  | cons i l ih => exact fun s => trans _ _ _ (h s i) (ih _)

/-- See `foldl_rel`. -/
theorem forAll_rel {n : Nat} {R : State → State → Prop} (refl : ∀ s, R s s) (trans : ∀ a b c, R a b → R b c → R a c)
    (f : Fin n → State → State) (h : ∀ i s, R s (f i s)) (s : State) : R s (forAll n f s) :=
  foldl_rel refl trans _ (fun s i => h i s) _ s

/-- A property that every step of a loop keeps, the whole loop keeps. -/
theorem forAll_keeps {n : Nat} {P : State → Prop} (f : Fin n → State → State) (h : ∀ i s, P s → P (f i s)) (s : State) (hs : P s) :
    P (forAll n f s) :=
  forAll_rel (R := fun s t => P s → P t) (fun _ => id) (fun _ _ _ h1 h2 => h2 ∘ h1) f h s hs

/-! ## Conditions -/

theorem Condition.index_inj : ∀ {c d : Condition}, c.index = d.index → c = d := by
  intro c d; cases c <;> cases d <;> decide

/-- A condition after another was set: the one set, or as before. -/
@[simp] theorem cond_setCond (c d : Condition) (b : Bool) : (setCond c b s).cond d = if d = c then b else s.cond d := by
  unfold State.cond
  simp only [setCond_conditions, Fin.getElem_fin, Vector.getElem_set]
  by_cases h : d = c
  · subst h; simp
  · have : (c.index : Nat) ≠ d.index := fun e => h (Condition.index_inj (Fin.ext e.symm))
    simp [h, this]

@[simp] theorem cond_setSignals (x : Vector Entry 64) (d : Condition) : (s.setSignals x).cond d = s.cond d := rfl
@[simp] theorem cond_setPulse (x : Vector PulseChannel 4) (d : Condition) : (s.setPulse x).cond d = s.cond d := rfl
@[simp] theorem cond_setDist (x : Distance) (d : Condition) : (s.setDist x).cond d = s.cond d := rfl
@[simp] theorem cond_setConv (x : Converter) (d : Condition) : (s.setConv x).cond d = s.cond d := rfl
@[simp] theorem cond_setSwitches (x : SwitchBank) (d : Condition) : (s.setSwitches x).cond d = s.cond d := rfl
@[simp] theorem cond_setGauges (x : Vector Gauge 6) (d : Condition) : (s.setGauges x).cond d = s.cond d := rfl
@[simp] theorem cond_setLamps (x : TelltaleUnit) (d : Condition) : (s.setLamps x).cond d = s.cond d := rfl
@[simp] theorem cond_setTacho (x : Readout) (d : Condition) : (s.setTacho x).cond d = s.cond d := rfl
@[simp] theorem cond_setCycle (x : CycleController) (d : Condition) : (s.setCycle x).cond d = s.cond d := rfl
@[simp] theorem cond_setPorts (x : LinkInterface) (d : Condition) : (s.setPorts x).cond d = s.cond d := rfl
@[simp] theorem cond_setStore (x : ConfigStore) (d : Condition) : (s.setStore x).cond d = s.cond d := rfl
@[simp] theorem cond_setPending (x : List Instr) (d : Condition) : (s.setPending x).cond d = s.cond d := rfl
@[simp] theorem cond_setEntry (i : Fin 64) (e : Entry) (d : Condition) : (setEntry i e s).cond d = s.cond d := rfl
@[simp] theorem cond_setChannel (i : Fin 4) (x : PulseChannel) (d : Condition) : (setChannel i x s).cond d = s.cond d := rfl
@[simp] theorem cond_setPass (p : Option Pass) (d : Condition) : (setPass p s).cond d = s.cond d := rfl
@[simp] theorem cond_setScanState (i : Fin 16) (z : ScanState) (d : Condition) : (setScanState i z s).cond d = s.cond d := rfl
@[simp] theorem cond_setInput (i : Fin 24) (x : SwitchInput) (d : Condition) : (setInput i x s).cond d = s.cond d := rfl
@[simp] theorem cond_setPort (p : Port) (x : PortState) (d : Condition) : (setPort p x s).cond d = s.cond d := rfl
@[simp] theorem cond_setReceiver (r : Receiver) (d : Condition) : (setReceiver r s).cond d = s.cond d := rfl
@[simp] theorem cond_mapExec (f : FrameExec → FrameExec) (p : Port) (d : Condition) : (mapExec f p s).cond d = s.cond d := rfl
@[simp] theorem cond_mapPorts (f : PortState → PortState) (d : Condition) : (mapPorts f s).cond d = s.cond d := rfl
@[simp] theorem cond_signalEvent (ev : WaitEvent) (d : Condition) : (signalEvent ev s).cond d = s.cond d := rfl
@[simp] theorem cond_raiseItem (i : Fin 113) (d : Condition) : (raiseItem i s).cond d = s.cond d := rfl
@[simp] theorem cond_changeCycle (c : CycleState) (d : Condition) : (changeCycle c s).cond d = s.cond d := rfl

/-! ## Ports -/

/-- A port after one port was replaced. -/
@[simp] theorem port_setPort (p q : Port) (x : PortState) : (setPort p x s).port q = if q = p then x else s.port q := by
  cases p <;> cases q <;> rfl

@[simp] theorem bitRate_setPort (p : Port) (x : PortState) : (setPort p x s).ports.bitRate = s.ports.bitRate := by cases p <;> rfl

/-- A port after every port was changed in the same way. -/
@[simp] theorem port_mapPorts (f : PortState → PortState) (q : Port) : (mapPorts f s).port q = f (s.port q) := by cases q <;> rfl

@[simp] theorem bitRate_mapPorts (f : PortState → PortState) : (mapPorts f s).ports.bitRate = s.ports.bitRate := rfl
@[simp] theorem port_signalEvent (ev : WaitEvent) (q : Port) : (signalEvent ev s).port q = (s.port q).signal ev := port_mapPorts ..
@[simp] theorem port_raiseItem (i : Fin 113) (q : Port) : (raiseItem i s).port q = (s.port q).notice i := port_mapPorts ..
@[simp] theorem bitRate_signalEvent (ev : WaitEvent) : (signalEvent ev s).ports.bitRate = s.ports.bitRate := rfl
@[simp] theorem bitRate_raiseItem (i : Fin 113) : (raiseItem i s).ports.bitRate = s.ports.bitRate := rfl

/-- The frame in execution at a port after it was changed. -/
@[simp] theorem port_mapExec (f : FrameExec → FrameExec) (p q : Port) :
    (mapExec f p s).port q = if q = p then { s.port p with exec := (s.port p).exec.map f } else s.port q := port_setPort ..

@[simp] theorem port_setCursor (p q : Port) (r : Region) (i : Nat) :
    (setCursor p r i s).port q = if q = p then { s.port p with cursors := (s.port p).cursors.set r.number i } else s.port q :=
  port_setPort ..

@[simp] theorem port_changeCycle (c : CycleState) (q : Port) : (changeCycle c s).port q = (s.port q).signal .cycle := port_mapPorts ..

@[simp] theorem port_setSignals (x : Vector Entry 64) (q : Port) : (s.setSignals x).port q = s.port q := rfl
@[simp] theorem port_setPulse (x : Vector PulseChannel 4) (q : Port) : (s.setPulse x).port q = s.port q := rfl
@[simp] theorem port_setDist (x : Distance) (q : Port) : (s.setDist x).port q = s.port q := rfl
@[simp] theorem port_setConv (x : Converter) (q : Port) : (s.setConv x).port q = s.port q := rfl
@[simp] theorem port_setSwitches (x : SwitchBank) (q : Port) : (s.setSwitches x).port q = s.port q := rfl
@[simp] theorem port_setGauges (x : Vector Gauge 6) (q : Port) : (s.setGauges x).port q = s.port q := rfl
@[simp] theorem port_setLamps (x : TelltaleUnit) (q : Port) : (s.setLamps x).port q = s.port q := rfl
@[simp] theorem port_setTacho (x : Readout) (q : Port) : (s.setTacho x).port q = s.port q := rfl
@[simp] theorem port_setCycle (x : CycleController) (q : Port) : (s.setCycle x).port q = s.port q := rfl
@[simp] theorem port_setStore (x : ConfigStore) (q : Port) : (s.setStore x).port q = s.port q := rfl
@[simp] theorem port_setConditions (x : Vector Bool 14) (q : Port) : (s.setConditions x).port q = s.port q := rfl
@[simp] theorem port_setPending (x : List Instr) (q : Port) : (s.setPending x).port q = s.port q := rfl
@[simp] theorem port_setEntry (i : Fin 64) (e : Entry) (q : Port) : (setEntry i e s).port q = s.port q := rfl
@[simp] theorem port_setChannel (i : Fin 4) (x : PulseChannel) (q : Port) : (setChannel i x s).port q = s.port q := rfl
@[simp] theorem port_setPass (p : Option Pass) (q : Port) : (setPass p s).port q = s.port q := rfl
@[simp] theorem port_setScanState (i : Fin 16) (z : ScanState) (q : Port) : (setScanState i z s).port q = s.port q := rfl
@[simp] theorem port_setInput (i : Fin 24) (x : SwitchInput) (q : Port) : (setInput i x s).port q = s.port q := rfl
@[simp] theorem port_setCond (c : Condition) (b : Bool) (q : Port) : (setCond c b s).port q = s.port q := rfl

/-- Two link interfaces with the same ports and rate are the same. -/
theorem ports_ext {l m : LinkInterface} (h : ∀ p, l.port p = m.port p) (hb : l.bitRate = m.bitRate) : l = m := by
  have hd := h .dlink; have hn := h .nlink; have ht := h .tlink
  cases l; cases m; simp_all [LinkInterface.port]

/-! ## What a port keeps when it takes notices and events -/

/-- A frame keeps all but its hold and its results. -/
structure FrameKept (f g : FrameExec) : Prop where
  sequence : g.sequence = f.sequence
  rest : g.rest = f.rest
  room : g.room = f.room
  commit : g.commit = f.commit
  hold : g.hold = f.hold ∨ g.hold = none

/-- A port keeps all but its change list, which grows at its tail by watched items, and a hold, which may end. -/
structure PortKept (x y : PortState) : Prop where
  link : y.link = x.link
  linkTimer : y.linkTimer = x.linkTimer
  timeout : y.timeout = x.timeout
  period : y.period = x.period
  receiver : y.receiver = x.receiver
  reply : y.reply = x.reply
  cursors : y.cursors = x.cursors
  watch : y.watch = x.watch
  counters : y.counters = x.counters
  isSome : y.exec.isSome = x.exec.isSome
  exec : ∀ f, x.exec = some f → ∃ g, y.exec = some g ∧ FrameKept f g
  changes : ∃ l, y.changes = x.changes ++ l
  legal : x.listLegal → y.listLegal

theorem FrameKept.refl (f : FrameExec) : FrameKept f f := ⟨rfl, rfl, rfl, rfl, .inl rfl⟩

theorem FrameKept.trans {f g h : FrameExec} (a : FrameKept f g) (b : FrameKept g h) : FrameKept f h :=
  ⟨b.sequence.trans a.sequence, b.rest.trans a.rest, b.room.trans a.room, b.commit.trans a.commit,
    b.hold.elim (fun e => e ▸ a.hold) .inr⟩

theorem PortKept.refl (x : PortState) : PortKept x x :=
  ⟨rfl, rfl, rfl, rfl, rfl, rfl, rfl, rfl, rfl, rfl, fun f h => ⟨f, h, .refl f⟩, ⟨[], by simp⟩, id⟩

theorem PortKept.trans {x y z : PortState} (a : PortKept x y) (b : PortKept y z) : PortKept x z where
  link := b.link.trans a.link
  linkTimer := b.linkTimer.trans a.linkTimer
  timeout := b.timeout.trans a.timeout
  period := b.period.trans a.period
  receiver := b.receiver.trans a.receiver
  reply := b.reply.trans a.reply
  cursors := b.cursors.trans a.cursors
  watch := b.watch.trans a.watch
  counters := b.counters.trans a.counters
  isSome := b.isSome.trans a.isSome
  exec f hf := by
    obtain ⟨g, hg, k⟩ := a.exec f hf
    obtain ⟨h, hh, k'⟩ := b.exec g hg
    exact ⟨h, hh, k.trans k'⟩
  changes := by
    obtain ⟨l, hl⟩ := a.changes
    obtain ⟨m, hm⟩ := b.changes
    exact ⟨l ++ m, by rw [hm, hl, List.append_assoc]⟩
  legal := b.legal ∘ a.legal

theorem PortState.signal_kept (ev : WaitEvent) (x : PortState) : PortKept x (x.signal ev) := by
  unfold PortState.signal
  cases hx : x.exec with
  | none => exact .refl x
  | some f =>
    rcases hh : f.hold with _ | ⟨w, tm⟩
    · simp only [hh]; exact .refl x
    · simp only [hh]
      split
      · refine ⟨rfl, rfl, rfl, rfl, rfl, rfl, rfl, rfl, rfl, by simp [hx], ?_, ⟨[], by simp⟩, id⟩
        intro f' hf'
        cases hx.symm.trans hf'
        exact ⟨_, rfl, rfl, rfl, rfl, rfl, .inr rfl⟩
      · exact .refl x

theorem PortState.notice_kept (i : Fin 113) (x : PortState) : PortKept x (x.notice i) := by
  unfold PortState.notice
  split
  · rename_i h
    simp only [Bool.and_eq_true, Bool.not_eq_true', List.contains_eq_mem, decide_eq_false_iff_not] at h
    refine PortKept.trans (y := { x with changes := x.changes ++ [i] }) ?_ (PortState.signal_kept _ _)
    refine ⟨rfl, rfl, rfl, rfl, rfl, rfl, rfl, rfl, rfl, rfl, fun f hf => ⟨f, hf, .refl f⟩, ⟨[i], rfl⟩, fun l => ⟨?_, ?_⟩⟩
    · exact List.nodup_append.2 ⟨l.1, by simp, fun a ha b hb => by simp at hb; subst hb; rintro rfl; exact h.2 ha⟩
    · intro j hj
      simp only [List.mem_append, List.mem_singleton] at hj
      rcases hj with hj | rfl
      · exact l.2 j hj
      · exact h.1
  · exact .refl x

theorem PortState.takeAll_kept (l : List PortEvent) : ∀ x : PortState, PortKept x (x.takeAll l) := by
  induction l with
  | nil => exact PortKept.refl
  | cons e l ih =>
    intro x
    refine PortKept.trans ?_ (ih (x.take e))
    cases e with
    | notice i => exact PortState.notice_kept i x
    | signal ev => exact PortState.signal_kept ev x

/-! ## PortsTook -/

theorem PortsTook.refl : PortsTook s s := ⟨rfl, [], fun _ => rfl⟩

theorem PortsTook.trans {s t u : State} : PortsTook s t → PortsTook t u → PortsTook s u
  | ⟨hb, l, hl⟩, ⟨hb', m, hm⟩ =>
    ⟨hb'.trans hb, l ++ m, fun p => by rw [hm p, hl p]; simp [PortState.takeAll, List.foldl_append]⟩

theorem PortsTook.of_ports {s t : State} (h : t.ports = s.ports) : PortsTook s t :=
  ⟨by rw [h], [], fun p => by simp [PortState.takeAll, State.port, h]⟩

/-- What the ports took depends on the ports alone. -/
theorem PortsTook.congr {s s' t t' : State} (h : s'.ports = s.ports) (h' : t'.ports = t.ports) (k : PortsTook s t) : PortsTook s' t' :=
  (PortsTook.of_ports h.symm).trans (k.trans (PortsTook.of_ports h'))

theorem PortsTook.raiseItem (i : Fin 113) : PortsTook s (raiseItem i s) := ⟨rfl, [.notice i], fun p => port_raiseItem s i p⟩

theorem PortsTook.signalEvent (ev : WaitEvent) : PortsTook s (signalEvent ev s) := ⟨rfl, [.signal ev], fun p => port_signalEvent s ev p⟩

theorem PortsTook.kept {s t : State} (h : PortsTook s t) (p : Port) : PortKept (s.port p) (t.port p) := by
  obtain ⟨-, l, hl⟩ := h
  exact hl p ▸ PortState.takeAll_kept l _

/-- An item that is watched is on the change list of the port once it has been noticed, whatever the port takes besides. -/
theorem PortKept.mem {x y : PortState} (h : PortKept x y) {i : Fin 113} (m : i ∈ x.changes) : i ∈ y.changes := by
  obtain ⟨l, hl⟩ := h.changes
  exact hl ▸ List.mem_append_left l m

theorem PortState.notice_mem (i : Fin 113) (x : PortState) (h : x.watch[i] = true) : i ∈ (x.notice i).changes := by
  unfold PortState.notice
  split
  · refine (PortState.signal_kept _ _).mem ?_
    simp
  · rename_i hc
    have h' : x.watch[i.val] = true := h
    simpa [h'] using hc

theorem noticed_raiseItem (i : Fin 113) : noticed i (raiseItem i s) := by
  intro p
  simp only [port_raiseItem, (PortState.notice_kept i (s.port p)).watch]
  exact PortState.notice_mem i _

/-- A noticed item stays noticed while the ports take more. -/
theorem noticed.took {i : Fin 113} {s t : State} (h : noticed i s) (k : PortsTook s t) : noticed i t := by
  intro p hp
  have := k.kept p
  exact this.mem (h p (this.watch ▸ hp))

/-! ## ReportedOnly -/

theorem PortState.signal_changes (ev : WaitEvent) (x : PortState) : (x.signal ev).changes = x.changes := by
  unfold PortState.signal
  repeat' split
  all_goals rfl

theorem PortState.notice_only (i : Fin 113) (x : PortState) {j : Fin 113} (h : j ∈ (x.notice i).changes) : j ∈ x.changes ∨ j = i := by
  unfold PortState.notice at h
  split at h
  · rw [PortState.signal_changes] at h
    simpa using h
  · exact .inl h

theorem ReportedOnly.refl (N : Fin 113 → Prop) : ReportedOnly N s s := fun _ _ h => .inl h

theorem ReportedOnly.trans {N : Fin 113 → Prop} {s t u : State} (a : ReportedOnly N s t) (b : ReportedOnly N t u) : ReportedOnly N s u :=
  fun p i h => (b p i h).elim (a p i) .inr

theorem ReportedOnly.mono {N M : Fin 113 → Prop} {s t : State} (a : ReportedOnly N s t) (h : ∀ i, N i → M i) : ReportedOnly M s t :=
  fun p i k => (a p i k).imp id (h i)

/-- Two that follow each other, each with its own items. -/
theorem ReportedOnly.trans' {N M K : Fin 113 → Prop} {s t u : State} (a : ReportedOnly N s t) (b : ReportedOnly M t u) (hN : ∀ i, N i → K i)
    (hM : ∀ i, M i → K i) : ReportedOnly K s u := (a.mono hN).trans (b.mono hM)

theorem ReportedOnly.of_changes {s t : State} (N : Fin 113 → Prop) (h : ∀ p i, i ∈ (t.port p).changes → i ∈ (s.port p).changes) : ReportedOnly N s t :=
  fun p i k => .inl (h p i k)

theorem ReportedOnly.of_ports {s t : State} (N : Fin 113 → Prop) (h : t.ports = s.ports) : ReportedOnly N s t :=
  .of_changes N fun p i k => by rwa [State.port, h] at k

theorem ReportedOnly.signalEvent (N : Fin 113 → Prop) (ev : WaitEvent) : ReportedOnly N s (signalEvent ev s) :=
  .of_changes N fun p i k => by rwa [port_signalEvent, PortState.signal_changes] at k

theorem ReportedOnly.raiseItem {N : Fin 113 → Prop} {i : Fin 113} (h : N i) : ReportedOnly N s (raiseItem i s) := fun p j k => by
  rw [port_raiseItem] at k
  exact (PortState.notice_only i _ k).imp id fun e => by rw [e]; exact h

/-- A port replaced by one that lists no other item. -/
theorem ReportedOnly.setPort (N : Fin 113 → Prop) {p : Port} {x : PortState} (h : ∀ i ∈ x.changes, i ∈ (s.port p).changes) :
    ReportedOnly N s (setPort p x s) := .of_changes N fun q i k => by
  rw [port_setPort] at k
  split at k
  · rename_i e; subst e; exact h i k
  · exact k

/-- What was reported depends on the ports alone. -/
theorem ReportedOnly.congr {N : Fin 113 → Prop} {s s' t t' : State} (h : s'.ports = s.ports) (h' : t'.ports = t.ports) (k : ReportedOnly N s t) :
    ReportedOnly N s' t' := ((ReportedOnly.of_ports N h.symm).trans k).trans (.of_ports N h')

theorem ReportedOnly.foldl {α : Type} {N : Fin 113 → Prop} (f : State → α → State) (h : ∀ s i, ReportedOnly N s (f s i)) (l : List α) :
    ReportedOnly N s (l.foldl f s) := foldl_rel (fun s => .refl s N) (fun _ _ _ => .trans) f h l s

theorem ReportedOnly.forAll {n : Nat} {N : Fin 113 → Prop} (f : Fin n → State → State) (h : ∀ i s, ReportedOnly N s (f i s)) :
    ReportedOnly N s (forAll n f s) := forAll_rel (fun s => .refl s N) (fun _ _ _ => .trans) f h s

/-! ## The items -/

theorem signalItem_inj {i j : Fin 64} (h : signalItem i = signalItem j) : i = j := Fin.ext (congrArg (fun k : Fin 113 => (k : Nat)) h)

theorem telltaleItem_inj {i j : Fin 40} (h : telltaleItem i = telltaleItem j) : i = j :=
  Fin.ext (Nat.add_left_cancel (congrArg (fun k : Fin 113 => (k : Nat)) h))

theorem gaugeItem_inj {i j : Fin 6} (h : gaugeItem i = gaugeItem j) : i = j :=
  Fin.ext (Nat.add_left_cancel (congrArg (fun k : Fin 113 => (k : Nat)) h))

theorem ofTable_signal (i : Fin 64) : ofTable (signalItem i) := .inl i.isLt

theorem ofTable_gauge (i : Fin 6) : ofTable (gaugeItem i) := .inr ⟨by simp [gaugeItem], by simp only [gaugeItem]; omega⟩

theorem not_ofTable_telltale (i : Fin 40) : ¬ ofTable (telltaleItem i) := by
  simp only [ofTable, telltaleItem, not_or, not_and, not_lt]; omega

theorem not_ofTable_tacho : ¬ ofTable tachoItem := by unfold ofTable; decide

theorem not_ofTable_distance : ¬ ofTable distanceItem := by unfold ofTable; decide

theorem not_ofTable_cycle : ¬ ofTable cycleItem := by unfold ofTable; decide

theorem signal_ne_gauge (e : Fin 64) (k : Fin 6) : signalItem e ≠ gaugeItem k := fun h => by
  have := congrArg Fin.val h
  simp only [signalItem, gaugeItem] at this
  omega

end Sys2Proof.Machine
end

