-- ==== Sys2Proof/Laws/EventEnd.lean ====
section
/-! SUPPORT. What the end of an event changes: the telltale unit's resolution (R117 to R132) and notices, and nothing else. -/

namespace Sys2Proof.Machine

/-! ## ClaimsKept -/

theorem ClaimsKept.refl (u : TelltaleUnit) : ClaimsKept u u :=
  ⟨rfl, rfl, rfl, fun _ => ⟨rfl, rfl, rfl, rfl, rfl⟩, fun _ => ⟨rfl, rfl⟩⟩

theorem ClaimsKept.trans {u v w : TelltaleUnit} (a : ClaimsKept u v) (b : ClaimsKept v w) : ClaimsKept u w where
  settings := b.settings.trans a.settings
  slowOn := b.slowOn.trans a.slowOn
  fastOn := b.fastOn.trans a.fastOn
  telltales i :=
    ⟨(b.telltales i).1.trans (a.telltales i).1, (b.telltales i).2.1.trans (a.telltales i).2.1,
      (b.telltales i).2.2.1.trans (a.telltales i).2.2.1, (b.telltales i).2.2.2.1.trans (a.telltales i).2.2.2.1,
      (b.telltales i).2.2.2.2.trans (a.telltales i).2.2.2.2⟩
  chimes i := ⟨(b.chimes i).1.trans (a.chimes i).1, (b.chimes i).2.trans (a.chimes i).2⟩

/-! ## EventEnd -/

theorem EventEnd.refl (s : State) : EventEnd s s :=
  ⟨rfl, rfl, rfl, rfl, rfl, rfl, rfl, rfl, rfl, rfl, fun _ _ => rfl, .refl _, .refl s, .refl s _⟩

theorem EventEnd.trans {s t u : State} (a : EventEnd s t) (b : EventEnd t u) : EventEnd s u where
  signals := b.signals.trans a.signals
  pulse := b.pulse.trans a.pulse
  dist := b.dist.trans a.dist
  conv := b.conv.trans a.conv
  switches := b.switches.trans a.switches
  gauges := b.gauges.trans a.gauges
  tacho := b.tacho.trans a.tacho
  cycle := b.cycle.trans a.cycle
  store := b.store.trans a.store
  pending := b.pending.trans a.pending
  conditions c hc := (b.conditions c hc).trans (a.conditions c hc)
  lamps := a.lamps.trans b.lamps
  ports := a.ports.trans b.ports
  silent := a.silent.trans b.silent

/-- A notice of an item that is neither an entry's nor a gauge's. -/
theorem EventEnd.raiseItem {i : Fin 113} (h : ¬ ofTable i) (s : State) : EventEnd s (raiseItem i s) :=
  ⟨rfl, rfl, rfl, rfl, rfl, rfl, rfl, rfl, rfl, rfl, fun _ _ => rfl, .refl _, .raiseItem s i, .raiseItem s h⟩

theorem EventEnd.signalEvent (ev : WaitEvent) (s : State) : EventEnd s (signalEvent ev s) :=
  ⟨rfl, rfl, rfl, rfl, rfl, rfl, rfl, rfl, rfl, rfl, fun _ _ => rfl, .refl _, .signalEvent s ev, .signalEvent s _ ev⟩

/-- The telltale unit replaced by one that keeps its claims, with TELLTALE_FAILED as it may be. -/
theorem EventEnd.setLamps {s : State} {u : TelltaleUnit} (h : ClaimsKept s.lamps u) : EventEnd s (s.setLamps u) :=
  ⟨rfl, rfl, rfl, rfl, rfl, rfl, rfl, rfl, rfl, rfl, fun _ _ => rfl, h, .of_ports rfl, .of_ports _ rfl⟩

theorem EventEnd.setFailed (b : Bool) (s : State) : EventEnd s (setCond .telltaleFailed b s) :=
  ⟨rfl, rfl, rfl, rfl, rfl, rfl, rfl, rfl, rfl, rfl, fun c hc => by simp [hc], .refl _, .of_ports rfl, .of_ports _ rfl⟩

/-! ## The stages of R117 -/

theorem lampPass_eventEnd (st : LampSettings) (s : State) : EventEnd s (lampPass st s) := by
  unfold lampPass
  refine EventEnd.trans (t := s.setLamps _) (EventEnd.setLamps ?_) (EventEnd.setFailed _ _)
  exact ⟨rfl, rfl, rfl, fun i => by simp, fun i => by simp⟩

theorem lampRounds_eventEnd (st : LampSettings) : ∀ n s, EventEnd s (lampRounds n st s)
  | 0, s => .refl s
  | n + 1, s => by
    unfold lampRounds
    dsimp only
    split
    · exact lampPass_eventEnd st s
    · exact (lampPass_eventEnd st s).trans (lampRounds_eventEnd st n _)

@[simp] theorem Telltale.drive_shown (on : Bool) (t : Telltale) : (t.drive on).shown = t.shown := rfl
@[simp] theorem Telltale.drive_resolved (on : Bool) (t : Telltale) : (t.drive on).resolved = t.resolved := rfl
@[simp] theorem Telltale.drive_output (on : Bool) (t : Telltale) : (t.drive on).output = on := rfl
@[simp] theorem Telltale.drive_fault (on : Bool) (t : Telltale) : (t.drive on).fault = t.fault := rfl
@[simp] theorem Telltale.drive_latches (on : Bool) (t : Telltale) : (t.drive on).latches = t.latches := rfl
@[simp] theorem Telltale.drive_patterns (on : Bool) (t : Telltale) : (t.drive on).patterns = t.patterns := rfl
@[simp] theorem Telltale.drive_retries (on : Bool) (t : Telltale) : (t.drive on).retries = t.retries := rfl
@[simp] theorem Telltale.drive_retryTimer (on : Bool) (t : Telltale) : (t.drive on).retryTimer = t.retryTimer := rfl
@[simp] theorem Telltale.drive_failed (on : Bool) (t : Telltale) : (t.drive on).failed = t.failed := rfl

theorem showAll_eventEnd (st : LampSettings) (s : State) : EventEnd s (showAll st s) :=
  EventEnd.setLamps ⟨rfl, rfl, rfl, fun i => by simp [showOne], fun _ => ⟨rfl, rfl⟩⟩

theorem telltaleNotices_eventEnd (before : Vector Telltale 40) (s : State) : EventEnd s (telltaleNotices before s) :=
  forAll_rel EventEnd.refl (fun _ _ _ => EventEnd.trans) _
    (fun i s => by split; exacts [EventEnd.raiseItem (not_ofTable_telltale i) s, EventEnd.refl s]) s

theorem settleLamps_eventEnd (notify : Bool) (s : State) : EventEnd s (settleLamps notify s) := by
  unfold settleLamps
  split
  · exact .refl s
  · rename_i st _
    have h := (lampRounds_eventEnd st 3 s).trans (showAll_eventEnd st _)
    dsimp only
    split
    · exact h.trans (telltaleNotices_eventEnd _ _)
    · exact h

/-! ## Chimes -/

@[simp] theorem Chime.settle_latches (d : ChimeDesc) (a b c : Bool) (x : Chime) : (x.settle d a b c).latches = x.latches := by
  unfold Chime.settle; repeat' split
  all_goals rfl

@[simp] theorem Chime.settle_portClaims (d : ChimeDesc) (a b c : Bool) (x : Chime) : (x.settle d a b c).portClaims = x.portClaims := by
  unfold Chime.settle; repeat' split
  all_goals rfl

theorem settleChimes_eventEnd (s : State) : EventEnd s (settleChimes s) := by
  unfold settleChimes
  split
  · exact .refl s
  · exact EventEnd.setLamps ⟨rfl, rfl, rfl, fun _ => ⟨rfl, rfl, rfl, rfl, rfl⟩, fun i => by simp⟩

/-- The telltale unit's part of an event. -/
theorem settleUnits_eventEnd (notify : Bool) (s : State) : EventEnd s (settleUnits notify s) :=
  (settleLamps_eventEnd notify s).trans (settleChimes_eventEnd _)

theorem cycleNotice_eventEnd (before s : State) : EventEnd s (cycleNotice before s) := by
  unfold cycleNotice
  split
  exacts [.refl s, .raiseItem not_ofTable_cycle s]

/-- The end of every event. -/
theorem finishEvent_eventEnd (before s : State) : EventEnd s (finishEvent before s) :=
  (settleUnits_eventEnd true s).trans (cycleNotice_eventEnd before _)

/-- A command that ends its event at `u` completes, and what `u` has come from stays. -/
theorem completes_of_eventEnd {c : Instr} {s u v : State} {P : State → Prop} (hc : exec c s = .next (complete s v)) (hv : EventEnd u v)
    (h : ∀ t, EventEnd u t → P t) : Completes c s P :=
  ⟨finishEvent s v, hc, h _ (hv.trans (finishEvent_eventEnd s v))⟩

/-! ## What is shown -/

/-- What is shown is settled where the telltales, the flashers and the cycle controller are as in a state where it is. -/
theorem LampsSettled.congr {s t : State} (h : LampsSettled s) (hs : t.lamps.settings = s.lamps.settings) (ha : t.lamps.slowOn = s.lamps.slowOn)
    (hb : t.lamps.fastOn = s.lamps.fastOn) (ht : t.lamps.telltales = s.lamps.telltales) (hc : t.cycle = s.cycle) : LampsSettled t := by
  intro st hst i
  have := h st (hs ▸ hst) i
  simpa only [ht, hc, TelltaleUnit.lit, ha, hb] using this

theorem showAll_settled {st : LampSettings} {s : State} (h : s.lamps.settings = some st) : LampsSettled (showAll st s) := by
  intro st' hst i
  rw [(showAll_eventEnd st s).lamps.settings, h] at hst
  cases hst
  simp only [showAll, State.setLamps_lamps, State.setLamps_cycle, Fin.getElem_fin, Vector.getElem_ofFn, showOne, lampOutput,
    Telltale.drive_shown, Telltale.drive_resolved, Telltale.drive_output, Telltale.drive_fault, TelltaleUnit.lit, true_and]

theorem telltaleNotices_lamps (before : Vector Telltale 40) (s : State) :
    (telltaleNotices before s).lamps = s.lamps ∧ (telltaleNotices before s).cycle = s.cycle := by
  unfold telltaleNotices
  refine forAll_keeps (P := fun t => t.lamps = s.lamps ∧ t.cycle = s.cycle) _ (fun i t ht => ?_) s ⟨rfl, rfl⟩
  split
  · simpa using ht
  · exact ht

theorem settleLamps_settled (notify : Bool) (s : State) : LampsSettled (settleLamps notify s) := by
  rcases h : s.lamps.settings with _ | st
  · intro st hst
    simp [settleLamps, h] at hst
  · have hr := showAll_settled (st := st) (s := lampRounds 3 st s) (by rw [(lampRounds_eventEnd st 3 s).lamps.settings, h])
    have hn := telltaleNotices_lamps s.lamps.telltales (showAll st (lampRounds 3 st s))
    unfold settleLamps
    simp only [h]
    split
    · exact hr.congr (by rw [hn.1]) (by rw [hn.1]) (by rw [hn.1]) (by rw [hn.1]) hn.2
    · exact hr

theorem settleChimes_telltales (s : State) : (settleChimes s).lamps.telltales = s.lamps.telltales := by
  unfold settleChimes
  split <;> rfl

/-- After the end of every event, what is shown is settled. -/
theorem finishEvent_settled (before s : State) : LampsSettled (finishEvent before s) := by
  have h := settleLamps_settled true s
  have hc := settleChimes_eventEnd (settleLamps true s)
  have h2 : LampsSettled (settleUnits true s) :=
    h.congr hc.lamps.settings hc.lamps.slowOn hc.lamps.fastOn (settleChimes_telltales _) hc.cycle
  unfold finishEvent cycleNotice
  split
  · exact h2
  · exact h2.congr rfl rfl rfl rfl rfl

end Sys2Proof.Machine
end

