-- ==== Sys2Proof/Laws/Table.lean ====
section
/-! SUPPORT. What updates of the signal table bring about (R2 to R21), and what they leave: the entries, the gauges that follow them and the
passages of the cycle state. -/

namespace Sys2Proof.Machine

/-! ## TableEvent -/

theorem TableEvent.refl (s : State) : TableEvent s s where
  descriptors _ := rfl
  pulse := rfl
  dist := rfl
  convSettings := rfl
  convPass := rfl
  convSlots := rfl
  supply := rfl
  lowCount := rfl
  overruns := rfl
  convTakeOver := rfl
  switches := rfl
  gaugeSettings _ := rfl
  tacho := rfl
  passage := .inl rfl
  timersKept _ := ⟨rfl, rfl⟩
  parkedEntry h h' := absurd h h'
  ignition := rfl
  window := rfl
  windowLength := rfl
  commitInFlight := rfl
  restartPending := rfl
  causeSwitch := rfl
  causeWindow := rfl
  store := rfl
  pending := rfl
  conditions _ _ := rfl
  lampSettings := rfl
  flashers := ⟨rfl, rfl⟩
  patterns _ := rfl
  drivers _ := ⟨rfl, rfl, rfl⟩
  portClaims _ := rfl
  ports := .refl s

theorem Passage.of_parked {a b : CycleState} (h : Passage a b) (ha : a = .parked) : b = .parked := by
  subst ha; rcases h with h | ⟨h, _⟩ | ⟨h, _⟩
  · exact h
  · cases h
  · cases h

theorem Passage.trans {a b c : CycleState} (h : Passage a b) (k : Passage b c) : Passage a c := by
  unfold Passage at *
  cases a <;> cases b <;> simp_all

theorem TableEvent.inLoad {s t : State} (h : TableEvent s t) : t.cycle.state = .load ↔ s.cycle.state = .load := by
  rcases h.passage with h | ⟨h, k⟩ | ⟨h, k⟩
  · rw [h]
  · simp [h, k]
  · simp [h, k]

theorem TableEvent.trans {s t u : State} (a : TableEvent s t) (b : TableEvent t u) : TableEvent s u where
  descriptors i := (b.descriptors i).trans (a.descriptors i)
  pulse := b.pulse.trans a.pulse
  dist := b.dist.trans a.dist
  convSettings := b.convSettings.trans a.convSettings
  convPass := b.convPass.trans a.convPass
  convSlots := b.convSlots.trans a.convSlots
  supply := b.supply.trans a.supply
  lowCount := b.lowCount.trans a.lowCount
  overruns := b.overruns.trans a.overruns
  convTakeOver := b.convTakeOver.trans a.convTakeOver
  switches := b.switches.trans a.switches
  gaugeSettings i := (b.gaugeSettings i).trans (a.gaugeSettings i)
  tacho := b.tacho.trans a.tacho
  passage := a.passage.trans b.passage
  timersKept h := by
    by_cases ht : t.cycle.state = .parked
    · have hu : u.cycle.state = .parked := b.passage.of_parked ht
      have hs : s.cycle.state = .parked := h.resolve_left (fun k => k hu)
      exact ⟨(b.timersKept (.inr ht)).1.trans (a.timersKept (.inr hs)).1, (b.timersKept (.inr ht)).2.trans (a.timersKept (.inr hs)).2⟩
    · have hu : u.cycle.state ≠ .parked := fun e => by
        rcases h with h | h
        · exact h e
        · exact ht (a.passage.of_parked h)
      exact ⟨(b.timersKept (.inl hu)).1.trans (a.timersKept (.inl ht)).1, (b.timersKept (.inl hu)).2.trans (a.timersKept (.inl ht)).2⟩
  parkedEntry h h' := by
    by_cases ht : t.cycle.state = .parked
    · have k := b.timersKept (.inr ht)
      have l := a.parkedEntry ht h'
      exact ⟨k.1.trans l.1, k.2.trans l.2⟩
    · have l := b.parkedEntry h ht
      exact ⟨l.1, by rw [l.2, a.convSettings]⟩
  ignition := b.ignition.trans a.ignition
  window := b.window.trans a.window
  windowLength := b.windowLength.trans a.windowLength
  commitInFlight := b.commitInFlight.trans a.commitInFlight
  restartPending := b.restartPending.trans a.restartPending
  causeSwitch := b.causeSwitch.trans a.causeSwitch
  causeWindow := b.causeWindow.trans a.causeWindow
  store := b.store.trans a.store
  pending := b.pending.trans a.pending
  conditions c h := (b.conditions c h).trans (a.conditions c h)
  lampSettings := b.lampSettings.trans a.lampSettings
  flashers := ⟨b.flashers.1.trans a.flashers.1, b.flashers.2.trans a.flashers.2⟩
  patterns i := (b.patterns i).trans (a.patterns i)
  drivers i :=
    ⟨(b.drivers i).1.trans (a.drivers i).1, (b.drivers i).2.1.trans (a.drivers i).2.1, (b.drivers i).2.2.trans (a.drivers i).2.2⟩
  portClaims i := (b.portClaims i).trans (a.portClaims i)
  ports := a.ports.trans b.ports

/-- The end of an event is a part of what an update of the table may bring about. -/
theorem EventEnd.table {s t : State} (h : EventEnd s t) : TableEvent s t where
  descriptors _ := by rw [h.signals]
  pulse := h.pulse
  dist := h.dist
  convSettings := by rw [h.conv]
  convPass := by rw [h.conv]
  convSlots := by rw [h.conv]
  supply := by rw [h.conv]
  lowCount := by rw [h.conv]
  overruns := by rw [h.conv]
  convTakeOver := by rw [h.conv]
  switches := h.switches
  gaugeSettings _ := by rw [h.gauges]
  tacho := h.tacho
  passage := .inl (by rw [h.cycle])
  timersKept _ := by rw [h.conv]; exact ⟨rfl, rfl⟩
  parkedEntry k k' := absurd (h.cycle ▸ k) k'
  ignition := by rw [h.cycle]
  window := by rw [h.cycle]
  windowLength := by rw [h.cycle]
  commitInFlight := by rw [h.cycle]
  restartPending := by rw [h.cycle]
  causeSwitch := by rw [h.cycle]
  causeWindow := by rw [h.cycle]
  store := h.store
  pending := h.pending
  conditions := h.conditions
  lampSettings := h.lamps.settings
  flashers := ⟨h.lamps.slowOn, h.lamps.fastOn⟩
  patterns i := (h.lamps.telltales i).2.1
  drivers i := (h.lamps.telltales i).2.2
  portClaims i := (h.lamps.chimes i).2
  ports := h.ports

/-! ## EntryKept -/

theorem EntryKept.refl (e : Entry) : EntryKept e e := ⟨rfl, rfl, rfl, rfl, rfl⟩

theorem EntryKept.trans {e f g : Entry} (a : EntryKept e f) (b : EntryKept f g) : EntryKept e g :=
  ⟨b.desc.trans a.desc, b.primary.trans a.primary, b.alternate.trans a.alternate, b.view.trans a.view, b.reclaim.trans a.reclaim⟩

/-- What an update of the table brings about beside the slots and views. -/
structure AfterView (s t : State) : Prop where
  table : TableEvent s t
  entries : ∀ i : Fin 64, EntryKept s.signals[i] t.signals[i]

theorem AfterView.refl (s : State) : AfterView s s := ⟨.refl s, fun _ => .refl _⟩

theorem AfterView.trans {s t u : State} (a : AfterView s t) (b : AfterView t u) : AfterView s u :=
  ⟨a.table.trans b.table, fun i => (a.entries i).trans (b.entries i)⟩

theorem EventEnd.afterView {s t : State} (h : EventEnd s t) : AfterView s t := ⟨h.table, fun i => by rw [h.signals]; exact .refl _⟩

/-- A notice of any item. -/
theorem AfterView.raiseItem (i : Fin 113) (s : State) : AfterView s (raiseItem i s) :=
  ⟨{ TableEvent.refl s with ports := .raiseItem s i }, fun _ => .refl _⟩

/-- One entry replaced by one that keeps its descriptor, slots, view and reclaim timer. -/
theorem AfterView.setEntry {s : State} {i : Fin 64} {e : Entry} (h : EntryKept s.signals[i] e) : AfterView s (setEntry i e s) where
  table :=
    { TableEvent.refl s with
      descriptors := fun j => by
        by_cases hj : i = j
        · subst hj; simpa using h.desc
        · have : (i : Nat) ≠ j := fun e => hj (Fin.ext e)
          simp [this]
      ports := .of_ports rfl }
  entries j := by
    by_cases hj : i = j
    · subst hj; simpa using h
    · have : (i : Nat) ≠ j := fun e => hj (Fin.ext e)
      simpa [this] using EntryKept.refl _

/-! ## Cycle passages and gauges -/

theorem afterView_enterRun {s : State} (h : s.cycle.state = .starting) : AfterView s (enterRun s) where
  table :=
    { TableEvent.refl s with
      passage := .inr (.inl ⟨h, rfl⟩)
      timersKept := fun _ => ⟨rfl, rfl⟩
      parkedEntry := fun k => by cases k
      ports := (PortsTook.signalEvent _ .cycle).congr rfl rfl }
  entries _ := .refl _

theorem afterView_enterParked {s : State} (h : s.cycle.state = .stopping) : AfterView s (enterParked s) where
  table :=
    { TableEvent.refl s with
      passage := .inr (.inr ⟨h, rfl⟩)
      timersKept := fun k => by
        rcases k with k | k
        · exact absurd rfl k
        · rw [h] at k; cases k
      parkedEntry := fun _ _ => ⟨rfl, rfl⟩
      ports := (PortsTook.signalEvent _ .cycle).congr rfl rfl }
  entries _ := .refl _

theorem afterView_judgePassage (s : State) : AfterView s (judgePassage s) := by
  unfold judgePassage
  split
  · split
    · exact afterView_enterRun ‹_›
    · exact .refl s
  · split
    · exact afterView_enterParked ‹_›
    · exact .refl s
  · exact .refl s
  · exact .refl s
  · exact .refl s

theorem afterView_setGauge {s : State} {i : Fin 6} {g : Gauge} (h : g.settings = s.gauges[i].settings) :
    AfterView s (s.setGauges (s.gauges.set i g)) where
  table :=
    { TableEvent.refl s with
      gaugeSettings := fun j => by
        by_cases hj : i = j
        · subst hj; simpa using h
        · have : (i : Nat) ≠ j := fun e => hj (Fin.ext e)
          simp [this]
      ports := .of_ports rfl }
  entries _ := .refl _

/-- A gauge replaced by one with the same settings. -/
theorem afterView_putGauge {s : State} {i : Fin 6} {g : Gauge} (h : g.settings = s.gauges[i].settings) : AfterView s (putGauge i g s) := by
  unfold putGauge
  have h1 := afterView_setGauge h
  have h2 : AfterView s (if gaugeNotice s.gauges[i] g then raiseItem (gaugeItem i) (s.setGauges (s.gauges.set i g))
      else s.setGauges (s.gauges.set i g)) := by
    split
    · exact h1.trans (.raiseItem _ _)
    · exact h1
  dsimp only
  split
  · exact h2
  · exact h2.trans (afterView_judgePassage _)

@[simp] theorem Gauge.parkIfAtRest_settings (g : Gauge) : g.parkIfAtRest.settings = g.settings := by
  unfold Gauge.parkIfAtRest; split <;> rfl

@[simp] theorem Gauge.enterParking_settings (gs : GaugeSettings) (g : Gauge) : (g.enterParking gs).settings = g.settings := by
  simp [Gauge.enterParking]

@[simp] theorem Gauge.takeDecision_settings (gs : GaugeSettings) (v : View) (g : Gauge) : (g.takeDecision gs v).settings = g.settings := by
  simp [Gauge.takeDecision]

@[simp] theorem Gauge.endLeg_settings (gs : GaugeSettings) (v : View) (g : Gauge) : (g.endLeg gs v).settings = g.settings := by
  unfold Gauge.endLeg; split <;> simp

@[simp] theorem Gauge.arrive_settings (gs : GaugeSettings) (v : View) (g : Gauge) : (g.arrive gs v).settings = g.settings := by
  unfold Gauge.arrive; split <;> (try split) <;> simp

@[simp] theorem Gauge.enterSweep_settings (gs : GaugeSettings) (v : View) (g : Gauge) : (g.enterSweep gs v).settings = g.settings := by
  simp [Gauge.enterSweep]

@[simp] theorem Gauge.enterHoming_settings (gs : GaugeSettings) (g : Gauge) : (g.enterHoming gs).settings = g.settings := rfl

@[simp] theorem Gauge.retarget_settings (gs : GaugeSettings) (v : View) (g : Gauge) : (g.retarget gs v).settings = g.settings := by
  unfold Gauge.retarget; dsimp only; split <;> rfl

@[simp] theorem Gauge.effectiveUpdate_settings (c : CycleState) (v : View) (g : Gauge) :
    (g.effectiveUpdate c v).settings = g.settings := by
  unfold Gauge.effectiveUpdate
  split
  · rfl
  · split <;> (try split) <;> simp

@[simp] theorem Gauge.hold_settings (c : CycleState) (g : Gauge) : (g.hold c).settings = g.settings := by
  unfold Gauge.hold; split <;> rfl

@[simp] theorem Gauge.startingEntry_settings (v : View) (g : Gauge) : (g.startingEntry v).settings = g.settings := by
  unfold Gauge.startingEntry
  split
  · rfl
  · split <;> (try split) <;> (try split) <;> simp

@[simp] theorem Gauge.start_settings (sup : Supply) (v : View) (g : Gauge) : (g.start sup v).settings = g.settings := by
  unfold Gauge.start; split <;> simp

@[simp] theorem Gauge.ignitionOff_settings (g : Gauge) : g.ignitionOff.settings = g.settings := by
  unfold Gauge.ignitionOff
  split
  · rfl
  · split <;> (try split) <;> simp

@[simp] theorem Gauge.resume_settings (c : CycleState) (v : View) (g : Gauge) : (g.resume c v).settings = g.settings := by
  unfold Gauge.resume
  split
  · rfl
  · split
    · split <;> (try split) <;> simp
    · rfl

@[simp] theorem Gauge.advance_settings (f : Nat) (v : Int) (g : Gauge) : (g.advance f v).settings = g.settings := by
  unfold Gauge.advance; dsimp only; split <;> (try split) <;> rfl

@[simp] theorem Gauge.settleOnTarget_settings (a : Nat) (g : Gauge) : (g.settleOnTarget a).settings = g.settings := by
  unfold Gauge.settleOnTarget; split <;> rfl

@[simp] theorem Gauge.motionStep_settings (gs : GaugeSettings) (g : Gauge) : (g.motionStep gs).settings = g.settings := by
  simp [Gauge.motionStep]

@[simp] theorem Gauge.motionExpiry_settings (v : View) (g : Gauge) : (g.motionExpiry v).settings = g.settings := by
  unfold Gauge.motionExpiry; split <;> (try split) <;> simp

@[simp] theorem Gauge.endHoming_settings (gs : GaugeSettings) (c : CycleState) (v : View) (g : Gauge) :
    (g.endHoming gs c v).settings = g.settings := by
  unfold Gauge.endHoming; dsimp only; (repeat' split) <;> simp

@[simp] theorem Gauge.homingExpiry_settings (c : CycleState) (v : View) (g : Gauge) : (g.homingExpiry c v).settings = g.settings := by
  unfold Gauge.homingExpiry; split <;> (try split) <;> (try dsimp only) <;> (try split) <;> simp

/-- Every gauge changed by a function that keeps its settings. -/
theorem afterView_forGauges {f : View → Gauge → Gauge} (h : ∀ v g, (f v g).settings = g.settings) (s : State) :
    AfterView s (forGauges f s) :=
  forAll_rel AfterView.refl (fun _ _ _ => AfterView.trans) _ (fun _ _ => afterView_putGauge (h _ _)) s

/-- A gauge at a STARTING entry. -/
theorem afterView_startGauge (supply : Supply) (i : Fin 6) (s : State) : AfterView s (startGauge supply i s) := by
  unfold startGauge
  dsimp only
  split
  · exact (AfterView.raiseItem _ s).trans (afterView_putGauge (by simp))
  · exact afterView_putGauge (by simp)

/-- The gauges at a STARTING entry. -/
theorem afterView_startGauges (supply : Supply) (s : State) : AfterView s (startGauges supply s) :=
  forAll_rel AfterView.refl (fun _ _ _ => AfterView.trans) _ (afterView_startGauge supply) s

/-! ## Consumers, pairs and notices -/

theorem afterView_setLamps {s : State} {u : TelltaleUnit} (h : u.settings = s.lamps.settings)
    (hf : u.slowOn = s.lamps.slowOn ∧ u.fastOn = s.lamps.fastOn)
    (hp : ∀ i : Fin 40, u.telltales[i].patterns = s.lamps.telltales[i].patterns)
    (hd : ∀ i : Fin 40, u.telltales[i].fault = s.lamps.telltales[i].fault ∧ u.telltales[i].retries = s.lamps.telltales[i].retries ∧
      u.telltales[i].retryTimer = s.lamps.telltales[i].retryTimer)
    (hc : ∀ i : Fin 8, u.chimes[i].portClaims = s.lamps.chimes[i].portClaims) : AfterView s (s.setLamps u) where
  table :=
    { TableEvent.refl s with
      lampSettings := h
      flashers := hf
      patterns := hp
      drivers := hd
      portClaims := hc
      ports := .of_ports rfl }
  entries _ := .refl _

theorem afterView_judgeLatches (e : Fin 64) (s : State) : AfterView s (judgeLatches e s) := by
  unfold judgeLatches
  split
  · exact .refl s
  · exact afterView_setLamps rfl ⟨rfl, rfl⟩ (fun i => by simp) (fun i => by simp) (fun i => by simp)

theorem afterView_handEffective (i : Fin 64) (s : State) : AfterView s (handEffective i s) := by
  unfold handEffective
  refine AfterView.trans (forAll_rel AfterView.refl (fun _ _ _ => AfterView.trans) _ (fun k s => ?_) s) (afterView_judgeLatches i _)
  dsimp only
  split
  · exact afterView_putGauge (by simp)
  · exact .refl _

theorem afterView_noticeEntry (before : Entry) (i : Fin 64) (s : State) : AfterView s (noticeEntry before i s) := by
  unfold noticeEntry
  dsimp only
  split
  · refine AfterView.trans (t := setEntry i { s.signals[i] with reference := s.signals[i].view.value } s)
      (AfterView.setEntry ⟨rfl, rfl, rfl, rfl, rfl⟩) (.raiseItem _ _)
  · exact .refl _

theorem Entry.judgePair_kept (b : Bool) (p e : Entry) : EntryKept e (Entry.judgePair b p e) := by
  unfold Entry.judgePair
  repeat' split
  all_goals exact ⟨rfl, rfl, rfl, rfl, rfl⟩

theorem afterView_judgePairs (b : Bool) (i : Fin 64) (s : State) : AfterView s (judgePairs b i s) := by
  refine forAll_rel AfterView.refl (fun _ _ _ => AfterView.trans) _ (fun a s => ?_) s
  split
  · unfold judgePairOf
    split
    · exact .refl s
    · exact AfterView.setEntry (Entry.judgePair_kept _ _ _)
  · exact .refl s

theorem afterView_reportPartners (before : Vector Entry 64) (i : Fin 64) (s : State) : AfterView s (reportPartners before i s) := by
  refine forAll_rel AfterView.refl (fun _ _ _ => AfterView.trans) _ (fun a s => ?_) s
  split
  · exact (afterView_noticeEntry _ a s).trans (afterView_handEffective a _)
  · exact .refl s

/-! ## Recomputation and updates -/

@[simp] theorem Entry.select_desc (e : Entry) : e.select.desc = e.desc := by
  unfold Entry.select; dsimp only; split <;> (try split) <;> rfl

@[simp] theorem Entry.select_primary (e : Entry) : e.select.primary = e.primary := by
  unfold Entry.select; dsimp only; split <;> (try split) <;> rfl

@[simp] theorem Entry.select_alternate (e : Entry) : e.select.alternate = e.alternate := by
  unfold Entry.select; dsimp only; split <;> (try split) <;> rfl

@[simp] theorem Entry.select_reclaim (e : Entry) : e.select.reclaim = e.keptReclaim := by
  unfold Entry.select; dsimp only; split <;> (try split) <;> rfl

/-- Two entries that agree in what `EntryKept` names differ in the rest alone. -/
theorem EntryKept.eq {e f : Entry} (h : EntryKept e f) :
    f = { e with disagree := f.disagree, disagreement := f.disagreement, reference := f.reference } := by
  cases e; cases f; cases h; simp_all

/-- Selection reads the descriptor, the slots, the view and the reclaim timer alone. -/
theorem EntryKept.select {e f : Entry} (h : EntryKept e f) : EntryKept e.select f.select := by
  rw [h.eq]
  refine ⟨by simp, by simp, by simp, ?_, by simp [Entry.keptReclaim, Entry.alternateServes]⟩
  unfold Entry.select Entry.keptReclaim Entry.alternateServes Entry.substitute Entry.substituteState
  dsimp only
  repeat' split
  all_goals rfl

theorem EntryKept.afterUpdate {e f : Entry} (src : Source) (u : Update) (h : EntryKept e f) :
    EntryKept (e.afterUpdate src u) (f.afterUpdate src u) := by
  rw [h.eq]
  unfold Entry.afterUpdate
  dsimp only
  split
  · exact EntryKept.select ⟨rfl, rfl, rfl, rfl, rfl⟩
  · split
    · exact EntryKept.select ⟨rfl, rfl, rfl, rfl, rfl⟩
    · exact ⟨rfl, rfl, rfl, rfl, rfl⟩

theorem EntryKept.afterSlots {e f : Entry} (g : Source → Slot → Slot) (h : EntryKept e f) :
    EntryKept (e.afterSlots g) (f.afterSlots g) := by
  rw [h.eq]
  unfold Entry.afterSlots
  dsimp only
  split
  · exact ⟨rfl, rfl, rfl, rfl, rfl⟩
  · exact EntryKept.select ⟨rfl, rfl, rfl, rfl, rfl⟩

/-- One entry changed to `e`, and the others kept. -/
structure EntryBecomes (i : Fin 64) (e : Entry) (s t : State) : Prop where
  table : TableEvent s t
  here : EntryKept e t.signals[i]
  others : ∀ j, j ≠ i → EntryKept s.signals[j] t.signals[j]

theorem EntryBecomes.after {i : Fin 64} {e : Entry} {s t u : State} (a : EntryBecomes i e s t) (b : AfterView t u) : EntryBecomes i e s u :=
  ⟨a.table.trans b.table, a.here.trans (b.entries i), fun j hj => (a.others j hj).trans (b.entries j)⟩

theorem entryBecomes_setEntry {s : State} {i : Fin 64} {e : Entry} (h : e.desc = s.signals[i].desc) : EntryBecomes i e s (setEntry i e s) where
  table :=
    { TableEvent.refl s with
      descriptors := fun j => by
        by_cases hj : i = j
        · subst hj; simpa using h
        · have : (i : Nat) ≠ j := fun e => hj (Fin.ext e)
          simp [this]
      ports := .of_ports rfl }
  here := by simpa using EntryKept.refl e
  others j hj := by
    have : (i : Nat) ≠ j := fun e => hj (Fin.ext e.symm)
    simpa [this] using EntryKept.refl _

theorem EntryBecomes.trans {i : Fin 64} {e f : Entry} {s t u : State} (a : EntryBecomes i e s t) (b : EntryBecomes i f t u) :
    EntryBecomes i f s u :=
  ⟨a.table.trans b.table, b.here, fun j hj => (a.others j hj).trans (b.others j hj)⟩

/-- A recomputation selects the view of its entry, and leaves the other entries their views (R11 to R21). -/
theorem recompute_spec (before : Entry) (b : Bool) (i : Fin 64) (s : State) :
    EntryBecomes i s.signals[i].select s (recompute before b i s) := by
  unfold recompute
  refine EntryBecomes.after ?_ ((afterView_noticeEntry _ _ _).trans ((afterView_handEffective _ _).trans (afterView_reportPartners _ _ _)))
  exact (entryBecomes_setEntry (by simp)).after (afterView_judgePairs b i _)

theorem EntryBecomes.recompute {i : Fin 64} {e : Entry} {s t : State} (h : EntryBecomes i e s t) (before : Entry) (b : Bool) :
    EntryBecomes i e.select s (recompute before b i t) := by
  have k := h.trans (recompute_spec before b i t)
  exact ⟨k.table, h.here.select.trans k.here, k.others⟩

theorem updatePrimary_spec {src : Source} (u : Update) (i : Fin 64) (s : State) (h : s.signals[i].desc.primary = src) :
    EntryBecomes i (s.signals[i].afterUpdate src u) s (updatePrimary u i s) := by
  unfold Entry.afterUpdate updatePrimary
  simp only [h, if_true]
  refine (entryBecomes_setEntry ?_).recompute _ _
  rfl

theorem updateAlternate_spec {src : Source} (u : Update) (i : Fin 64) (s : State) (h : s.signals[i].desc.primary ≠ src)
    (h' : s.signals[i].desc.alternate = src) :
    EntryBecomes i (s.signals[i].afterUpdate src u) s (updateAlternate u i s) := by
  unfold Entry.afterUpdate updateAlternate
  simp only [h, h', if_true, if_false]
  refine (entryBecomes_setEntry ?_).recompute _ _
  rfl

theorem EntryBecomes.refl (i : Fin 64) (s : State) : EntryBecomes i s.signals[i] s s := ⟨.refl s, .refl _, fun _ _ => .refl _⟩

/-- An update delivered to one entry (R2 to R5, R10). -/
theorem deliverTo_spec (src : Source) (u : Update) (i : Fin 64) (s : State) (h : s.cycle.state ≠ .load) :
    EntryBecomes i (s.signals[i].afterUpdate src u) s (deliverTo src u i s) := by
  unfold deliverTo
  rw [if_neg h]
  split
  · exact updatePrimary_spec u i s ‹_›
  · split
    · exact updateAlternate_spec u i s ‹_› ‹_›
    · unfold Entry.afterUpdate
      simp only [*, if_false]
      exact .refl i s

/-- Slots of one entry changed without an update (R7, R9). -/
theorem changeSlots_spec (f : Source → Slot → Slot) (i : Fin 64) (s : State) :
    EntryBecomes i (s.signals[i].afterSlots f) s (changeSlots f i s) := by
  unfold changeSlots Entry.afterSlots
  dsimp only
  split
  · exact entryBecomes_setEntry rfl
  · refine (entryBecomes_setEntry ?_).recompute _ _
    rfl

/-- A loop over the entries whose step `i` changes entry `i` as a function of it. -/
theorem forAll_entries {f : Fin 64 → State → State} {g : Fin 64 → Entry → Entry} {C : State → Prop}
    (hg : ∀ i e e', EntryKept e e' → EntryKept (g i e) (g i e')) (hC : ∀ s t, TableEvent s t → C s → C t)
    (hf : ∀ i s, C s → EntryBecomes i (g i s.signals[i]) s (f i s)) (s : State) (hs : C s) :
    TableEvent s (forAll 64 f s) ∧ ∀ i, EntryKept (g i s.signals[i]) (forAll 64 f s).signals[i] := by
  have key : ∀ (l : List (Fin 64)), l.Nodup → ∀ s, C s →
      TableEvent s (l.foldl (fun s i => f i s) s) ∧
      ∀ i, EntryKept (if i ∈ l then g i s.signals[i] else s.signals[i]) (l.foldl (fun s i => f i s) s).signals[i] := by
    intro l
    induction l with
    | nil => intro _ s _; exact ⟨.refl s, fun i => by simpa using EntryKept.refl _⟩
    | cons a l ih =>
      intro hn s hs
      have h1 := hf a s hs
      have h2 := ih (List.nodup_cons.1 hn).2 (f a s) (hC _ _ h1.table hs)
      refine ⟨h1.table.trans h2.1, fun i => ?_⟩
      have h3 := h2.2 i
      by_cases hi : i = a
      · subst hi
        have hm : i ∉ l := (List.nodup_cons.1 hn).1
        simp only [List.mem_cons, true_or, if_true, hm, if_false] at h3 ⊢
        exact h1.here.trans h3
      · simp only [List.mem_cons, hi, false_or]
        refine EntryKept.trans ?_ h3
        split
        · exact hg i _ _ (h1.others i hi)
        · exact h1.others i hi
  have := key (List.finRange 64) (List.nodup_finRange 64) s hs
  refine ⟨this.1, fun i => ?_⟩
  have h := this.2 i
  rw [if_pos (List.mem_finRange i)] at h
  exact h

/-- An update delivered to every slot of its source (R2). -/
theorem deliver_entries (src : Source) (u : Update) (s : State) (h : s.cycle.state ≠ .load) :
    TableEvent s (deliver src u s) ∧ ∀ i : Fin 64, EntryKept (s.signals[i].afterUpdate src u) (deliver src u s).signals[i] :=
  forAll_entries (C := fun s => s.cycle.state ≠ .load) (fun _ _ _ => EntryKept.afterUpdate src u)
    (fun _ _ k hs => fun e => hs (k.inLoad.1 e)) (fun i s hs => deliverTo_spec src u i s hs) s h

/-- In LOAD an update is discarded (R10). -/
theorem deliverTo_load (src : Source) (u : Update) (i : Fin 64) (s : State) (h : s.cycle.state = .load) : deliverTo src u i s = s := by
  unfold deliverTo; rw [if_pos h]

theorem deliver_load (src : Source) (u : Update) (s : State) (h : s.cycle.state = .load) : deliver src u s = s :=
  forAll_keeps (P := fun t => t = s) _ (fun i t ht => by subst ht; exact deliverTo_load src u i t h) s rfl

theorem deliver_table (src : Source) (u : Update) (s : State) : TableEvent s (deliver src u s) := by
  by_cases h : s.cycle.state = .load
  · rw [deliver_load src u s h]; exact .refl s
  · exact (deliver_entries src u s h).1

theorem deliverTo_table (src : Source) (u : Update) (i : Fin 64) (s : State) : TableEvent s (deliverTo src u i s) := by
  by_cases h : s.cycle.state = .load
  · rw [deliverTo_load src u i s h]; exact .refl s
  · exact (deliverTo_spec src u i s h).table

/-- The aging expiry (R6 to R8). -/
theorem ageTable_spec (s : State) :
    TableEvent s (ageTable s) ∧
    ∀ i : Fin 64, EntryKept (s.signals[i].afterSlots fun src x => x.ageBy s.signals[i].desc src s.conv.supply) (ageTable s).signals[i] := by
  have := forAll_entries (f := fun i s => changeSlots (fun src x => x.ageBy s.signals[i].desc src s.conv.supply) i s)
    (g := fun i e => e.afterSlots fun src x => x.ageBy e.desc src s.conv.supply) (C := fun t => t.conv.supply = s.conv.supply)
    (fun i e e' h => by rw [h.desc]; exact h.afterSlots _) (fun _ _ k hs => k.supply.trans hs)
    (fun i t ht => by rw [← ht]; exact changeSlots_spec _ i t) s rfl
  exact this

/-- The slots of a lost link (R9). -/
theorem forceLost_spec (p : Port) (s : State) :
    TableEvent s (forceLost p s) ∧ ∀ i : Fin 64, EntryKept (s.signals[i].afterSlots (Slot.loseLink p)) (forceLost p s).signals[i] :=
  forAll_entries (C := fun _ => True) (fun _ _ _ h => h.afterSlots _) (fun _ _ _ h => h) (fun i s _ => changeSlots_spec _ i s) s trivial

theorem reclaimExpiry_spec (i : Fin 64) (s : State) (h : s.signals[i].reclaim.isRunning = true) :
    EntryBecomes i (Entry.select { s.signals[i] with reclaim := .stopped }) s (reclaimExpiry i s) := by
  unfold reclaimExpiry
  simp only [h, if_true]
  refine (entryBecomes_setEntry ?_).recompute _ _
  rfl

end Sys2Proof.Machine
end

