-- ==== Sys2Proof/Laws/Followed.lean ====
section
/-! SUPPORT. What follows from recomputed entries (R11): the DISAGREE marks, the pairs, the notices, and what the gauges and the claims are
handed. -/

namespace Sys2Proof.Machine

/-! ## Consumers -/

theorem Gauge.effectiveUpdate_congr {c d : CycleState} (h : c.isOn = d.isOn) : Gauge.effectiveUpdate c = Gauge.effectiveUpdate d := by
  funext v g
  unfold Gauge.effectiveUpdate
  simp only [h]

theorem Passage.isOn {a b : CycleState} (h : Passage a b) : b.isOn = a.isOn := by
  rcases h with h | ⟨h, k⟩ | ⟨h, k⟩
  · rw [h]
  · rw [h, k]; rfl
  · rw [h, k]; rfl

theorem Gauge.foldl_settings (c : CycleState) (l : List View) (g : Gauge) :
    (l.foldl (fun g v => g.effectiveUpdate c v) g).settings = g.settings := by
  induction l generalizing g with
  | nil => rfl
  | cons v l ih => exact (ih _).trans (by simp)

@[simp] theorem Claim.judgeViews_nil (a : Bool) (c : Claim) : c.judgeViews (fun _ => []) a = a := by cases c <;> rfl

theorem Claim.judgeViews_append (h h' : Fin 64 → List View) (a : Bool) (c : Claim) :
    c.judgeViews (fun e => h e ++ h' e) a = c.judgeViews h' (c.judgeViews h a) := by
  cases c <;> simp [Claim.judgeViews]

/-! ## Changed gauges -/

/-- The notice of a gauge is asked for where it differs (R90). -/
theorem gaugeNotice_iff (a b : Gauge) : gaugeNotice a b = true ↔ GaugeDiffers a b := by
  simp only [gaugeNotice, GaugeDiffers, Gauge.atRest, Bool.or_eq_true, Bool.and_eq_true, Bool.not_eq_true', bne_iff_ne, beq_iff_eq, ne_eq,
    eq_comm (a := a.state), eq_comm (a := a.remembered), eq_comm (a := a.target), Bool.and_eq_false_iff, beq_eq_false_iff_ne, not_and_or, or_assoc,
    and_comm (a := ¬ a.velocity = 0 ∨ ¬ a.position = a.target)]

theorem Gauge.changedBy_congr {c d : CycleState} (h : c.isOn = d.isOn) (l : List View) (g : Gauge) : g.changedBy c l ↔ g.changedBy d l := by
  induction l generalizing g with
  | nil => rfl
  | cons v l ih => simp only [Gauge.changedBy, Gauge.effectiveUpdate_congr h, ih]

theorem Gauge.changedBy_append (c : CycleState) (l m : List View) (g : Gauge) :
    g.changedBy c (l ++ m) ↔ g.changedBy c l ∨ (l.foldl (fun g v => g.effectiveUpdate c v) g).changedBy c m := by
  induction l generalizing g with
  | nil => simp [Gauge.changedBy]
  | cons v l ih => simp only [List.cons_append, Gauge.changedBy, ih, List.foldl_cons, or_assoc]

/-- An operation that reports no gauge. -/
abbrev NoGauge (s t : State) : Prop := ReportedOnly (fun i => ∀ k : Fin 6, i ≠ gaugeItem k) s t

theorem EventEnd.noGauge {s t : State} (h : EventEnd s t) : NoGauge s t := h.silent.mono fun _ n k e => n (e ▸ ofTable_gauge k)

theorem noGauge_of_ports {s t : State} (h : t.ports = s.ports) : NoGauge s t := .of_ports _ h

/-- An operation that leaves the gauges and the latches hands nothing over. -/
theorem ConsumersTook.of_eq {u t : State} (hp : NoGauge u t) (hg : t.gauges = u.gauges)
    (ht : ∀ i : Fin 40, t.lamps.telltales[i].latches = u.lamps.telltales[i].latches)
    (hc : ∀ i : Fin 8, t.lamps.chimes[i].latches = u.lamps.chimes[i].latches) : ConsumersTook (fun _ => []) u t where
  gauges k := by cases h : u.gauges[k].settings <;> simp [hg]
  telltales i k := by
    cases h : u.lamps.settings <;> simp only [Option.elim_none, Option.elim_some, Claim.judgeViews_nil] <;> rw [ht i]
  chimes i k := by
    cases h : u.lamps.settings <;> simp only [Option.elim_none, Option.elim_some, Claim.judgeViews_nil] <;> rw [hc i]
  items _ _ _ h := h.elim
  silent := hp.mono fun _ n k e => absurd e (n k)

theorem ConsumersTook.refl (s : State) : ConsumersTook (fun _ => []) s s := .of_eq (.refl s _) rfl (fun _ => rfl) fun _ => rfl

theorem EventEnd.consumers {s t : State} (h : EventEnd s t) : ConsumersTook (fun _ => []) s t :=
  .of_eq h.noGauge h.gauges (fun i => (h.lamps.telltales i).1) fun i => (h.lamps.chimes i).1

theorem ConsumersTook.trans {h h' : Fin 64 → List View} {s t u : State} (hs : s.cycle.state.isOn = t.cycle.state.isOn)
    (hl : t.lamps.settings = s.lamps.settings) (hp : PortsTook t u) (a : ConsumersTook h s t) (b : ConsumersTook h' t u) :
    ConsumersTook (fun e => h e ++ h' e) s u where
  items k gs hk w := by
    have ka := a.gauges k
    rw [hk] at ka
    simp only [Option.elim_some] at ka
    have kt : t.gauges[k].settings = some gs := by rw [ka, Gauge.foldl_settings, hk]
    rcases (Gauge.changedBy_append ..).1 w with w | w
    · exact (a.items k gs hk w).took hp
    · exact b.items k gs kt ((Gauge.changedBy_congr hs _ _).1 (by rw [ka]; exact w))
  silent p i m := by
    rcases b.silent p i m with m | q
    · refine (a.silent p i m).imp id fun q k e => ?_
      obtain ⟨gs, hk, w⟩ := q k e
      exact ⟨gs, hk, (Gauge.changedBy_append ..).2 (.inl w)⟩
    · refine .inr fun k e => ?_
      obtain ⟨gs, hk, w⟩ := q k e
      have ka := a.gauges k
      cases hk' : s.gauges[k].settings with
      | none =>
        rw [hk'] at ka
        simp only [Option.elim_none] at ka
        rw [ka, hk'] at hk
        cases hk
      | some gs' =>
        rw [hk'] at ka
        simp only [Option.elim_some] at ka
        rw [ka, Gauge.foldl_settings, hk'] at hk
        cases hk
        rw [ka] at w
        exact ⟨gs, rfl, (Gauge.changedBy_append ..).2 (.inr ((Gauge.changedBy_congr hs _ _).2 w))⟩
  gauges k := by
    have ka := a.gauges k
    have kb := b.gauges k
    cases hk : s.gauges[k].settings with
    | none =>
      rw [hk] at ka
      simp only [Option.elim_none] at ka ⊢
      rw [ka, hk] at kb
      exact kb
    | some gs =>
      rw [hk] at ka
      simp only [Option.elim_some] at ka ⊢
      have : t.gauges[k].settings = some gs := by rw [ka, Gauge.foldl_settings, hk]
      rw [this] at kb
      simp only [Option.elim_some] at kb
      rw [kb, ka, Gauge.effectiveUpdate_congr hs, List.foldl_append]
  telltales i k := by
    rw [b.telltales i k, hl, a.telltales i k]
    cases s.lamps.settings <;> simp [Claim.judgeViews_append]
  chimes i k := by
    rw [b.chimes i k, hl, a.chimes i k]
    cases s.lamps.settings <;> simp [Claim.judgeViews_append]

/-- What is handed may be written in another way. -/
theorem ConsumersTook.congr {h h' : Fin 64 → List View} {s t : State} (k : ConsumersTook h s t) (e : ∀ i, h i = h' i) : ConsumersTook h' s t := by
  have : h = h' := funext e
  exact this ▸ k

/-- A loop over the gauges whose step changes its gauge as a function of it. -/
theorem forAll_gauges {f : Fin 6 → State → State} {g : Fin 6 → Gauge → Gauge} {C : State → Prop}
    (hf : ∀ i s, C s → C (f i s) ∧ (f i s).gauges = s.gauges.set i (g i s.gauges[i])) (s : State) (hs : C s) :
    C (forAll 6 f s) ∧ ∀ i : Fin 6, (forAll 6 f s).gauges[i] = g i s.gauges[i] := by
  have key : ∀ l : List (Fin 6), l.Nodup → ∀ s, C s → C (l.foldl (fun s i => f i s) s) ∧
      ∀ i : Fin 6, (l.foldl (fun s i => f i s) s).gauges[i] = if i ∈ l then g i s.gauges[i] else s.gauges[i] := by
    intro l
    induction l with
    | nil => intro _ s h; exact ⟨h, fun i => by simp⟩
    | cons a l ih =>
      intro hn s h
      obtain ⟨hc, he⟩ := hf a s h
      obtain ⟨hc', h'⟩ := ih (List.nodup_cons.1 hn).2 _ hc
      refine ⟨hc', fun i => ?_⟩
      rw [List.foldl_cons, h' i, he]
      by_cases e : i = a
      · subst e
        rw [if_neg (List.nodup_cons.1 hn).1, if_pos (by simp)]; simp
      · have ne : (a : Nat) ≠ i := fun k => e (Fin.ext k.symm)
        simp [ne, e]
  obtain ⟨hc, h⟩ := key (List.finRange 6) (List.nodup_finRange 6) s hs
  refine ⟨hc, fun i => ?_⟩
  have := h i
  rw [if_pos (List.mem_finRange i)] at this
  exact this

/-- A loop over the gauges whose step reports its gauge where, and only where, the gauge as it stood asks for it. -/
theorem forAll_gauges_reported {f : Fin 6 → State → State} {g : Fin 6 → Gauge → Gauge} {C : State → Prop} {Q : Fin 6 → Gauge → Prop}
    (hf : ∀ i s, C s → C (f i s) ∧ (f i s).gauges = s.gauges.set i (g i s.gauges[i]) ∧ PortsTook s (f i s) ∧
      (Q i s.gauges[i] → noticed (gaugeItem i) (f i s)) ∧
      ReportedOnly (fun j => ∀ k : Fin 6, j = gaugeItem k → k = i ∧ Q i s.gauges[i]) s (f i s)) (s : State) (hs : C s) :
    (∀ k : Fin 6, Q k s.gauges[k] → noticed (gaugeItem k) (forAll 6 f s)) ∧
    ReportedOnly (fun j => ∀ k : Fin 6, j = gaugeItem k → Q k s.gauges[k]) s (forAll 6 f s) := by
  have key : ∀ l : List (Fin 6), l.Nodup → ∀ s, C s →
      PortsTook s (l.foldl (fun s i => f i s) s) ∧
      (∀ k ∈ l, Q k s.gauges[k] → noticed (gaugeItem k) (l.foldl (fun s i => f i s) s)) ∧
      ReportedOnly (fun j => ∀ k : Fin 6, j = gaugeItem k → k ∈ l ∧ Q k s.gauges[k]) s (l.foldl (fun s i => f i s) s) := by
    intro l
    induction l with
    | nil => intro _ s _; exact ⟨.refl s, fun _ h => by simp at h, .refl s _⟩
    | cons a l ih =>
      intro hn s hs
      obtain ⟨hc, hg, hp, hq, hr⟩ := hf a s hs
      obtain ⟨I1, I2, I3⟩ := ih (List.nodup_cons.1 hn).2 _ hc
      have other : ∀ k : Fin 6, k ≠ a → (f a s).gauges[k] = s.gauges[k] := fun k h => by
        have : (a : Nat) ≠ k := fun e => h (Fin.ext e.symm)
        simp [hg, this]
      refine ⟨hp.trans I1, fun k hk w => ?_, fun p j h => ?_⟩
      · by_cases e : k = a
        · subst e; exact (hq w).took I1
        · exact I2 k ((List.mem_cons.1 hk).resolve_left e) (by rw [other k e]; exact w)
      · rcases I3 p j h with h | q
        · refine (hr p j h).imp id fun q k e => ?_
          obtain ⟨rfl, w⟩ := q k e
          exact ⟨List.mem_cons_self .., w⟩
        · refine .inr fun k e => ?_
          obtain ⟨m, w⟩ := q k e
          have : k ≠ a := fun h => (List.nodup_cons.1 hn).1 (h ▸ m)
          exact ⟨List.mem_cons_of_mem _ m, by rw [← other k this]; exact w⟩
  obtain ⟨-, h2, h3⟩ := key (List.finRange 6) (List.nodup_finRange 6) s hs
  exact ⟨fun k => h2 k (List.mem_finRange k), h3.mono fun _ q k e => (q k e).2⟩

@[simp] theorem judgePassage_gauges (s : State) : (judgePassage s).gauges = s.gauges := by
  unfold judgePassage; repeat' split
  all_goals rfl

@[simp] theorem judgePassage_signals (s : State) : (judgePassage s).signals = s.signals := by
  unfold judgePassage; repeat' split
  all_goals rfl

@[simp] theorem judgePassage_lamps (s : State) : (judgePassage s).lamps = s.lamps := by
  unfold judgePassage; repeat' split
  all_goals rfl

@[simp] theorem putGauge_gauges (i : Fin 6) (g : Gauge) (s : State) : (putGauge i g s).gauges = s.gauges.set i g := by
  unfold putGauge; dsimp only
  repeat' split
  all_goals simp

@[simp] theorem putGauge_signals (i : Fin 6) (g : Gauge) (s : State) : (putGauge i g s).signals = s.signals := by
  unfold putGauge; dsimp only
  repeat' split
  all_goals simp

@[simp] theorem putGauge_lamps (i : Fin 6) (g : Gauge) (s : State) : (putGauge i g s).lamps = s.lamps := by
  unfold putGauge; dsimp only
  repeat' split
  all_goals simp

@[simp] theorem judgeLatches_signals (e : Fin 64) (s : State) : (judgeLatches e s).signals = s.signals := by
  unfold judgeLatches; split
  · rfl
  · exact State.setLamps_signals ..

@[simp] theorem judgeLatches_gauges (e : Fin 64) (s : State) : (judgeLatches e s).gauges = s.gauges := by
  unfold judgeLatches; split
  · rfl
  · exact State.setLamps_gauges ..

@[simp] theorem judgeLatches_ports (e : Fin 64) (s : State) : (judgeLatches e s).ports = s.ports := by
  unfold judgeLatches; split
  · rfl
  · exact State.setLamps_ports ..

theorem vector_set_self {α : Type} {n : Nat} (v : Vector α n) (i : Fin n) : v.set i v[i] = v := by
  ext j hj
  by_cases e : (i : Nat) = j
  · subst e; simp
  · rw [Vector.getElem_set_ne _ _ e]

/-- A gauge replaced is reported where, and only where, it differs (R90). -/
theorem putGauge_reported (i : Fin 6) (g : Gauge) (s : State) :
    PortsTook s (putGauge i g s) ∧ (GaugeDiffers s.gauges[i] g → noticed (gaugeItem i) (putGauge i g s)) ∧
    ReportedOnly (fun j => j = gaugeItem i ∧ GaugeDiffers s.gauges[i] g) s (putGauge i g s) := by
  have pass : ∀ t : State, PortsTook t (judgePassage t) ∧ ∀ N, ReportedOnly N t (judgePassage t) := fun t => by
    refine ⟨(afterView_judgePassage t).table.ports, fun N => ?_⟩
    unfold judgePassage enterRun enterParked changeCycle
    repeat' split
    all_goals first
      | exact .refl t N
      | exact ReportedOnly.congr rfl rfl (.signalEvent t N .cycle)
  have put : PortsTook s (if gaugeNotice s.gauges[i] g then raiseItem (gaugeItem i) (s.setGauges (s.gauges.set i g))
        else s.setGauges (s.gauges.set i g)) ∧
      (GaugeDiffers s.gauges[i] g → noticed (gaugeItem i) (if gaugeNotice s.gauges[i] g then
        raiseItem (gaugeItem i) (s.setGauges (s.gauges.set i g)) else s.setGauges (s.gauges.set i g))) ∧
      ReportedOnly (fun j => j = gaugeItem i ∧ GaugeDiffers s.gauges[i] g) s (if gaugeNotice s.gauges[i] g then
        raiseItem (gaugeItem i) (s.setGauges (s.gauges.set i g)) else s.setGauges (s.gauges.set i g)) := by
    split
    · rename_i h
      exact ⟨(PortsTook.of_ports rfl).trans (.raiseItem _ _), fun _ => noticed_raiseItem _ _,
        (ReportedOnly.of_ports _ rfl).trans (.raiseItem _ ⟨rfl, (gaugeNotice_iff ..).1 h⟩)⟩
    · rename_i h
      exact ⟨.of_ports rfl, fun k => absurd ((gaugeNotice_iff ..).2 k) h, .of_ports _ rfl⟩
  unfold putGauge
  dsimp only
  generalize (if gaugeNotice s.gauges[i] g then raiseItem (gaugeItem i) (s.setGauges (s.gauges.set i g))
    else s.setGauges (s.gauges.set i g)) = t at put ⊢
  obtain ⟨h1, h2, h3⟩ := put
  split
  · exact ⟨h1, h2, h3⟩
  · exact ⟨h1.trans (pass t).1, fun k => (h2 k).took (pass t).1, h3.trans ((pass t).2 _)⟩

/-- The judgement of an entry's claims hands its view to them. -/
theorem Claim.judge_views (e : Fin 64) (v : View) (a : Bool) (c : Claim) :
    c.judge e v.value a = c.judgeViews (fun i => if i = e then [v] else []) a := by
  cases c with
  | signal e' test t h p =>
    by_cases k : e' = e
    · subst k; simp [Claim.judgeViews]
    · simp [Claim.judgeViews, Claim.judge, k]
  | _ => rfl

/-- An effective update handed to the gauges that name the entry reports those that it changes (R90). -/
theorem handGauges_reported (i : Fin 64) (s : State) :
    let t := forAll 6 (fun k s => if s.gauges[k].settings.any (fun gs => gs.desc.entry == i) then
      putGauge k (s.gauges[k].effectiveUpdate s.cycle.state s.signals[i].view) s else s) s
    let Q (g : Gauge) : Prop := g.settings.any (fun gs => gs.desc.entry == i) = true ∧ GaugeDiffers g (g.effectiveUpdate s.cycle.state s.signals[i].view)
    (∀ k : Fin 6, Q s.gauges[k] → noticed (gaugeItem k) t) ∧ ReportedOnly (fun j => ∀ k : Fin 6, j = gaugeItem k → Q s.gauges[k]) s t := by
  refine forAll_gauges_reported
    (g := fun _ g => if g.settings.any (fun gs => gs.desc.entry == i) then g.effectiveUpdate s.cycle.state s.signals[i].view else g)
    (Q := fun _ g => g.settings.any (fun gs => gs.desc.entry == i) = true ∧ GaugeDiffers g (g.effectiveUpdate s.cycle.state s.signals[i].view))
    (C := fun t => t.signals = s.signals ∧ t.cycle.state.isOn = s.cycle.state.isOn) (fun k t ht => ?_) s ⟨rfl, rfl⟩
  by_cases hk : t.gauges[k].settings.any (fun gs => gs.desc.entry == i) = true
  · rw [if_pos hk, if_pos hk, Gauge.effectiveUpdate_congr ht.2, ht.1]
    have T := afterView_putGauge (s := t) (i := k) (g := t.gauges[k].effectiveUpdate s.cycle.state s.signals[i].view) (by simp)
    obtain ⟨R1, R2, R3⟩ := putGauge_reported k (t.gauges[k].effectiveUpdate s.cycle.state s.signals[i].view) t
    refine ⟨⟨(putGauge_signals ..).trans ht.1, T.table.passage.isOn.trans ht.2⟩, putGauge_gauges .., R1, fun h => R2 h.2, R3.mono fun j h n e => ?_⟩
    exact ⟨gaugeItem_inj (e.symm.trans h.1), hk, h.2⟩
  · rw [if_neg hk, if_neg hk]
    exact ⟨ht, (vector_set_self _ _).symm, .refl t, fun h => absurd h.1 hk, .refl t _⟩

/-- An effective update handed over (R11, R92, R112). -/
theorem handEffective_took (i : Fin 64) (s : State) :
    (handEffective i s).signals = s.signals ∧ ConsumersTook (fun e => if e = i then [s.signals[i].view] else []) s (handEffective i s) := by
  unfold handEffective
  obtain ⟨⟨hs, hl, ho⟩, hg⟩ := forAll_gauges
    (f := fun k s => if s.gauges[k].settings.any (fun gs => gs.desc.entry == i) then
      putGauge k (s.gauges[k].effectiveUpdate s.cycle.state s.signals[i].view) s else s)
    (g := fun _ g => if g.settings.any (fun gs => gs.desc.entry == i) then g.effectiveUpdate s.cycle.state s.signals[i].view else g)
    (C := fun t => t.signals = s.signals ∧ t.lamps = s.lamps ∧ t.cycle.state.isOn = s.cycle.state.isOn) (fun k t ht => by
      split
      · refine ⟨⟨by simpa using ht.1, by simpa using ht.2.1, ?_⟩, ?_⟩
        · rw [(afterView_putGauge (s := t) (i := k) (g := _) (by simp)).table.passage.isOn]; exact ht.2.2
        · rw [putGauge_gauges, Gauge.effectiveUpdate_congr ht.2.2, ht.1]
      · exact ⟨ht, (vector_set_self _ _).symm⟩) s ⟨rfl, rfl, rfl⟩
  obtain ⟨hn, hr⟩ := handGauges_reported i s
  dsimp only at hg ⊢
  generalize forAll 6 (fun k s => if s.gauges[k].settings.any (fun gs => gs.desc.entry == i) then
    putGauge k (s.gauges[k].effectiveUpdate s.cycle.state s.signals[i].view) s else s) s = t at hs hl ho hg hn hr ⊢
  have ports := judgeLatches_ports i t
  refine ⟨by simpa using hs, ?_, ?_, ?_, fun k gs hk w => ?_, ?_⟩
  · intro k
    have := hg k
    rw [judgeLatches_gauges, this]
    cases hk : s.gauges[k].settings with
    | none => simp
    | some gs =>
      by_cases e : gs.desc.entry = i
      · simp [e]
      · simp [e]
  · intro j k
    unfold judgeLatches
    rw [hl]
    cases hk : s.lamps.settings with
    | none => simp [hl]
    | some st => simp [hs, Claim.judge_views]
  · intro j k
    unfold judgeLatches
    rw [hl]
    cases hk : s.lamps.settings with
    | none => simp [hl]
    | some st => simp [hs, Claim.judge_views]
  · have e : gs.desc.entry = i := by
      by_contra e
      rw [if_neg e] at w
      exact w
    rw [if_pos e] at w
    exact (hn k ⟨by rw [hk]; exact beq_iff_eq.2 e, w.resolve_right id⟩).took (.of_ports ports)
  · refine ReportedOnly.congr rfl ports (hr.mono fun j q k e => ?_)
    obtain ⟨h, d⟩ := q k e
    obtain ⟨gs, hk, h⟩ := Option.any_eq_true _ _ |>.1 h
    exact ⟨gs, hk, by rw [if_pos (by simpa using h)]; exact .inl d⟩

/-! ## Notices of entries -/

theorem setEntry_here (i : Fin 64) (e : Entry) (s : State) : (setEntry i e s).signals[i] = e := by simp

theorem setEntry_other {i j : Fin 64} (e : Entry) (s : State) (h : j ≠ i) : (setEntry i e s).signals[j] = s.signals[j] := by
  have : (i : Nat) ≠ j := fun e => h (Fin.ext e.symm)
  simp [this]

theorem setEntry_consumers (i : Fin 64) (e : Entry) (s : State) : ConsumersTook (fun _ => []) s (setEntry i e s) :=
  .of_eq (noGauge_of_ports rfl) rfl (fun _ => rfl) fun _ => rfl

theorem noticeEntry_consumers (before : Entry) (i : Fin 64) (s : State) : ConsumersTook (fun _ => []) s (noticeEntry before i s) := by
  unfold noticeEntry
  dsimp only
  split
  · exact .of_eq ((noGauge_of_ports rfl).trans (.raiseItem _ fun k => signal_ne_gauge i k)) rfl (fun _ => rfl) fun _ => rfl
  · exact .refl s

theorem noticeEntry_other (before : Entry) {i j : Fin 64} (s : State) (h : j ≠ i) : (noticeEntry before i s).signals[j] = s.signals[j] := by
  unfold noticeEntry
  dsimp only
  split
  · exact setEntry_other _ s h
  · rfl

/-- The notice of an entry leaves all of it but its reference value, from which its value has then not moved (R20, R21). -/
theorem noticeEntry_here (before : Entry) (i : Fin 64) (s : State) :
    (noticeEntry before i s).signals[i] = { s.signals[i] with reference := (noticeEntry before i s).signals[i].reference } ∧
    (noticeEntry before i s).signals[i].moved = false ∧
    (entryChanged before s.signals[i] = true → noticed (signalItem i) (noticeEntry before i s)) := by
  unfold noticeEntry
  dsimp only
  split
  · have h := setEntry_here i { s.signals[i] with reference := s.signals[i].view.value } s
    generalize hn : setEntry i { s.signals[i] with reference := s.signals[i].view.value } s = n at h
    have h' : (raiseItem (signalItem i) n).signals[i] = { s.signals[i] with reference := s.signals[i].view.value } := h
    refine ⟨by rw [h'], by rw [h']; simp [Entry.moved], fun _ => noticed_raiseItem _ _⟩
  · rename_i h
    refine ⟨rfl, ?_, fun k => absurd k h⟩
    simp only [entryChanged, Bool.not_eq_true, Bool.or_eq_false_iff] at h
    exact h.1.1.1.1

/-! ## Pairs -/

/-- What the judgement of the pairs of entry `i` may change (R17, R19). -/
structure PairsJudged (i : Fin 64) (s t : State) : Prop where
  kept : ∀ e : Fin 64, EntryKept s.signals[e] t.signals[e]
  reference : ∀ e : Fin 64, t.signals[e].reference = s.signals[e].reference
  marks : ∀ e : Fin 64, t.signals[e].disagree = true → s.signals[e].disagree = true
  others : ∀ e : Fin 64, e ≠ i → s.signals[e].desc.partner ≠ some i →
    t.signals[e].disagree = s.signals[e].disagree ∧ t.signals[e].disagreement = s.signals[e].disagreement
  gauges : t.gauges = s.gauges
  lamps : t.lamps = s.lamps
  cycle : t.cycle = s.cycle
  ports : t.ports = s.ports

theorem PairsJudged.refl (i : Fin 64) (s : State) : PairsJudged i s s :=
  ⟨fun _ => .refl _, fun _ => rfl, fun _ => id, fun _ _ _ => ⟨rfl, rfl⟩, rfl, rfl, rfl, rfl⟩

theorem PairsJudged.trans {i : Fin 64} {s t u : State} (a : PairsJudged i s t) (b : PairsJudged i t u) : PairsJudged i s u where
  kept e := (a.kept e).trans (b.kept e)
  reference e := (b.reference e).trans (a.reference e)
  marks e h := a.marks e (b.marks e h)
  others e h k := by
    have k' : t.signals[e].desc.partner ≠ some i := by rw [(a.kept e).desc]; exact k
    exact ⟨(b.others e h k').1.trans (a.others e h k).1, (b.others e h k').2.trans (a.others e h k).2⟩
  gauges := b.gauges.trans a.gauges
  lamps := b.lamps.trans a.lamps
  cycle := b.cycle.trans a.cycle
  ports := b.ports.trans a.ports

theorem Entry.judgePair_marks (b : Bool) (p e : Entry) :
    (Entry.judgePair b p e).reference = e.reference ∧ ((Entry.judgePair b p e).disagree = true → e.disagree = true) := by
  unfold Entry.judgePair
  repeat' split
  all_goals exact ⟨rfl, fun h => by first | exact h | cases h⟩

theorem judgePairs_spec (b : Bool) (i : Fin 64) (s : State) : PairsJudged i s (judgePairs b i s) := by
  refine forAll_rel (PairsJudged.refl i) (fun _ _ _ => PairsJudged.trans) _ (fun a s => ?_) s
  split
  · rename_i ha
    unfold judgePairOf
    split
    · exact .refl i s
    · rename_i p hp
      have here := setEntry_here a (Entry.judgePair b s.signals[p] s.signals[a]) s
      have other : ∀ e, e ≠ a → (setEntry a (Entry.judgePair b s.signals[p] s.signals[a]) s).signals[e] = s.signals[e] :=
        fun e h => setEntry_other _ s h
      have J := Entry.judgePair_marks b s.signals[p] s.signals[a]
      refine ⟨fun e => ?_, fun e => ?_, fun e => ?_, fun e h k => ?_, rfl, rfl, rfl, rfl⟩
      · by_cases he : e = a
        · subst he; rw [here]; exact Entry.judgePair_kept ..
        · rw [other e he]; exact .refl _
      · by_cases he : e = a
        · subst he; rw [here]; exact J.1
        · rw [other e he]
      · by_cases he : e = a
        · subst he; rw [here]; exact J.2
        · rw [other e he]; exact id
      · have he : e ≠ a := fun he => by
          subst he
          exact ha.elim h k
        rw [other e he]
        exact ⟨rfl, rfl⟩
  · exact .refl i s

/-- The judgement of a pair reads the views of both entries and the tolerance, persistence, mark and timer of the one that names the other. -/
theorem PairJudged.of_views {b : Bool} {e f p p' : Entry} (hp : p'.view = p.view) (h : f = { Entry.judgePair b p e with reference := f.reference }) :
    PairJudged b e f p' := by
  unfold PairJudged
  have k : f.view = e.view ∧ f.desc = e.desc := by
    rw [h]; exact ⟨(Entry.judgePair_kept ..).view, (Entry.judgePair_kept ..).desc⟩
  have hd : f.disagree = (Entry.judgePair b p e).disagree := by rw [h]
  have ht : f.disagreement = (Entry.judgePair b p e).disagreement := by rw [h]
  rw [hd, ht]
  unfold Entry.judgePair
  dsimp only
  rw [k.1, k.2, hp]
  repeat' split
  all_goals exact ⟨rfl, rfl⟩

/-- The judgement is the same where the marks before and the views after are. -/
theorem PairJudged.congr {b : Bool} {e e' f f' p p' : Entry} (h : PairJudged b e f p) (hd : f'.disagree = f.disagree)
    (ht : f'.disagreement = f.disagreement) (hv : f'.view = f.view) (hc : f'.desc = f.desc) (hp : p'.view = p.view)
    (he : e'.disagree = e.disagree) (he' : e'.disagreement = e.disagreement) : PairJudged b e' f' p' := by
  unfold PairJudged Entry.judgePair at *
  dsimp only at *
  rw [hd, ht, hv, hc, hp, he, he']
  convert h using 2 <;> (repeat' split) <;> simp_all

/-- A pair that entry `i` concerns is judged once, by the views as they stand. -/
theorem judgePairs_here (b : Bool) (i : Fin 64) (s : State) {e p : Fin 64} (hp : s.signals[e].desc.partner = some p) (hi : e = i ∨ p = i) :
    ∃ q : Entry, q.view = s.signals[p].view ∧ (judgePairs b i s).signals[e] = Entry.judgePair b q s.signals[e] := by
  have key : ∀ l : List (Fin 64), l.Nodup → ∀ s : State, s.signals[e].desc.partner = some p →
      (e ∉ l → (l.foldl (fun s a => if a = i ∨ s.signals[a].desc.partner = some i then judgePairOf b a s else s) s).signals[e] = s.signals[e]) ∧
      (e ∈ l → ∃ q : Entry, q.view = s.signals[p].view ∧
        (l.foldl (fun s a => if a = i ∨ s.signals[a].desc.partner = some i then judgePairOf b a s else s) s).signals[e] =
          Entry.judgePair b q s.signals[e]) := by
    intro l
    induction l with
    | nil => intro _ s _; exact ⟨fun _ => rfl, fun h => by simp at h⟩
    | cons a l ih =>
      intro hn s hs
      obtain ⟨hm, hn⟩ := List.nodup_cons.1 hn
      rw [List.foldl_cons]
      have one : ∀ j : Fin 64, EntryKept s.signals[j]
          (if a = i ∨ s.signals[a].desc.partner = some i then judgePairOf b a s else s).signals[j] ∧
          (j ≠ a → (if a = i ∨ s.signals[a].desc.partner = some i then judgePairOf b a s else s).signals[j] = s.signals[j]) := by
        intro j
        split
        · unfold judgePairOf
          split
          · exact ⟨.refl _, fun _ => rfl⟩
          · by_cases hj : j = a
            · subst hj; rw [setEntry_here]; exact ⟨Entry.judgePair_kept .., fun h => absurd rfl h⟩
            · rw [setEntry_other _ s hj]; exact ⟨.refl _, fun _ => rfl⟩
        · exact ⟨.refl _, fun _ => rfl⟩
      have own : e = a → (if a = i ∨ s.signals[a].desc.partner = some i then judgePairOf b a s else s).signals[e] =
          Entry.judgePair b s.signals[p] s.signals[e] := by
        intro h
        subst h
        rw [if_pos (hi.imp id fun h => h ▸ hs)]
        unfold judgePairOf
        rw [hs]
        exact setEntry_here ..
      generalize (if a = i ∨ s.signals[a].desc.partner = some i then judgePairOf b a s else s) = m at one own
      have I := ih hn m (by rw [(one e).1.desc]; exact hs)
      refine ⟨fun h => ?_, fun h => ?_⟩
      · simp only [List.mem_cons, not_or] at h
        rw [I.1 h.2, (one e).2 h.1]
      · by_cases ha : e = a
        · exact ⟨s.signals[p], rfl, by rw [I.1 (ha ▸ hm), own ha]⟩
        · obtain ⟨q, hq, h⟩ := I.2 ((List.mem_cons.1 h).resolve_left ha)
          exact ⟨q, by rw [hq, (one p).1.view], by rw [h, (one e).2 ha]⟩
  exact (key (List.finRange 64) (List.nodup_finRange 64) s hp).2 (List.mem_finRange e)

/-! ## Partners -/

/-- What the report of the entries whose marks a recomputation of entry `i` has cleared may change. -/
structure PartnersReported (before : Vector Entry 64) (i : Fin 64) (l : List (Fin 64)) (s t : State) : Prop where
  entries : ∀ e : Fin 64, t.signals[e] = { s.signals[e] with reference := t.signals[e].reference }
  untouched : ∀ e : Fin 64, e ∉ l ∨ e = i ∨ before[e].disagree = s.signals[e].disagree → t.signals[e] = s.signals[e]
  moved : ∀ e : Fin 64, s.signals[e].moved = false → t.signals[e].moved = false
  reported : ∀ e : Fin 64, e ∈ l → e ≠ i → before[e].disagree ≠ s.signals[e].disagree → noticed (signalItem e) t
  ports : PortsTook s t
  consumers : ConsumersTook (fun e => if e ∈ l ∧ e ≠ i ∧ before[e].disagree ≠ s.signals[e].disagree then [s.signals[e].view] else []) s t

theorem reportPartners_spec (before : Vector Entry 64) (i : Fin 64) (s : State) :
    PartnersReported before i (List.finRange 64) s (reportPartners before i s) := by
  have key : ∀ l : List (Fin 64), l.Nodup → ∀ s : State, PartnersReported before i l s (l.foldl (fun s a =>
      if a ≠ i ∧ before[a].disagree ≠ s.signals[a].disagree then handEffective a (noticeEntry before[a] a s) else s) s) := by
    intro l
    induction l with
    | nil =>
      intro _ s
      exact ⟨fun _ => rfl, fun _ _ => rfl, fun _ => id, fun _ h => by simp at h, .refl s, (ConsumersTook.refl s).congr fun _ => by simp⟩
    | cons a l ih =>
      intro hn s
      obtain ⟨hm, hn⟩ := List.nodup_cons.1 hn
      rw [List.foldl_cons]
      split
      · rename_i hc
        obtain ⟨hi, hd⟩ := hc
        obtain ⟨N1, N2, N3⟩ := noticeEntry_here before[a] a s
        have No : ∀ e, e ≠ a → (noticeEntry before[a] a s).signals[e] = s.signals[e] := fun e h => noticeEntry_other _ s h
        have Nc := noticeEntry_consumers before[a] a s
        have Nt := (afterView_noticeEntry before[a] a s).table
        have Ht := (afterView_handEffective a (noticeEntry before[a] a s)).table
        obtain ⟨Hs, Hc⟩ := handEffective_took a (noticeEntry before[a] a s)
        have hv : (noticeEntry before[a] a s).signals[a].view = s.signals[a].view := by rw [N1]
        rw [hv] at Hc
        generalize noticeEntry before[a] a s = n at N1 N2 N3 No Nc Nt Ht Hs Hc ⊢
        generalize handEffective a n = h at Ht Hs Hc ⊢
        have I := ih hn h
        generalize l.foldl (fun s a =>
          if a ≠ i ∧ before[a].disagree ≠ s.signals[a].disagree then handEffective a (noticeEntry before[a] a s) else s) h = t at I ⊢
        have same : ∀ e, e ≠ a → h.signals[e] = s.signals[e] := fun e k => by rw [Hs]; exact No e k
        have here : t.signals[a] = n.signals[a] := by rw [I.untouched a (.inl hm), Hs]
        have hdis : ∀ e : Fin 64, h.signals[e].disagree = s.signals[e].disagree := fun e => by
          by_cases k : e = a
          · subst k; rw [Hs, N1]
          · rw [same e k]
        have hview : ∀ e : Fin 64, h.signals[e].view = s.signals[e].view := fun e => by
          by_cases k : e = a
          · subst k; rw [Hs, N1]
          · rw [same e k]
        refine ⟨fun e => ?_, fun e k => ?_, fun e k => ?_, fun e k k1 k2 => ?_, Nt.ports.trans (Ht.ports.trans I.ports), ?_⟩
        · by_cases k : e = a
          · subst k; rw [here]; exact N1
          · rw [I.entries e, same e k]
        · have ka : e ≠ a := fun ka => by
            subst ka
            simp only [List.mem_cons, true_or, not_true, false_or] at k
            exact k.elim hi hd
          rw [I.untouched e ?_, same e ka]
          rw [hdis e]
          simp only [List.mem_cons, ka, false_or] at k
          exact k
        · by_cases ka : e = a
          · subst ka; rw [here]; exact N2
          · exact I.moved e (by rw [same e ka]; exact k)
        · by_cases ka : e = a
          · subst ka
            refine (((N3 ?_).took Ht.ports).took I.ports)
            unfold entryChanged
            rw [Bool.or_eq_true]
            exact .inr (bne_iff_ne.2 k2)
          · simp only [List.mem_cons, ka, false_or] at k
            exact I.reported e k k1 (by rw [hdis e]; exact k2)
        · refine ((Nc.trans Nt.passage.isOn.symm Nt.lampSettings Ht.ports Hc).trans (Nt.trans Ht).passage.isOn.symm (Nt.trans Ht).lampSettings
            I.ports I.consumers).congr fun e => ?_
          rw [hdis e, hview e]
          by_cases ka : e = a
          · subst ka
            simp only [List.mem_cons, true_or, hi, hd, hm, ne_eq, not_false_eq_true, and_self, if_true, false_and, if_false,
              List.append_nil, List.nil_append]
          · simp [ka]
      · rename_i hc
        have I := ih hn s
        have ha : a = i ∨ before[a].disagree = s.signals[a].disagree := by
          by_cases k : a = i
          · exact .inl k
          · exact .inr (not_not.1 fun k' => hc ⟨k, k'⟩)
        generalize l.foldl (fun s a =>
          if a ≠ i ∧ before[a].disagree ≠ s.signals[a].disagree then handEffective a (noticeEntry before[a] a s) else s) s = t at I ⊢
        refine ⟨I.entries, fun e k => I.untouched e ?_, I.moved, fun e k k1 k2 => I.reported e ?_ k1 k2, I.ports, I.consumers.congr fun e => ?_⟩
        · by_cases ka : e = a
          · subst ka; exact .inr ha
          · simpa only [List.mem_cons, ka, false_or] using k
        · rcases List.mem_cons.1 k with ka | k
          · subst ka; exact absurd ⟨k1, k2⟩ hc
          · exact k
        · by_cases ka : e = a
          · subst ka
            rw [if_neg (fun k => hm k.1), if_neg (fun k => hc k.2)]
          · simp [ka]
  exact key (List.finRange 64) (List.nodup_finRange 64) s

/-! ## One entry -/

/-- What one operation on entry `i` brings about: a recomputation where `fed`, and nothing that is seen where not. -/
structure Stepped (b : Bool) (i : Fin 64) (fed : Prop) (s t : State) : Prop where
  judged : fed → ∀ e p : Fin 64, s.signals[e].desc.partner = some p → e = i ∨ p = i → e ≠ p →
    PairJudged b s.signals[e] t.signals[e] t.signals[p]
  marks : ∀ e : Fin 64, t.signals[e].disagree = true → s.signals[e].disagree = true
  pairs : ∀ e : Fin 64, ¬ (e = i ∧ fed) → ¬ (s.signals[e].desc.partner = some i ∧ fed) →
    t.signals[e].disagree = s.signals[e].disagree ∧ t.signals[e].disagreement = s.signals[e].disagreement
  references : ∀ e : Fin 64, ¬ (e = i ∧ fed) → t.signals[e].disagree = s.signals[e].disagree →
    t.signals[e].reference = s.signals[e].reference
  here : fed → t.signals[i].moved = false
  moved : ∀ e : Fin 64, ¬ (e = i ∧ fed) → s.signals[e].moved = false → t.signals[e].moved = false
  views : ∀ e : Fin 64, ¬ (e = i ∧ fed) → t.signals[e].view = s.signals[e].view
  reported : ∀ e : Fin 64,
    t.signals[e].view.state ≠ s.signals[e].view.state ∨ t.signals[e].view.source ≠ s.signals[e].view.source ∨
      t.signals[e].view.clamped ≠ s.signals[e].view.clamped ∨ t.signals[e].disagree ≠ s.signals[e].disagree →
    noticed (signalItem e) t
  consumers : ∃ handed, ConsumersTook handed s t ∧ (fed → handed i = [t.signals[i].view]) ∧
    ∀ e : Fin 64, ¬ (e = i ∧ fed) →
      handed e = [] ∨ (handed e = [t.signals[e].view] ∧ t.signals[e].disagree ≠ s.signals[e].disagree)

/-- An entry replaced by one with the same view, marks and reference value. -/
theorem stepped_setEntry {b : Bool} {i : Fin 64} {e : Entry} {s : State} {fed : Prop} (hf : ¬ fed) (hd : e.desc = s.signals[i].desc)
    (hv : e.view = s.signals[i].view) (h1 : e.disagree = s.signals[i].disagree) (h2 : e.disagreement = s.signals[i].disagreement)
    (h3 : e.reference = s.signals[i].reference) : Stepped b i fed s (setEntry i e s) := by
  have key : ∀ j : Fin 64, (setEntry i e s).signals[j].view = s.signals[j].view ∧ (setEntry i e s).signals[j].desc = s.signals[j].desc ∧
      (setEntry i e s).signals[j].disagree = s.signals[j].disagree ∧ (setEntry i e s).signals[j].disagreement = s.signals[j].disagreement ∧
      (setEntry i e s).signals[j].reference = s.signals[j].reference := fun j => by
    by_cases h : j = i
    · subst h; rw [setEntry_here]; exact ⟨hv, hd, h1, h2, h3⟩
    · rw [setEntry_other e s h]; exact ⟨rfl, rfl, rfl, rfl, rfl⟩
  refine ⟨fun h => absurd h hf, fun j h => (key j).2.2.1 ▸ h, fun j _ _ => ⟨(key j).2.2.1, (key j).2.2.2.1⟩, fun j _ _ => (key j).2.2.2.2, fun h => absurd h hf,
    fun j _ h => ?_, fun j _ => (key j).1, fun j h => ?_, _, setEntry_consumers i e s, fun h => absurd h hf, fun _ _ => .inl rfl⟩
  · unfold Entry.moved at h ⊢
    rw [(key j).1, (key j).2.1, (key j).2.2.2.2]
    exact h
  · rw [(key j).1, (key j).2.2.1] at h
    simp at h

theorem Stepped.refl {b : Bool} (i : Fin 64) {fed : Prop} (hf : ¬ fed) (s : State) : Stepped b i fed s s :=
  ⟨fun h => absurd h hf, fun _ => id, fun _ _ _ => ⟨rfl, rfl⟩, fun _ _ _ => rfl, fun h => absurd h hf, fun _ _ => id, fun _ _ => rfl, fun _ h => by simp at h,
    _, .refl s, fun h => absurd h hf, fun _ _ => .inl rfl⟩

/-- Without an update no mark is cleared. -/
theorem judgePairs_marks (i : Fin 64) (s : State) : ∀ e : Fin 64, (judgePairs false i s).signals[e].disagree = s.signals[e].disagree := by
  intro e
  refine forAll_rel (R := fun s t => t.signals[e].disagree = s.signals[e].disagree) (fun _ => rfl) (fun _ _ _ a b => b.trans a) _ (fun a s => ?_) s
  split
  · unfold judgePairOf
    split
    · rfl
    · by_cases h : e = a
      · subst h; rw [setEntry_here]
        unfold Entry.judgePair
        simp only [Bool.not_false, if_true]
        split <;> rfl
      · rw [setEntry_other _ s h]
  · rfl

/-- A recomputation of an entry that has changed in its slots and its reclaim timer (R11). -/
theorem recompute_stepped {s : State} {i : Fin 64} {e : Entry} (before : Entry) (b : Bool) {fed : Prop} (hf : fed) (hd : e.desc = s.signals[i].desc)
    (h1 : e.disagree = s.signals[i].disagree) (h2 : e.disagreement = s.signals[i].disagreement) (hv : before.view = s.signals[i].view)
    (hb : before.disagree = s.signals[i].disagree ∨ b = false) : Stepped b i fed s (recompute before b i (setEntry i e s)) := by
  unfold recompute
  dsimp only
  have T0 : (setEntry i (setEntry i e s).signals[i].select (setEntry i e s)) = setEntry i e.select s := by
    rw [setEntry_here]; unfold setEntry; simp only [State.setSignals_signals]
    show s.setSignals _ = s.setSignals _
    congr 1
    ext j hj; by_cases k : (i : Nat) = j <;> simp [k]
  rw [T0]
  have tab : ∀ j : Fin 64, j ≠ i → (setEntry i e s).signals[j] = s.signals[j] := fun j h => setEntry_other e s h
  generalize (setEntry i e s).signals = table at tab ⊢
  have S1o : ∀ j : Fin 64, j ≠ i → (setEntry i e.select s).signals[j] = s.signals[j] := fun j h => setEntry_other _ s h
  have S1i := setEntry_here i e.select s
  have S1c := setEntry_consumers i e.select s
  have S1t := (entryBecomes_setEntry (s := s) (i := i) (e := e.select) (by simpa using hd)).table
  have hsd : e.select.disagree = s.signals[i].disagree := by
    rw [← h1]; unfold Entry.select; dsimp only; split <;> (try split) <;> rfl
  have hsdt : e.select.disagreement = s.signals[i].disagreement := by
    rw [← h2]; unfold Entry.select; dsimp only; split <;> (try split) <;> rfl
  generalize setEntry i e.select s = s1 at S1o S1i S1c S1t ⊢
  have Ph := fun (j p : Fin 64) => judgePairs_here b i s1 (e := j) (p := p)
  have P := judgePairs_spec b i s1
  have Pt := (afterView_judgePairs b i s1).table
  have Pf : b = false → ∀ e : Fin 64, (judgePairs b i s1).signals[e].disagree = s1.signals[e].disagree := fun h => h ▸ judgePairs_marks i s1
  generalize judgePairs b i s1 = s2 at P Pt Pf Ph ⊢
  obtain ⟨N1, N2, N3⟩ := noticeEntry_here before i s2
  have No : ∀ j, j ≠ i → (noticeEntry before i s2).signals[j] = s2.signals[j] := fun j h => noticeEntry_other _ s2 h
  have Nc := noticeEntry_consumers before i s2
  have Nt := (afterView_noticeEntry before i s2).table
  generalize noticeEntry before i s2 = s3 at N1 N2 N3 No Nc Nt ⊢
  obtain ⟨Hs, Hc⟩ := handEffective_took i s3
  have Ht := (afterView_handEffective i s3).table
  generalize handEffective i s3 = s4 at Hs Hc Ht ⊢
  have R := reportPartners_spec table i s4
  generalize reportPartners table i s4 = t at R ⊢
  have Ri : t.signals[i] = s3.signals[i] := by rw [R.untouched i (.inr (.inl rfl)), Hs]
  have R4 : ∀ j : Fin 64, j ≠ i → s4.signals[j] = s2.signals[j] := fun j h => by rw [Hs, No j h]
  have s1dis : ∀ j : Fin 64, s1.signals[j].disagree = s.signals[j].disagree := fun j => by
    by_cases h : j = i
    · subst h; rw [S1i]; exact hsd
    · rw [S1o j h]
  have tdis : ∀ j : Fin 64, t.signals[j].disagree = s2.signals[j].disagree := fun j => by
    by_cases h : j = i
    · subst h; rw [Ri, N1]
    · rw [R.entries j, R4 j h]
  have tview : ∀ j : Fin 64, t.signals[j].view = s2.signals[j].view := fun j => by
    by_cases h : j = i
    · subst h; rw [Ri, N1]
    · rw [R.entries j, R4 j h]
  have ne : ∀ {j : Fin 64}, ¬ (j = i ∧ fed) → j ≠ i := fun h k => h ⟨k, hf⟩
  have view2 : ∀ j : Fin 64, j ≠ i → s2.signals[j].view = s.signals[j].view := fun j h => by rw [(P.kept j).view, S1o j h]
  have tent : ∀ j : Fin 64, t.signals[j] = { s2.signals[j] with reference := t.signals[j].reference } := fun j => by
    by_cases h : j = i
    · subst h; rw [Ri, N1]
    · rw [R.entries j, R4 j h]
  have s1marks : ∀ j : Fin 64, s1.signals[j].disagree = s.signals[j].disagree ∧ s1.signals[j].disagreement = s.signals[j].disagreement ∧
      s1.signals[j].desc = s.signals[j].desc := fun j => by
    by_cases h : j = i
    · subst h; rw [S1i]; exact ⟨hsd, hsdt, by simpa using hd⟩
    · rw [S1o j h]; exact ⟨rfl, rfl, rfl⟩
  refine ⟨fun _ j p hp hi _ => ?_, fun j h => ?_, fun j h k => ?_, fun j h k => ?_, fun _ => ?_, fun j h k => ?_, fun j h => ?_, fun j h => ?_, ?_⟩
  · obtain ⟨q, hq, h⟩ := Ph j p (by rw [(s1marks j).2.2]; exact hp) hi
    refine PairJudged.congr (e := s1.signals[j]) (f := t.signals[j]) (p := t.signals[p])
      (PairJudged.of_views (p := q) (by rw [hq, tview p, (P.kept p).view]) (by rw [← h]; exact tent j)) rfl rfl rfl rfl rfl
      (s1marks j).1.symm (s1marks j).2.1.symm
  · rw [tdis j] at h; rw [← s1dis j]; exact P.marks j h
  · have hj := ne h
    have kp : s1.signals[j].desc.partner ≠ some i := by rw [S1o j hj]; exact fun q => k ⟨q, hf⟩
    have K := P.others j hj kp
    rw [R.entries j, R4 j hj, K.1, K.2, S1o j hj]
    exact ⟨rfl, rfl⟩
  · have hj := ne h
    have : table[j].disagree = s4.signals[j].disagree := by
      rw [tab j hj, R4 j hj, ← tdis j]; exact k.symm
    rw [R.untouched j (.inr (.inr this)), R4 j hj, P.reference j, S1o j hj]
  · rw [Ri]; exact N2
  · have hj := ne h
    refine R.moved j ?_
    rw [R4 j hj]
    have : s1.signals[j].moved = false := by rw [S1o j hj]; exact k
    unfold Entry.moved at this ⊢
    rw [(P.kept j).view, P.reference j, (P.kept j).desc]
    exact this
  · rw [tview j, view2 j (ne h)]
  · by_cases hj : j = i
    · subst hj
      refine ((N3 ?_).took Ht.ports).took R.ports
      rw [tview j, tdis j] at h
      unfold entryChanged
      simp only [Bool.or_eq_true, bne_iff_ne]
      rcases h with h | h | h | h
      · exact .inl (.inl (.inl (.inr (by rw [hv]; exact h.symm))))
      · exact .inl (.inl (.inr (by rw [hv]; exact h.symm)))
      · exact .inl (.inr (by rw [hv]; exact h.symm))
      · refine .inr ?_
        rcases hb with hb | hb
        · rw [hb]; exact h.symm
        · exact absurd ((Pf hb j).trans (s1dis j)) h
    · rw [tview j, view2 j hj, tdis j] at h
      simp only [ne_eq, not_true_eq_false, false_or] at h
      refine R.reported j (List.mem_finRange j) hj ?_
      rw [tab j hj, R4 j hj]
      exact fun q => h q.symm
  · refine ⟨_, (((S1c.trans S1t.passage.isOn.symm S1t.lampSettings Pt.ports
      (ConsumersTook.of_eq (noGauge_of_ports P.ports) P.gauges (fun _ => by rw [P.lamps]) fun _ => by rw [P.lamps])).trans
      (S1t.trans Pt).passage.isOn.symm (S1t.trans Pt).lampSettings Nt.ports Nc).trans
      ((S1t.trans Pt).trans Nt).passage.isOn.symm ((S1t.trans Pt).trans Nt).lampSettings Ht.ports Hc).trans
      (((S1t.trans Pt).trans Nt).trans Ht).passage.isOn.symm (((S1t.trans Pt).trans Nt).trans Ht).lampSettings R.ports R.consumers,
      fun _ => ?_, fun j h => ?_⟩
    · simp [Ri]
    · have hj := ne h
      by_cases q : table[j].disagree = s4.signals[j].disagree
      · exact .inl (by simp only [hj, q, ne_eq, not_true_eq_false, and_false, if_false, List.append_nil])
      · refine .inr ⟨?_, ?_⟩
        · simp only [hj, q, ne_eq, not_false_eq_true, and_true, List.mem_finRange, if_true, if_false, List.nil_append]
          rw [R.entries j]
        · rw [tdis j, ← R4 j hj, ← tab j hj]
          exact fun k => q k.symm

/-! ## Reported entries -/

/-- The notice of an entry is asked for where it differs from what it was, by its reference value as it stands (R20). -/
theorem entryChanged_iff (a b : Entry) (hd : b.desc = a.desc) (hr : b.reference = a.reference) : entryChanged a b = true ↔ EntryDiffers a b := by
  unfold entryChanged EntryDiffers Entry.moved
  rw [hd, hr]
  simp only [Bool.or_eq_true, Bool.and_eq_true, bne_iff_ne, ne_eq, decide_eq_true_eq, Int.natAbs_eq_zero, sub_eq_zero, eq_comm (a := a.view.state),
    eq_comm (a := a.view.source), eq_comm (a := a.view.clamped), eq_comm (a := a.disagree)]
  tauto

/-- An operation that reports no entry. -/
abbrev NoEntry (s t : State) : Prop := ReportedOnly (fun j => ∀ e : Fin 64, j ≠ signalItem e) s t

theorem EventEnd.noEntry {s t : State} (h : EventEnd s t) : NoEntry s t := h.silent.mono fun _ n k e => n (e ▸ ofTable_signal k)

theorem noticeEntry_reported (before : Entry) (i : Fin 64) (s : State) :
    ReportedOnly (fun j => j = signalItem i ∧ entryChanged before s.signals[i] = true) s (noticeEntry before i s) := by
  unfold noticeEntry
  dsimp only
  split
  · rename_i h
    exact (ReportedOnly.of_ports _ rfl).trans (.raiseItem _ ⟨rfl, h⟩)
  · exact .refl s _

theorem putGauge_noEntry (i : Fin 6) (g : Gauge) (s : State) : NoEntry s (putGauge i g s) :=
  (putGauge_reported i g s).2.2.mono fun _ h e k => signal_ne_gauge e i (k.symm.trans h.1)

theorem handEffective_noEntry (i : Fin 64) (s : State) : NoEntry s (handEffective i s) := by
  unfold handEffective
  refine ReportedOnly.trans (.forAll s _ fun k s => ?_) (.of_ports _ (judgeLatches_ports ..))
  dsimp only
  split
  · exact putGauge_noEntry k _ s
  · exact .refl s _

/-- The entries reported behind a recomputation of entry `i` are those whose marks it has cleared (log 21). -/
theorem reportPartners_reported (before : Vector Entry 64) (i : Fin 64) (s : State) :
    ReportedOnly (fun j => ∀ e : Fin 64, j = signalItem e → e ≠ i ∧ before[e].disagree ≠ s.signals[e].disagree) s (reportPartners before i s) := by
  have key : ∀ (l : List (Fin 64)) (s : State),
      ReportedOnly (fun j => ∀ e : Fin 64, j = signalItem e → e ≠ i ∧ before[e].disagree ≠ s.signals[e].disagree) s
        (l.foldl (fun s a =>
          if a ≠ i ∧ before[a].disagree ≠ s.signals[a].disagree then handEffective a (noticeEntry before[a] a s) else s) s) := by
    intro l
    induction l with
    | nil => exact fun s => .refl s _
    | cons a l ih =>
      intro s
      rw [List.foldl_cons]
      split
      · rename_i hc
        have N := noticeEntry_reported before[a] a s
        have Ni := (noticeEntry_here before[a] a s).1
        have No : ∀ e, e ≠ a → (noticeEntry before[a] a s).signals[e] = s.signals[e] := fun e h => noticeEntry_other _ s h
        have H := handEffective_noEntry a (noticeEntry before[a] a s)
        have Hs := (handEffective_took a (noticeEntry before[a] a s)).1
        generalize noticeEntry before[a] a s = n at N Ni No H Hs ⊢
        generalize handEffective a n = h at H Hs ⊢
        have hdis : ∀ e : Fin 64, h.signals[e].disagree = s.signals[e].disagree := fun e => by
          by_cases k : e = a
          · subst k; rw [Hs, Ni]
          · rw [Hs, No e k]
        refine ReportedOnly.trans (ReportedOnly.trans (N.mono fun j q e k => ?_) (H.mono fun j q e k => absurd k (q e))) ((ih h).mono fun j q e k => ?_)
        · cases signalItem_inj (k.symm.trans q.1); exact hc
        · rw [← hdis e]; exact q e k
      · exact ih s
  exact key (List.finRange 64) s

/-- What an operation on entry `i` may report: the entry itself where it is recomputed and differs, and entries whose marks it changes. -/
def StepReports (i : Fin 64) (fed : Prop) (s t : State) : Prop :=
  ReportedOnly (fun j => ∀ e : Fin 64, j = signalItem e →
    (e = i ∧ fed ∧ EntryDiffers s.signals[e] t.signals[e]) ∨ t.signals[e].disagree ≠ s.signals[e].disagree) s t

theorem StepReports.of_ports {i : Fin 64} {fed : Prop} {s t : State} (h : t.ports = s.ports) : StepReports i fed s t := ReportedOnly.of_ports _ h

/-- A recomputation of an entry that has changed but in its reference value. -/
theorem recompute_reports {s : State} {i : Fin 64} {e : Entry} (before : Entry) (b : Bool) {fed : Prop} (hf : fed) (hd : e.desc = s.signals[i].desc)
    (h3 : e.reference = s.signals[i].reference) (hb : before = s.signals[i]) : StepReports i fed s (recompute before b i (setEntry i e s)) := by
  unfold recompute
  dsimp only
  have T0 : (setEntry i (setEntry i e s).signals[i].select (setEntry i e s)) = setEntry i e.select s := by
    rw [setEntry_here]; unfold setEntry; simp only [State.setSignals_signals]
    show s.setSignals _ = s.setSignals _
    congr 1
    ext j hj; by_cases k : (i : Nat) = j <;> simp [k]
  rw [T0]
  have tab : ∀ j : Fin 64, j ≠ i → (setEntry i e s).signals[j] = s.signals[j] := fun j h => setEntry_other e s h
  generalize (setEntry i e s).signals = table at tab ⊢
  have S1i := setEntry_here i e.select s
  have S1p : (setEntry i e.select s).ports = s.ports := rfl
  generalize setEntry i e.select s = s1 at S1i S1p ⊢
  have P := judgePairs_spec b i s1
  generalize judgePairs b i s1 = s2 at P ⊢
  have N := noticeEntry_reported before i s2
  have Ni := (noticeEntry_here before i s2).1
  generalize noticeEntry before i s2 = s3 at N Ni ⊢
  have H := handEffective_noEntry i s3
  have Hs := (handEffective_took i s3).1
  generalize handEffective i s3 = s4 at H Hs ⊢
  have R := reportPartners_spec table i s4
  have Rr := reportPartners_reported table i s4
  generalize reportPartners table i s4 = t at R Rr ⊢
  have si : s2.signals[i].desc = s.signals[i].desc ∧ s2.signals[i].reference = s.signals[i].reference := by
    rw [(P.kept i).desc, P.reference i, S1i]
    refine ⟨by simpa using hd, ?_⟩
    rw [← h3]; unfold Entry.select; dsimp only; split <;> (try split) <;> rfl
  have ti : t.signals[i].view = s2.signals[i].view ∧ t.signals[i].disagree = s2.signals[i].disagree := by
    rw [R.untouched i (.inr (.inl rfl)), Hs, Ni]; exact ⟨rfl, rfl⟩
  refine ReportedOnly.trans (ReportedOnly.trans (ReportedOnly.trans (.of_ports _ (P.ports.trans S1p)) (N.mono fun j q a k => ?_))
    (H.mono fun j q a k => absurd k (q a))) (Rr.mono fun j q a k => ?_)
  · cases signalItem_inj (k.symm.trans q.1)
    refine .inl ⟨rfl, hf, ?_⟩
    have D := (entryChanged_iff s.signals[i] s2.signals[i] si.1 si.2).1 (hb ▸ q.2)
    unfold EntryDiffers at D ⊢
    rw [ti.1, ti.2]
    exact D
  · obtain ⟨hi, hm⟩ := q a k
    refine .inr ?_
    rw [R.entries a, ← tab a hi]
    exact fun h => hm h.symm

/-! ## Loops -/

/-- See `Followed`, with what the next operations of a loop need. -/
structure LoopFollowed (b : Bool) (fed : Fin 64 → Prop) (s t : State) : Prop where
  table : TableEvent s t
  followed : Followed b fed s t
  moved : ∀ e : Fin 64, ¬ fed e → s.signals[e].moved = false → t.signals[e].moved = false
  views : ∀ e : Fin 64, ¬ fed e → t.signals[e].view = s.signals[e].view

theorem LoopFollowed.refl {b : Bool} (fed : Fin 64 → Prop) (hf : ∀ e, ¬ fed e) (s : State) : LoopFollowed b fed s s :=
  ⟨.refl s, ⟨fun _ => id, fun _ _ _ => ⟨rfl, rfl⟩, fun e p _ h => absurd (h.2 (hf p)) (hf e), fun _ _ _ => rfl, fun e h => absurd h (hf e), fun _ h => by simp at h,
    _, fun e => ⟨fun h => absurd h (hf e), fun _ _ => rfl, fun _ h => by simp at h⟩, .refl s⟩, fun _ _ => id, fun _ _ => rfl⟩

/-- A mark that stands at the end has stood throughout. -/
theorem marks_between {a b c : Bool} (h : b = true → a = true) (h' : c = true → b = true) (k : c = a) : b = a ∧ c = b := by
  revert h h' k; cases a <;> cases b <;> cases c <;> decide

theorem LoopFollowed.cons {c : Bool} {i : Fin 64} {P : Prop} {F : Fin 64 → Prop} {s m t : State} (hF : ¬ F i) (T : TableEvent s m)
    (S : Stepped c i P s m) (L : LoopFollowed c F m t) : LoopFollowed c (fun e => (e = i ∧ P) ∨ F e) s t := by
  obtain ⟨h1, C1, A1, B1⟩ := S.consumers
  obtain ⟨h2, HF, C2⟩ := L.followed.consumers
  refine ⟨T.trans L.table, ⟨fun e h => S.marks e (L.followed.marks e h), fun e h k => ?_, fun e p hp h => ?_, fun e h k => ?_, fun e h => ?_,
    fun e h => ?_,
    _, fun e => ⟨fun h => ?_, fun h k => ?_, fun v h => ?_⟩, C1.trans T.passage.isOn.symm T.lampSettings L.table.ports C2⟩, fun e h k => ?_, fun e h => ?_⟩
  · simp only [not_or] at h
    have a := S.pairs e h.1 (fun q => k i q.1 (.inl ⟨rfl, q.2⟩))
    have b := L.followed.pairs e h.2 (fun p q => by
      rw [T.descriptors e] at q
      exact fun x => k p q (.inr x))
    exact ⟨b.1.trans a.1, b.2.trans a.2⟩
  · have hp' : m.signals[e].desc.partner = some p := by rw [T.descriptors e]; exact hp
    have hne : e ≠ p := fun q => by
      subst q
      exact (iff_not_self h).elim
    by_cases now : (e = i ∧ P) ∨ (p = i ∧ P)
    · have he : ¬ F e := fun q => by
        rcases now with n | n
        · exact hF (n.1 ▸ q)
        · exact (h.1 (.inr q)) (.inl n)
      have hq : ¬ F p := fun q => by
        rcases now with n | n
        · exact (h.1 (.inl n)) (.inr q)
        · exact hF (n.1 ▸ q)
      have kept := L.followed.pairs e he (fun x hx => by
        rw [hp'] at hx; cases hx; exact hq)
      exact (S.judged (now.elim And.right And.right) e p hp (now.imp And.left And.left) hne).congr kept.1 kept.2 (L.views e he)
        (L.table.descriptors e) (L.views p hq) rfl rfl
    · simp only [not_or] at now
      have kept := S.pairs e now.1 (fun q => by
        rw [hp] at q
        exact now.2 ⟨Option.some.inj q.1, q.2⟩)
      refine (L.followed.judged e p hp' ?_).congr rfl rfl rfl rfl rfl kept.1.symm kept.2.symm
      simpa only [now.1, now.2, false_or] using h
  · simp only [not_or] at h
    have d := marks_between (S.marks e) (L.followed.marks e) k
    exact (L.followed.references e h.2 d.2).trans (S.references e h.1 d.1)
  · by_cases hf : F e
    · exact L.followed.moved e hf
    · obtain ⟨rfl, p⟩ := h.resolve_right hf
      exact L.moved e hf (S.here p)
  · by_cases q : t.signals[e].view.state ≠ m.signals[e].view.state ∨ t.signals[e].view.source ≠ m.signals[e].view.source ∨
      t.signals[e].view.clamped ≠ m.signals[e].view.clamped ∨ t.signals[e].disagree ≠ m.signals[e].disagree
    · exact L.followed.reported e q
    · simp only [not_or, not_not] at q
      rw [q.1, q.2.1, q.2.2.1, q.2.2.2] at h
      exact (S.reported e h).took L.table.ports
  · by_cases hf : F e
    · have g := (HF e).1 hf
      rw [List.getLast?_append, g]; rfl
    · obtain ⟨rfl, p⟩ := h.resolve_right hf
      have tv := L.views e hf
      rw [A1 p]
      cases hl : (h2 e).getLast? with
      | none => rw [List.getLast?_eq_none_iff.1 hl, List.append_nil, tv]; rfl
      | some v =>
        have hm : v ∈ h2 e := List.mem_of_getLast? hl
        have := (HF e).2.2 v hm
        rw [tv] at this ⊢
        simp only [List.getLast?_append, hl, Option.some_or]
        rcases this with q | q <;> rw [q]
  · simp only [not_or] at h
    have d := marks_between (S.marks e) (L.followed.marks e) k
    rw [(HF e).2.1 h.2 d.2, List.append_nil]
    exact (B1 e h.1).resolve_right (fun q => q.2 d.1)
  · have mv : (e = i ∧ P) → m.signals[e].view = t.signals[e].view := fun q => by
      obtain ⟨rfl, -⟩ := q
      exact (L.views e hF).symm
    rcases List.mem_append.1 h with h | h
    · by_cases q : e = i ∧ P
      · obtain ⟨rfl, p⟩ := id q
        rw [A1 p, List.mem_singleton] at h
        exact .inr (h.trans (mv q))
      · rcases B1 e q with b | b
        · rw [b] at h; simp at h
        · rw [b.1, List.mem_singleton] at h
          exact .inl (h.trans (S.views e q))
    · rcases (HF e).2.2 v h with b | b
      · by_cases q : e = i ∧ P
        · exact .inr (b.trans (mv q))
        · exact .inl (b.trans (S.views e q))
      · exact .inr b
  · simp only [not_or] at h
    exact L.moved e h.2 (S.moved e h.1 k)
  · simp only [not_or] at h
    exact (L.views e h.2).trans (S.views e h.1)

/-- What an operation and the rest of a loop report. -/
theorem EntriesReported.cons {c : Bool} {i : Fin 64} {P : Prop} {F : Fin 64 → Prop} {s m t : State} (hF : ¬ F i) (T : TableEvent s m)
    (S : Stepped c i P s m) (R : StepReports i P s m) (L : LoopFollowed c F m t) (E : EntriesReported m t) : EntriesReported s t := by
  intro p j h
  by_cases hj : ∃ e : Fin 64, j = signalItem e
  · obtain ⟨e, rfl⟩ := hj
    by_cases mark : t.signals[e].disagree = s.signals[e].disagree
    · have d := marks_between (S.marks e) (L.followed.marks e) mark
      have desc : m.signals[e].desc = s.signals[e].desc := T.descriptors e
      rcases E p _ h with h | q
      · refine (R p _ h).imp id fun q e' k => ?_
        cases signalItem_inj k
        rcases q e rfl with ⟨rfl, -, D⟩ | q
        · unfold EntryDiffers at D ⊢
          rw [L.views e hF, d.2]; exact D
        · exact absurd d.1 q
      · refine .inr fun e' k => ?_
        cases signalItem_inj k
        have D := q e rfl
        by_cases own : e = i ∧ P
        · obtain ⟨rfl, hp⟩ := own
          have mv := S.here hp
          unfold EntryDiffers at D
          rw [L.views e hF, d.2] at D
          unfold Entry.moved at mv
          simp only [Bool.and_eq_false_iff, bne_eq_false_iff_eq, decide_eq_false_iff_not, Int.natAbs_eq_zero, sub_eq_zero] at mv
          rcases D with D | D | D | D | D
          · exact absurd rfl D
          · exact absurd rfl D
          · exact absurd rfl D
          · exact absurd rfl D
          · exact absurd mv (by simp only [not_or, not_not]; exact D)
        · have v := S.views e own
          have r := S.references e own d.1
          unfold EntryDiffers at D ⊢
          rw [v, r, d.1, desc] at D
          exact D
    · exact .inr fun e' k => by
        cases signalItem_inj k
        exact .inr (.inr (.inr (.inl mark)))
  · exact .inr fun e k => absurd ⟨e, k⟩ hj

theorem LoopFollowed.congr {b : Bool} {F G : Fin 64 → Prop} {s t : State} (h : ∀ e, F e ↔ G e) (L : LoopFollowed b F s t) :
    LoopFollowed b G s t := by
  have : F = G := funext fun e => propext (h e)
  exact this ▸ L

/-- A loop over the entries whose step `i` recomputes entry `i` where `fed`. -/
theorem forAll_followed {b : Bool} {f : Fin 64 → State → State} {g : Fin 64 → Entry → Entry} {fed : Fin 64 → Entry → Prop} {C : State → Prop}
    (hfed : ∀ i e e', EntryKept e e' → (fed i e' ↔ fed i e)) (hC : ∀ s t, TableEvent s t → C s → C t)
    (hf : ∀ i s, C s → EntryBecomes i (g i s.signals[i]) s (f i s) ∧ Stepped b i (fed i s.signals[i]) s (f i s)) (s : State) (hs : C s) :
    Followed b (fun e => fed e s.signals[e]) s (forAll 64 f s) := by
  have key : ∀ l : List (Fin 64), l.Nodup → ∀ s, C s →
      LoopFollowed b (fun e => e ∈ l ∧ fed e s.signals[e]) s (l.foldl (fun s i => f i s) s) := by
    intro l
    induction l with
    | nil => intro _ s _; exact .refl _ (fun e h => by simp at h) s
    | cons a l ih =>
      intro hn s hs
      obtain ⟨hm, hn⟩ := List.nodup_cons.1 hn
      obtain ⟨B, S⟩ := hf a s hs
      have L := ih hn (f a s) (hC _ _ B.table hs)
      refine (L.cons (fun h => hm h.1) B.table S).congr fun e => ?_
      by_cases h : e = a
      · subst h; simp [hm]
      · simp only [h, false_and, false_or, List.mem_cons]
        rw [hfed e _ _ (B.others e h)]
  exact ((key (List.finRange 64) (List.nodup_finRange 64) s hs).congr fun e => by simp).followed

/-- The entries that such a loop reports. -/
theorem forAll_reported {b : Bool} {f : Fin 64 → State → State} {g : Fin 64 → Entry → Entry} {fed : Fin 64 → Entry → Prop} {C : State → Prop}
    (hfed : ∀ i e e', EntryKept e e' → (fed i e' ↔ fed i e)) (hC : ∀ s t, TableEvent s t → C s → C t)
    (hf : ∀ i s, C s → EntryBecomes i (g i s.signals[i]) s (f i s) ∧ Stepped b i (fed i s.signals[i]) s (f i s) ∧
      StepReports i (fed i s.signals[i]) s (f i s)) (s : State) (hs : C s) : EntriesReported s (forAll 64 f s) := by
  have key : ∀ l : List (Fin 64), l.Nodup → ∀ s, C s →
      LoopFollowed b (fun e => e ∈ l ∧ fed e s.signals[e]) s (l.foldl (fun s i => f i s) s) ∧
      EntriesReported s (l.foldl (fun s i => f i s) s) := by
    intro l
    induction l with
    | nil => intro _ s _; exact ⟨.refl _ (fun e h => by simp at h) s, .refl s _⟩
    | cons a l ih =>
      intro hn s hs
      obtain ⟨hm, hn⟩ := List.nodup_cons.1 hn
      obtain ⟨B, S, R⟩ := hf a s hs
      obtain ⟨L, E⟩ := ih hn (f a s) (hC _ _ B.table hs)
      refine ⟨(L.cons (fun h => hm h.1) B.table S).congr fun e => ?_, E.cons (fun h => hm h.1) B.table S R L⟩
      by_cases h : e = a
      · subst h; simp [hm]
      · simp only [h, false_and, false_or, List.mem_cons]
        rw [hfed e _ _ (B.others e h)]
  exact (key (List.finRange 64) (List.nodup_finRange 64) s hs).2

/-! ## Events of the table -/

theorem deliverTo_reports (src : Source) (u : Update) (i : Fin 64) (s : State) : StepReports i (fedBy src s i) s (deliverTo src u i s) := by
  unfold deliverTo
  split
  · exact .of_ports rfl
  · split
    · exact recompute_reports _ _ (.inl ‹_›) rfl rfl rfl
    · split
      · exact recompute_reports _ _ (.inr ‹_›) rfl rfl rfl
      · exact .of_ports rfl

theorem deliverTo_stepped (src : Source) (u : Update) (i : Fin 64) (s : State) (h : s.cycle.state ≠ .load) :
    Stepped true i (fedBy src s i) s (deliverTo src u i s) := by
  unfold deliverTo
  rw [if_neg h]
  split
  · exact recompute_stepped _ _ (.inl ‹_›) rfl rfl rfl rfl (.inl rfl)
  · split
    · exact recompute_stepped _ _ (.inr ‹_›) rfl rfl rfl rfl (.inl rfl)
    · exact .refl i (by unfold fedBy; simp only [*, or_self, not_false_iff]) s

/-- An update delivered to every slot of its source (R2). -/
theorem deliver_spec (src : Source) (u : Update) (s : State) (h : s.cycle.state ≠ .load) : Delivered src u s (deliver src u s) :=
  ⟨(deliver_entries src u s h).1, (deliver_entries src u s h).2,
    forAll_followed (fed := fun _ e => e.desc.primary = src ∨ e.desc.alternate = src) (C := fun s => s.cycle.state ≠ .load)
      (fun _ _ _ k => by rw [k.desc]) (fun _ _ k hs => fun e => hs (k.inLoad.1 e))
      (fun i s hs => ⟨deliverTo_spec src u i s hs, deliverTo_stepped src u i s hs⟩) s h⟩

/-- The entries that an update delivered to every slot of its source reports (R20, R21). -/
theorem deliver_reported (src : Source) (u : Update) (s : State) : EntriesReported s (deliver src u s) := by
  by_cases h : s.cycle.state = .load
  · rw [deliver_load src u s h]; exact .refl s _
  · exact forAll_reported (fed := fun _ e => e.desc.primary = src ∨ e.desc.alternate = src) (C := fun s => s.cycle.state ≠ .load)
      (fun _ _ _ k => by rw [k.desc]) (fun _ _ k hs => fun e => hs (k.inLoad.1 e))
      (fun i s hs => ⟨deliverTo_spec src u i s hs, deliverTo_stepped src u i s hs, deliverTo_reports src u i s⟩) s h

/-- One operation on an entry. -/
theorem StepReports.entries {i : Fin 64} {fed : Prop} {s t : State} (h : StepReports i fed s t) : EntriesReported s t :=
  h.mono fun _ q e k => (q e k).elim (·.2.2) fun m => .inr (.inr (.inr (.inl m)))

@[simp] theorem Entry.afterSlots_slots (f : Source → Slot → Slot) (e : Entry) :
    (e.afterSlots f).primary = f e.desc.primary e.primary ∧ (e.afterSlots f).alternate = f e.desc.alternate e.alternate := by
  unfold Entry.afterSlots
  dsimp only
  split <;> simp

theorem changeSlots_stepped (f : Source → Slot → Slot) (i : Fin 64) (s : State) :
    Stepped false i (slotsChanged (fun e => s.signals[e].afterSlots f) s i) s (changeSlots f i s) := by
  have hf : slotsChanged (fun e => s.signals[e].afterSlots f) s i ↔
      ¬ (s.signals[i].primary.state = (f s.signals[i].desc.primary s.signals[i].primary).state ∧
        s.signals[i].alternate.state = (f s.signals[i].desc.alternate s.signals[i].alternate).state) := by
    unfold slotsChanged
    rw [(Entry.afterSlots_slots f _).1, (Entry.afterSlots_slots f _).2, not_and_or]
    exact or_congr ne_comm ne_comm
  unfold changeSlots
  dsimp only
  split
  · rename_i h
    exact stepped_setEntry (fun k => hf.1 k h) rfl rfl rfl rfl rfl
  · rename_i h
    exact recompute_stepped _ _ (hf.2 h) rfl rfl rfl rfl (.inl rfl)

theorem changeSlots_reports (f : Source → Slot → Slot) (i : Fin 64) (s : State) :
    StepReports i (slotsChanged (fun e => s.signals[e].afterSlots f) s i) s (changeSlots f i s) := by
  unfold changeSlots
  dsimp only
  split
  · exact .of_ports rfl
  · rename_i h
    refine recompute_reports _ _ ?_ rfl rfl rfl
    unfold slotsChanged
    rw [(Entry.afterSlots_slots f _).1, (Entry.afterSlots_slots f _).2]
    exact (not_and_or.1 h).imp (fun h k => h k.symm) fun h k => h k.symm

/-- Slots changed in every entry (R7, R9). -/
theorem forAll_slots_reported {f : Fin 64 → State → State} {g : Entry → Source → Slot → Slot} {C : State → Prop}
    (hg : ∀ e e', EntryKept e e' → g e' = g e) (hC : ∀ s t, TableEvent s t → C s → C t)
    (hf : ∀ i s, C s → f i s = changeSlots (g s.signals[i]) i s) (s : State) (hs : C s) : EntriesReported s (forAll 64 f s) :=
  forAll_reported (g := fun _ e => e.afterSlots (g e)) (C := C)
    (fed := fun _ e => (e.afterSlots (g e)).primary.state ≠ e.primary.state ∨ (e.afterSlots (g e)).alternate.state ≠ e.alternate.state)
    (fun _ e e' k => by
      rw [(Entry.afterSlots_slots _ e).1, (Entry.afterSlots_slots _ e).2, (Entry.afterSlots_slots _ e').1, (Entry.afterSlots_slots _ e').2,
        hg e e' k, k.desc, k.primary, k.alternate]) hC
    (fun i s hs => by rw [hf i s hs]; exact ⟨changeSlots_spec _ i s, changeSlots_stepped _ i s, changeSlots_reports _ i s⟩) s hs

/-- See `forAll_slots_reported`. -/
theorem forAll_slots {f : Fin 64 → State → State} {g : Entry → Source → Slot → Slot} {C : State → Prop}
    (hg : ∀ e e', EntryKept e e' → g e' = g e) (hC : ∀ s t, TableEvent s t → C s → C t)
    (hf : ∀ i s, C s → f i s = changeSlots (g s.signals[i]) i s) (s : State) (hs : C s) :
    Followed false (slotsChanged (fun e => s.signals[e].afterSlots (g s.signals[e])) s) s (forAll 64 f s) :=
  forAll_followed (g := fun _ e => e.afterSlots (g e)) (C := C)
    (fed := fun _ e => (e.afterSlots (g e)).primary.state ≠ e.primary.state ∨ (e.afterSlots (g e)).alternate.state ≠ e.alternate.state)
    (fun _ e e' k => by
      rw [(Entry.afterSlots_slots _ e).1, (Entry.afterSlots_slots _ e).2, (Entry.afterSlots_slots _ e').1, (Entry.afterSlots_slots _ e').2,
        hg e e' k, k.desc, k.primary, k.alternate]) hC
    (fun i s hs => by rw [hf i s hs]; exact ⟨changeSlots_spec _ i s, changeSlots_stepped _ i s⟩) s hs

/-- The aging expiry (R6 to R8). -/
theorem ageTable_followed (s : State) :
    Followed false (slotsChanged (fun e => s.signals[e].afterSlots fun src x => x.ageBy s.signals[e].desc src s.conv.supply) s) s (ageTable s) :=
  forAll_slots (f := fun i s => changeSlots (fun src x => x.ageBy s.signals[i].desc src s.conv.supply) i s)
    (g := fun e src x => x.ageBy e.desc src s.conv.supply) (C := fun t => t.conv.supply = s.conv.supply)
    (fun _ _ k => by rw [k.desc]) (fun _ _ k hs => k.supply.trans hs) (fun i t ht => by rw [← ht]) s rfl

theorem ageTable_reported (s : State) : EntriesReported s (ageTable s) :=
  forAll_slots_reported (f := fun i s => changeSlots (fun src x => x.ageBy s.signals[i].desc src s.conv.supply) i s)
    (g := fun e src x => x.ageBy e.desc src s.conv.supply) (C := fun t => t.conv.supply = s.conv.supply)
    (fun _ _ k => by rw [k.desc]) (fun _ _ k hs => k.supply.trans hs) (fun i t ht => by rw [← ht]) s rfl

theorem forceLost_reported (p : Port) (s : State) : EntriesReported s (forceLost p s) :=
  forAll_slots_reported (g := fun _ => Slot.loseLink p) (C := fun _ => True) (fun _ _ _ => rfl) (fun _ _ _ h => h) (fun _ _ _ => rfl) s trivial

theorem reclaimExpiry_reported (i : Fin 64) (s : State) : EntriesReported s (reclaimExpiry i s) := by
  unfold reclaimExpiry
  dsimp only
  split
  · refine StepReports.entries (i := i) (fed := True) ?_
    exact recompute_reports _ _ trivial rfl rfl rfl
  · exact .refl s _

theorem disagreementExpiry_reported (i : Fin 64) (s : State) : EntriesReported s (disagreementExpiry i s) := by
  unfold disagreementExpiry
  dsimp only
  split
  · refine StepReports.entries (i := i) (fed := True) ?_
    exact recompute_reports _ _ trivial rfl rfl rfl
  all_goals exact .refl s _

/-- The slots of a lost link (R9). -/
theorem forceLost_followed (p : Port) (s : State) :
    Followed false (slotsChanged (fun e => s.signals[e].afterSlots (Slot.loseLink p)) s) s (forceLost p s) :=
  forAll_slots (g := fun _ => Slot.loseLink p) (C := fun _ => True) (fun _ _ _ => rfl) (fun _ _ _ h => h) (fun _ _ _ => rfl) s trivial

/-- One recomputed entry. -/
theorem Stepped.followed {b : Bool} {i : Fin 64} {s t : State} (T : TableEvent s t) (S : Stepped b i True s t) : Followed b (· = i) s t :=
  ((LoopFollowed.refl (fun _ => False) (fun _ => id) t).cons id T S).followed |> fun h => by
    have e : (fun e : Fin 64 => (e = i ∧ True) ∨ False) = (· = i) := by funext e; simp
    exact e ▸ h

/-- The expiry of a running reclaim timer (R16). -/
theorem reclaimExpiry_followed (i : Fin 64) (s : State) (h : s.signals[i].reclaim.isRunning = true) : Followed false (· = i) s (reclaimExpiry i s) := by
  refine Stepped.followed (reclaimExpiry_spec i s h).table ?_
  unfold reclaimExpiry
  simp only [h, if_true]
  exact recompute_stepped _ _ trivial rfl rfl rfl rfl (.inl rfl)

/-- Two states that agree in the entries, the gauges and the latches; the second has gained no gauge's notice. -/
structure SameTable (s t : State) : Prop where
  signals : t.signals = s.signals
  gauges : t.gauges = s.gauges
  telltales : ∀ i : Fin 40, t.lamps.telltales[i].latches = s.lamps.telltales[i].latches
  chimes : ∀ i : Fin 8, t.lamps.chimes[i].latches = s.lamps.chimes[i].latches
  noGauge : NoGauge s t

theorem SameTable.of_eq {s t : State} (hs : t.signals = s.signals) (hg : t.gauges = s.gauges) (hl : t.lamps = s.lamps)
    (hp : t.ports = s.ports := by rfl) : SameTable s t :=
  ⟨hs, hg, fun _ => by rw [hl], fun _ => by rw [hl], noGauge_of_ports hp⟩

theorem SameTable.refl (s : State) : SameTable s s := .of_eq rfl rfl rfl

theorem SameTable.trans {s t u : State} (a : SameTable s t) (b : SameTable t u) : SameTable s u :=
  ⟨b.signals.trans a.signals, b.gauges.trans a.gauges, fun i => (b.telltales i).trans (a.telltales i), fun i => (b.chimes i).trans (a.chimes i),
    a.noGauge.trans b.noGauge⟩

theorem EventEnd.sameTable {s t : State} (h : EventEnd s t) : SameTable s t :=
  ⟨h.signals, h.gauges, fun i => (h.lamps.telltales i).1, fun i => (h.lamps.chimes i).1, h.noGauge⟩

/-- What follows from recomputed entries is a matter of the entries, the gauges, the latches and the notices. -/
theorem Followed.congr {b : Bool} {F : Fin 64 → Prop} {s s' t t' : State} (h : Followed b F s t) (a : SameTable s' s)
    (hl : s.lamps.settings = s'.lamps.settings) (hc : s.cycle.state = s'.cycle.state) (k : SameTable t t') (hp : PortsTook t t') :
    Followed b F s' t' := by
  obtain ⟨hd, H, C⟩ := h.consumers
  refine ⟨fun e => ?_, fun e => ?_, fun e p => ?_, fun e => ?_, fun e => ?_, fun e q => ?_, hd, fun e => ?_, fun n => ?_, fun i n => ?_, fun i n => ?_,
    fun n gs hn w => ?_, ?_⟩
  · rw [k.signals, ← a.signals]; exact h.marks e
  · rw [k.signals, ← a.signals]; exact h.pairs e
  · rw [k.signals, ← a.signals]; exact h.judged e p
  · rw [k.signals, ← a.signals]; exact h.references e
  · rw [k.signals]; exact h.moved e
  · rw [k.signals, ← a.signals] at q; exact (h.reported e q).took hp
  · rw [k.signals, ← a.signals]; exact H e
  · rw [k.gauges, ← a.gauges, ← hc]; exact C.gauges n
  · rw [k.telltales i, ← a.telltales i, ← hl]; exact C.telltales i n
  · rw [k.chimes i, ← a.chimes i, ← hl]; exact C.chimes i n
  · rw [← a.gauges] at hn
    rw [← a.gauges, ← hc] at w
    exact (C.items n gs hn w).took hp
  · have both := ((a.noGauge.mono fun _ q n e => absurd e (q n)).trans C.silent).trans (k.noGauge.mono fun _ q n e => absurd e (q n))
    simpa only [← a.gauges, ← hc] using both

/-- What follows from recomputed entries is not touched by the end of the event. -/
theorem Followed.ended {b : Bool} {F : Fin 64 → Prop} {s t u : State} (h : Followed b F s t) (k : EventEnd t u) : Followed b F s u :=
  h.congr (.refl s) rfl rfl k.sameTable k.ports

theorem Delivered.ended {src : Source} {x : Update} {s t u : State} (h : Delivered src x s t) (k : EventEnd t u) : Delivered src x s u :=
  ⟨h.table.trans k.table, fun i => by rw [k.signals]; exact h.entries i, h.followed.ended k⟩

/-- A delivery, in two states that differ from its own outside the table alike. -/
theorem Delivered.congr {src : Source} {x : Update} {s s' t t' : State} (h : Delivered src x s t) (T : TableEvent s' t') (a : SameTable s' s)
    (hl : s.lamps.settings = s'.lamps.settings) (hc : s.cycle.state = s'.cycle.state) (b : SameTable t t') (hp : PortsTook t t') :
    Delivered src x s' t' := by
  refine ⟨T, fun i => ?_, ?_⟩
  · rw [b.signals, ← a.signals]; exact h.entries i
  · have e : fedBy src s' = fedBy src s := by unfold fedBy; rw [a.signals]
    rw [e]
    exact h.followed.congr a hl hc b hp

end Sys2Proof.Machine
end

