-- ==== Sys2Proof/Laws/Steady.lean ====
section
/-! SUPPORT. What almost every operation leaves: the distance counter, the store, the supply state, the readout, the queue and the controller
conditions but TELLTALE_FAILED, while the ports only take notices and events. -/

namespace Sys2Proof.Machine

/-- From `s` to `t` none of these has changed. -/
structure Steady (s t : State) : Prop where
  dist : t.dist = s.dist
  store : t.store = s.store
  supply : t.conv.supply = s.conv.supply
  tacho : t.tacho = s.tacho
  pending : t.pending = s.pending
  conditions : ∀ c, c ≠ .telltaleFailed → t.cond c = s.cond c
  ports : PortsTook s t

theorem Steady.refl (s : State) : Steady s s := ⟨rfl, rfl, rfl, rfl, rfl, fun _ _ => rfl, .refl s⟩

theorem Steady.trans {s t u : State} (a : Steady s t) (b : Steady t u) : Steady s u :=
  ⟨b.dist.trans a.dist, b.store.trans a.store, b.supply.trans a.supply, b.tacho.trans a.tacho, b.pending.trans a.pending,
    fun c h => (b.conditions c h).trans (a.conditions c h), a.ports.trans b.ports⟩

theorem TableEvent.steady {s t : State} (h : TableEvent s t) : Steady s t :=
  ⟨h.dist, h.store, h.supply, h.tacho, h.pending, h.conditions, h.ports⟩

theorem EventEnd.steady {s t : State} (h : EventEnd s t) : Steady s t := h.table.steady

theorem AfterView.steady {s t : State} (h : AfterView s t) : Steady s t := h.table.steady

theorem steady_setSignals (s : State) (x : Vector Entry 64) : Steady s (s.setSignals x) := ⟨rfl, rfl, rfl, rfl, rfl, fun _ _ => rfl, .of_ports rfl⟩
theorem steady_setPulse (s : State) (x : Vector PulseChannel 4) : Steady s (s.setPulse x) := ⟨rfl, rfl, rfl, rfl, rfl, fun _ _ => rfl, .of_ports rfl⟩
theorem steady_setChannel (c : Fin 4) (x : PulseChannel) (s : State) : Steady s (setChannel c x s) := steady_setPulse s _
theorem steady_setSwitches (s : State) (x : SwitchBank) : Steady s (s.setSwitches x) := ⟨rfl, rfl, rfl, rfl, rfl, fun _ _ => rfl, .of_ports rfl⟩
theorem steady_setGauges (s : State) (x : Vector Gauge 6) : Steady s (s.setGauges x) := ⟨rfl, rfl, rfl, rfl, rfl, fun _ _ => rfl, .of_ports rfl⟩
theorem steady_setLamps (s : State) (x : TelltaleUnit) : Steady s (s.setLamps x) := ⟨rfl, rfl, rfl, rfl, rfl, fun _ _ => rfl, .of_ports rfl⟩
theorem steady_setCycle (s : State) (x : CycleController) : Steady s (s.setCycle x) := ⟨rfl, rfl, rfl, rfl, rfl, fun _ _ => rfl, .of_ports rfl⟩
theorem steady_setInput (i : Fin 24) (x : SwitchInput) (s : State) : Steady s (setInput i x s) := steady_setSwitches s _
theorem steady_signalEvent (ev : WaitEvent) (s : State) : Steady s (signalEvent ev s) := (EventEnd.signalEvent ev s).steady
theorem steady_raiseItem (i : Fin 113) (s : State) : Steady s (raiseItem i s) := (AfterView.raiseItem i s).steady
theorem steady_changeCycle (c : CycleState) (s : State) : Steady s (changeCycle c s) := (steady_setCycle s _).trans (steady_signalEvent _ _)

/-- The converter replaced by one in the same supply state. -/
theorem steady_setConv {s : State} {x : Converter} (h : x.supply = s.conv.supply) : Steady s (s.setConv x) :=
  ⟨rfl, rfl, h, rfl, rfl, fun _ _ => rfl, .of_ports rfl⟩

theorem steady_setPass (p : Option Pass) (s : State) : Steady s (setPass p s) := steady_setConv rfl
theorem steady_setScanState (i : Fin 16) (z : ScanState) (s : State) : Steady s (setScanState i z s) := steady_setConv rfl

/-- A loop of steady steps is steady. -/
theorem steady_foldl {α : Type} (f : State → α → State) (h : ∀ s i, Steady s (f s i)) (l : List α) (s : State) : Steady s (l.foldl f s) :=
  foldl_rel Steady.refl (fun _ _ _ => Steady.trans) f h l s

theorem steady_forAll {n : Nat} (f : Fin n → State → State) (h : ∀ i s, Steady s (f i s)) (s : State) : Steady s (forAll n f s) :=
  forAll_rel Steady.refl (fun _ _ _ => Steady.trans) f h s

/-- A choice between two steady operations is steady. -/
theorem steady_ite {p : Prop} [Decidable p] {s a b : State} (ha : p → Steady s a) (hb : ¬p → Steady s b) : Steady s (if p then a else b) := by
  split
  · exact ha ‹_›
  · exact hb ‹_›

/-! ## The cycle -/

theorem steady_forGauges {f : View → Gauge → Gauge} (h : ∀ v g, (f v g).settings = g.settings) (s : State) : Steady s (forGauges f s) :=
  (afterView_forGauges h s).steady

theorem steady_startGauges (supply : Supply) (s : State) : Steady s (startGauges supply s) :=
  (afterView_startGauges supply s).steady

theorem steady_judgePassage (s : State) : Steady s (judgePassage s) := (afterView_judgePassage s).steady

/-- Any gauge replaced, its settings too. -/
theorem steady_putGauge (i : Fin 6) (g : Gauge) (s : State) : Steady s (putGauge i g s) := by
  unfold putGauge
  dsimp only
  have h := steady_setGauges s (s.gauges.set i g)
  refine steady_ite (fun _ => ?_) (fun _ => Steady.trans ?_ (steady_judgePassage _)) <;>
    exact steady_ite (fun _ => h.trans (steady_raiseItem _ _)) (fun _ => h)

theorem steady_putTelltale (i : Fin 40) (t : Telltale) (s : State) : Steady s (putTelltale i t s) :=
  steady_ite (fun _ => (steady_setLamps s _).trans (steady_raiseItem _ _)) (fun _ => steady_setLamps s _)

theorem steady_newLampCycle (s : State) : Steady s (newLampCycle s) := steady_forAll _ (fun _ s => steady_putTelltale _ _ s) s

theorem steady_startConverter (s : State) : Steady s (startConverter s) := steady_setConv rfl

theorem steady_openCycle (s : State) : Steady s (openCycle s) := (steady_setCycle s _).trans (steady_changeCycle _ _)

theorem steady_enterStarting (s : State) : Steady s (enterStarting s) :=
  (steady_openCycle s).trans
    ((steady_startGauges _ _).trans ((steady_startConverter _).trans (steady_newLampCycle _)))

theorem steady_enterStopping (s : State) : Steady s (enterStopping s) :=
  (steady_setCycle s _).trans ((steady_changeCycle _ _).trans
    ((steady_forGauges (fun _ g => g.ignitionOff_settings) _).trans (steady_judgePassage _)))

theorem steady_enterParked (s : State) : Steady s (enterParked s) :=
  Steady.trans (t := s.setConv { s.conv with
    scanTimer := .stopped
    parkedTimer := s.conv.settings.elim .stopped fun c => .running (1000 * c.parkedS) }) (steady_setConv rfl) (steady_changeCycle _ _)

theorem steady_addWakeCause (c : WakeCause) (s : State) : Steady s (addWakeCause c s) := by
  refine steady_ite (fun _ => ?_) (fun _ => .refl s)
  cases c <;> exact steady_setCycle s _

theorem steady_ignitionEvent (on : Bool) (s : State) : Steady s (ignitionEvent on s) := by
  unfold ignitionEvent
  refine Steady.trans (steady_setCycle s { s.cycle with ignition := on }) ?_
  dsimp only
  split
  · exact steady_ite (fun _ => steady_enterStarting _) (fun _ => .refl _)
  · exact steady_ite (fun _ => .refl _) (fun _ => steady_enterStopping _)
  · exact steady_ite (fun _ => .refl _) (fun _ => steady_enterStopping _)
  · exact steady_ite (fun _ => steady_enterStarting _) (fun _ => .refl _)
  · exact .refl _

/-! ## Switch bank -/

theorem steady_deliver (src : Source) (u : Update) (s : State) : Steady s (deliver src u s) := (deliver_table src u s).steady

theorem steady_deliverTo (src : Source) (u : Update) (i : Fin 64) (s : State) : Steady s (deliverTo src u i s) := (deliverTo_table src u i s).steady

theorem steady_ignitionOf (i : Fin 24) (b : Option Bool) (a : Bool) (s : State) : Steady s (ignitionOf i b a s) :=
  steady_ite (fun _ => steady_ignitionEvent _ _) (fun _ => .refl _)

theorem steady_wakeOf (w : Bool) (b : Option Bool) (a : Bool) (s : State) : Steady s (wakeOf w b a s) :=
  steady_ite (fun _ => steady_addWakeCause _ _) (fun _ => .refl _)

theorem steady_settleUnits (notify : Bool) (s : State) : Steady s (settleUnits notify s) := (settleUnits_eventEnd notify s).steady

theorem steady_deliverLevel (i : Fin 24) (a : Bool) (s : State) : Steady s (deliverLevel i a s) :=
  (steady_deliver _ _ s).trans (steady_settleUnits true _)

theorem steady_presentLevel (i : Fin 24) (x : SwitchInput) (s : State) : Steady s (presentLevel i x s) :=
  (steady_setInput i x s).trans (steady_settleUnits true _)

theorem steady_acceptLevel (st : SwitchSettings) (i : Fin 24) (b : Option Bool) (a : Bool) (x : SwitchInput) (s : State) :
    Steady s (acceptLevel st i b a x s) :=
  (steady_deliverLevel i a s).trans
    ((steady_presentLevel i x _).trans ((steady_ignitionOf i b a _).trans (steady_wakeOf _ b a _)))

theorem steady_debounceExpiry (st : SwitchSettings) (i : Fin 24) (s : State) : Steady s (debounceExpiry st i s) :=
  steady_ite (fun _ => steady_setInput i _ s) (fun _ => steady_acceptLevel ..)

theorem steady_commitInput (old new : SwitchSettings) (i : Fin 24) (s : State) : Steady s (commitInput old new i s) := by
  unfold commitInput
  dsimp only
  have h : Steady s (if s.switches.inputs[i].debounce.isRunning = true then
      setInput i { s.switches.inputs[i] with debounce := .running new.debounceMs[i] } s else s) :=
    steady_ite (fun _ => steady_setInput i _ s) (fun _ => .refl _)
  revert h
  generalize (if s.switches.inputs[i].debounce.isRunning = true then
    setInput i { s.switches.inputs[i] with debounce := .running new.debounceMs[i] } s else s) = t
  intro h
  cases s.switches.inputs[i].accepted with
  | none => exact h
  | some l =>
    refine h.trans (Steady.trans ?_ (steady_deliver _ _ _))
    exact steady_ite (fun _ => .refl _) (fun _ => (steady_ignitionOf i _ _ t).trans (steady_wakeOf _ _ _ _))

theorem steady_commitSwitches (c : Configuration) (s : State) : Steady s (commitSwitches c s) :=
  (steady_setSwitches s _).trans (steady_forAll _ (fun i s => steady_commitInput _ _ i s) _)

/-! ## Pulse unit and converter -/

theorem steady_advanceCounter (c : Fin 4) (n : Nat) (s : State) : Steady s (advanceCounter c n s) := steady_setChannel c _ s

theorem steady_startGate (c : Fin 4) (s : State) : Steady s (startGate c s) := by
  unfold startGate
  split
  · exact steady_setChannel c _ s
  · exact .refl s

theorem steady_takeConverterSettings (c : Configuration) (s : State) : Steady s (takeConverterSettings c s) := steady_setConv rfl

theorem steady_takeOverConverter (s : State) : Steady s (takeOverConverter s) := by
  unfold takeOverConverter
  split
  · exact steady_takeConverterSettings _ s
  · exact .refl s
  · exact .refl s

theorem steady_beginPass (parked : Bool) (s : State) : Steady s (beginPass parked s) := by
  unfold beginPass
  split
  · exact steady_setConv rfl
  · refine (steady_takeOverConverter s).trans ?_
    dsimp only
    split
    · exact steady_setPass _ _
    · exact .refl _

theorem steady_renewParkedTimer (s : State) : Steady s (renewParkedTimer s) := by
  unfold renewParkedTimer
  split
  · exact steady_setConv rfl
  · exact .refl s

theorem steady_deliverTestFail (i : Fin 16) (s : State) : Steady s (deliverTestFail i s) := by
  unfold deliverTestFail
  split
  · exact steady_ite (fun _ => .refl s) (fun _ => steady_deliver _ _ s)
  · exact .refl s

theorem steady_clearRefuel (i : Fin 16) (s : State) : Steady s (clearRefuel i s) := steady_setScanState i _ s

/-! ## Telltale unit -/

theorem steady_finishEvent (before s : State) : Steady s (finishEvent before s) := (finishEvent_eventEnd before s).steady

theorem steady_telltaleNotices (before : Vector Telltale 40) (s : State) : Steady s (telltaleNotices before s) :=
  (telltaleNotices_eventEnd before s).steady

theorem steady_takeLampSettings (c : Configuration) (s : State) : Steady s (takeLampSettings c s) :=
  (steady_setLamps s _).trans (steady_setLamps _ _)

theorem steady_commitLampSettings (c : Configuration) (s : State) : Steady s (commitLampSettings c s) :=
  (steady_setLamps s _).trans ((steady_setLamps _ _).trans (steady_telltaleNotices _ _))

theorem steady_clearPortClaims (p : Port) (s : State) : Steady s (clearPortClaims p s) := steady_setLamps s _

theorem steady_commitGauges (c : Configuration) (s : State) : Steady s (commitGauges c s) :=
  steady_forAll _ (fun i s => steady_putGauge i _ s) s

theorem steady_noticeAllEntries (s : State) : Steady s (noticeAllEntries s) := steady_forAll _ (fun _ s => steady_raiseItem _ s) s

theorem steady_setTakeOvers (s : State) : Steady s (setTakeOvers s) := (steady_setPulse s _).trans (steady_setConv rfl)

theorem steady_changePlaying (phase : ChimePhase) (f : ChimeDesc → Chime → Chime) (s : State) : Steady s (changePlaying phase f s) := by
  unfold changePlaying
  split
  · exact steady_ite (fun _ => steady_setLamps s _) (fun _ => .refl s)
  · exact .refl s
  · exact .refl s

end Sys2Proof.Machine
end

