-- ==== Sys2Proof/Laws/Frames.lean ====
section
/-! SUPPORT. How the runnable frames run (R167): induction over them, and the work that bounds them. -/

namespace Sys2Proof.Machine

/-- What every request and every end of a frame keeps, the running of the frames keeps. -/
theorem runFramesFor_keeps {P : State → Prop} (h : ∀ p s, (s.port p).runnable = true → P s → P (advanceFrame p s)) :
    ∀ n s, P s → P (runFramesFor n s) := by
  intro n
  induction n with
  | zero => exact fun _ hs => hs
  | succ n ih =>
    intro s hs
    unfold runFramesFor
    split
    · rename_i p hp
      refine ih _ (h p s ?_ hs)
      unfold State.nextRunnable at hp
      repeat' split at hp
      all_goals first | (cases hp; assumption) | cases hp
    · exact hs

/-- See `runFramesFor_keeps`. -/
theorem runFrames_keeps {P : State → Prop} (h : ∀ p s, (s.port p).runnable = true → P s → P (advanceFrame p s)) (s : State) (hs : P s) :
    P (runFrames s) := runFramesFor_keeps h _ s hs

/-- With no runnable frame nothing runs. -/
theorem runFrames_idle (s : State) (h : s.nextRunnable = none) : runFrames s = s := by
  unfold runFrames
  cases s.work with
  | zero => rfl
  | succ n => unfold runFramesFor; rw [h]

/-- A frame that waits for nothing is runnable. -/
theorem nextRunnable_none {s : State} (h : ∀ p, (s.port p).runnable = false) : s.nextRunnable = none := by
  unfold State.nextRunnable
  have hd : s.ports.dlink.runnable = false := h .dlink
  have hn : s.ports.nlink.runnable = false := h .nlink
  have ht : s.ports.tlink.runnable = false := h .tlink
  simp [hd, hn, ht]

/-- A property that ends of events, frame ends and requests keep holds after every command that ends its event so. -/
theorem complete_keeps {P : State → Prop} (hf : ∀ b s, P s → P (finishEvent b s))
    (ha : ∀ p s, (s.port p).runnable = true → P s → P (advanceFrame p s)) (before s : State) (h : P s) : P (complete before s) :=
  runFrames_keeps ha _ (hf before s h)

/-! ## Work -/

theorem PortKept.work {x y : PortState} (h : PortKept x y) : y.work = x.work := by
  unfold PortState.work
  cases hx : x.exec with
  | none =>
    have : y.exec = none := by simpa [hx] using h.isSome
    rw [this]
  | some f =>
    obtain ⟨g, hg, k⟩ := h.exec f hx
    simp [hg, k.rest]

/-- No port's frame has more left to do. -/
structure WorkKept (s t : State) : Prop where
  le : ∀ p, (t.port p).work ≤ (s.port p).work

theorem WorkKept.refl (s : State) : WorkKept s s := ⟨fun _ => le_rfl⟩

theorem WorkKept.trans {s t u : State} (a : WorkKept s t) (b : WorkKept t u) : WorkKept s u := ⟨fun p => (b.le p).trans (a.le p)⟩

theorem PortsTook.work {s t : State} (h : PortsTook s t) : WorkKept s t := ⟨fun p => (h.kept p).work.le⟩

theorem Steady.work {s t : State} (h : Steady s t) : WorkKept s t := h.ports.work

theorem WorkKept.of_ports {s t : State} (h : t.ports = s.ports) : WorkKept s t := ⟨fun p => by simp [State.port, h]⟩

theorem workKept_setPort {p : Port} {x : PortState} {s : State} (h : x.work ≤ (s.port p).work) : WorkKept s (setPort p x s) := by
  refine ⟨fun q => ?_⟩
  rw [port_setPort]
  split
  · subst_vars; exact h
  · exact le_rfl

theorem workKept_mapExec {f : FrameExec → FrameExec} (h : ∀ g, (f g).rest = g.rest) (p : Port) (s : State) : WorkKept s (mapExec f p s) := by
  refine workKept_setPort ?_
  unfold PortState.work
  cases (s.port p).exec <;> simp [h]

theorem workKept_foldl {α : Type} (f : State → α → State) (h : ∀ s i, WorkKept s (f s i)) (l : List α) (s : State) : WorkKept s (l.foldl f s) :=
  foldl_rel WorkKept.refl (fun _ _ _ => WorkKept.trans) f h l s

end Sys2Proof.Machine
end

