-- ==== Sys2Proof/Laws/Memory.lean ====
section
/-! SUPPORT. The image and the staging buffer: a write reads back, leaves every other byte, and keeps the canonical form. -/

namespace Sys2Proof.Machine

/-- The byte at an address that no cell lists. -/
theorem Memory.read_unlisted : ∀ (m : Memory) (a : Nat), (∀ c ∈ m, c.1 ≠ a) → m.read a = Memory.unlisted
  | [], _, _ => rfl
  | (b, v) :: m, a, h => by
    have hb : b ≠ a := h (b, v) (by simp)
    simp only [Memory.read, hb, if_false]
    exact Memory.read_unlisted m a fun c hc => h c (by simp [hc])

/-- What a byte reads as after a write to a memory in canonical form. -/
theorem Memory.read_write : ∀ (m : Memory), m.wf → ∀ (a b : Nat) (v : Byte), (m.write a v).read b = if b = a then v else m.read b
  | [], _, a, b, v => by
    unfold Memory.write
    split
    · subst_vars; split <;> simp [Memory.read]
    · by_cases h : b = a
      · subst h; simp [Memory.read]
      · simp [Memory.read, h, Ne.symm h]
  | (k, w) :: m, hm, a, b, v => by
    have hm' : Memory.wf m := ⟨(List.pairwise_cons.1 hm.1).2, fun c hc => hm.2 c (by simp [hc])⟩
    have hk : ∀ c ∈ m, k < c.1 := (List.pairwise_cons.1 hm.1).1
    have hkn : Memory.read m k = Memory.unlisted := Memory.read_unlisted m k fun c hc => (hk c hc).ne'
    have ha : a < k → Memory.read m a = Memory.unlisted := fun h =>
      Memory.read_unlisted m a fun c hc => (h.trans (hk c hc)).ne'
    unfold Memory.write
    by_cases h1 : a < k
    · rw [if_pos h1]
      split
      · subst_vars
        by_cases hb : b = a
        · subst hb; simp [Memory.read, h1.ne', ha h1]
        · simp [hb]
      · by_cases hb : b = a
        · subst hb; simp [Memory.read]
        · simp [Memory.read, Ne.symm hb, hb]
    · rw [if_neg h1]
      by_cases h2 : a = k
      · subst h2
        rw [if_pos rfl]
        split
        · subst_vars
          by_cases hb : b = a
          · subst hb; simpa using hkn
          · simp [Memory.read, Ne.symm hb, hb]
        · by_cases hb : b = a
          · subst hb; simp [Memory.read]
          · simp [Memory.read, Ne.symm hb, hb]
      · rw [if_neg h2]
        have ih := Memory.read_write m hm' a b v
        by_cases hb : k = b
        · have : b ≠ a := fun e => h2 (e ▸ hb.symm)
          simp [Memory.read, hb, this]
        · simp [Memory.read, hb, ih]

/-- The addresses that a write lists. -/
theorem Memory.mem_write : ∀ (m : Memory) (a : Nat) (v : Byte) (c : Host.Cell), c ∈ m.write a v → c ∈ m ∨ c = (a, v) ∧ v ≠ Memory.unlisted
  | [], a, v, c, h => by
    unfold Memory.write at h
    split at h
    · exact absurd h (List.not_mem_nil)
    · exact .inr ⟨List.mem_singleton.1 h, ‹_›⟩
  | (k, w) :: m, a, v, c, h => by
    unfold Memory.write at h
    repeat' split at h
    · exact .inl h
    · rcases List.mem_cons.1 h with h | h
      · exact .inr ⟨h, ‹_›⟩
      · exact .inl h
    · exact .inl (List.mem_cons_of_mem _ h)
    · rcases List.mem_cons.1 h with h | h
      · exact .inr ⟨h, ‹_›⟩
      · exact .inl (List.mem_cons_of_mem _ h)
    · rcases List.mem_cons.1 h with h | h
      · exact .inl (h ▸ List.mem_cons_self)
      · rcases Memory.mem_write m a v c h with h | h
        · exact .inl (List.mem_cons_of_mem _ h)
        · exact .inr h

/-- A write keeps the canonical form. -/
theorem Memory.write_wf : ∀ (m : Memory), m.wf → ∀ (a : Nat) (v : Byte), (m.write a v).wf
  | [], _, a, v => by
    unfold Memory.write
    split
    · exact ⟨List.Pairwise.nil, fun _ h => absurd h List.not_mem_nil⟩
    · exact ⟨List.pairwise_singleton _ _, fun c h => by rw [List.mem_singleton.1 h]; assumption⟩
  | (k, w) :: m, hm, a, v => by
    have hm' : Memory.wf m := ⟨(List.pairwise_cons.1 hm.1).2, fun c hc => hm.2 c (by simp [hc])⟩
    have hk : ∀ c ∈ m, k < c.1 := (List.pairwise_cons.1 hm.1).1
    unfold Memory.write
    split
    · rename_i h1
      split
      · exact hm
      · refine ⟨List.pairwise_cons.2 ⟨?_, hm.1⟩, ?_⟩
        · intro c hc
          rcases List.mem_cons.1 hc with rfl | hc
          · exact h1
          · exact lt_trans h1 (hk c hc)
        · intro c hc
          rcases List.mem_cons.1 hc with rfl | hc
          · assumption
          · exact hm.2 c hc
    · split
      · rename_i h1 h2
        split
        · exact hm'
        · refine ⟨List.pairwise_cons.2 ⟨fun c hc => h2 ▸ hk c hc, hm'.1⟩, ?_⟩
          intro c hc
          rcases List.mem_cons.1 hc with rfl | hc
          · assumption
          · exact hm'.2 c hc
      · rename_i h1 h2
        have ih := Memory.write_wf m hm' a v
        refine ⟨List.pairwise_cons.2 ⟨?_, ih.1⟩, ?_⟩
        · intro c hc
          rcases Memory.mem_write m a v c hc with hc | ⟨rfl, -⟩
          · exact hk c hc
          · show k < a
            omega
        · intro c hc
          rcases List.mem_cons.1 hc with rfl | hc
          · exact hm.2 _ (by simp)
          · exact ih.2 c hc

/-- Consecutive bytes written keep the canonical form. -/
theorem Memory.writeBytes_wf : ∀ (bs : List Byte) (m : Memory), m.wf → ∀ a, (m.writeBytes a bs).wf
  | [], _, h, _ => h
  | b :: bs, m, h, a => Memory.writeBytes_wf bs _ (Memory.write_wf m h a b) (a + 1)

theorem Memory.writeBlock_wf (m : Memory) (h : m.wf) (i : Nat) (bs : List Byte) : (Memory.writeBlock m i bs).wf :=
  Memory.writeBytes_wf bs m h _

theorem Memory.eraseLastBlock_wf (m : Memory) (h : m.wf) : (Memory.eraseLastBlock m).wf := Memory.writeBlock_wf m h _ _

theorem Memory.ofBytesFrom_wf : ∀ (bs : List Byte) (a : Nat), (Memory.ofBytesFrom a bs).wf ∧ ∀ c ∈ Memory.ofBytesFrom a bs, a ≤ c.1
  | [], _ => ⟨⟨List.Pairwise.nil, fun _ h => absurd h List.not_mem_nil⟩, fun _ h => absurd h List.not_mem_nil⟩
  | b :: bs, a => by
    have ih := Memory.ofBytesFrom_wf bs (a + 1)
    unfold Memory.ofBytesFrom
    split
    · exact ⟨ih.1, fun c hc => (Nat.le_succ a).trans (ih.2 c hc)⟩
    · refine ⟨⟨List.pairwise_cons.2 ⟨fun c hc => ih.2 c hc, ih.1.1⟩, ?_⟩, ?_⟩
      · intro c hc
        rcases List.mem_cons.1 hc with rfl | hc
        · assumption
        · exact ih.1.2 c hc
      · intro c hc
        rcases List.mem_cons.1 hc with rfl | hc
        · exact le_rfl
        · exact (Nat.le_succ a).trans (ih.2 c hc)

theorem Memory.ofBytes_wf (bs : List Byte) : (Memory.ofBytes bs).wf := (Memory.ofBytesFrom_wf bs 0).1

/-- What a byte reads as after consecutive bytes were written. -/
theorem Memory.read_writeBytes : ∀ (bs : List Byte) (m : Memory), m.wf → ∀ a k : Nat,
    (m.writeBytes a bs).read k = if a ≤ k ∧ k < a + bs.length then bs.getD (k - a) 0 else m.read k
  | [], m, _, a, k => by
    have : ¬(a ≤ k ∧ k < a + ([] : List Byte).length) := by simp
    simp [Memory.writeBytes]
  | b :: bs, m, h, a, k => by
    rw [Memory.writeBytes, Memory.read_writeBytes bs _ (Memory.write_wf m h a b) (a + 1) k, Memory.read_write m h]
    by_cases h1 : k = a
    · subst h1; simp
    · by_cases h2 : a + 1 ≤ k ∧ k < a + 1 + bs.length
      · have h3 : a ≤ k ∧ k < a + (b :: bs).length := by simp; omega
        have h4 : k - a = (k - (a + 1)) + 1 := by omega
        rw [if_pos h2, if_pos h3, h4, List.getD_cons_succ]
      · have h3 : ¬(a ≤ k ∧ k < a + (b :: bs).length) := by simp; omega
        rw [if_neg h2, if_neg h3, if_neg h1]

/-- A byte of a block after the block was replaced, and every other byte as before. -/
theorem Memory.read_writeBlock (m : Memory) (h : m.wf) (i : Nat) (bs : List Byte) (k : Nat) :
    (Memory.writeBlock m i bs).read k = if 16 * i ≤ k ∧ k < 16 * i + bs.length then bs.getD (k - 16 * i) 0 else m.read k :=
  Memory.read_writeBytes bs m h _ k

/-- A byte of a memory made of bytes from an address upward. -/
theorem Memory.read_ofBytesFrom : ∀ (bs : List Byte) (a k : Nat),
    (Memory.ofBytesFrom a bs).read k = if a ≤ k then bs.getD (k - a) Memory.unlisted else Memory.unlisted
  | [], a, k => by simp [Memory.ofBytesFrom, Memory.read]
  | b :: bs, a, k => by
    have ih := Memory.read_ofBytesFrom bs (a + 1) k
    unfold Memory.ofBytesFrom
    by_cases hk : k = a
    · subst hk
      split
      · rw [ih]; subst_vars; simp
      · simp [Memory.read]
    · have e : (if a ≤ k then (b :: bs).getD (k - a) Memory.unlisted else Memory.unlisted) =
          if a + 1 ≤ k then bs.getD (k - (a + 1)) Memory.unlisted else Memory.unlisted := by
        by_cases h : a + 1 ≤ k
        · have h2 : k - a = (k - (a + 1)) + 1 := by omega
          rw [if_pos (by omega), if_pos h, h2, List.getD_cons_succ]
        · rw [if_neg (by omega), if_neg h]
      rw [e]
      split
      · exact ih
      · simp only [Memory.read, if_neg (Ne.symm hk)]; exact ih

/-- A byte of a memory made of bytes. -/
theorem Memory.read_ofBytes (bs : List Byte) (k : Nat) : (Memory.ofBytes bs).read k = bs.getD k Memory.unlisted := by
  simp [Memory.ofBytes, Memory.read_ofBytesFrom]

/-- A stretch of a memory made of bytes: its bytes, and the erased byte beyond their end. -/
theorem Memory.slice_ofBytes (bs : List Byte) (a n : Nat) :
    (Memory.ofBytes bs).slice a n = (bs.drop a ++ List.replicate n Memory.unlisted).take n := by
  apply List.ext_getElem
  · simp [Memory.slice]
  · intro i h1 h2
    have hi : i < n := by simpa [Memory.slice] using h1
    simp only [Memory.slice, List.getElem_map, List.getElem_range, Memory.read_ofBytes, List.getElem_take]
    by_cases h : a + i < bs.length
    · rw [List.getElem_append_left (by simp; omega)]
      simp [List.getD, List.getElem?_eq_getElem h]
    · rw [List.getElem_append_right (by simp; omega)]
      simp [List.getD, List.getElem?_eq_none (by omega : bs.length ≤ a + i)]

end Sys2Proof.Machine
end

