-- ==== Sys2Proof/Laws/Reports.lean ====
section
/-! SUPPORT. What the end of an event and an update of the signal table report, and which telltales they leave as they are. -/

namespace Sys2Proof.Machine

/-! ## Telltales compared -/

theorem telltaleChanged_iff (a b : Telltale) : telltaleChanged a b = true ↔ TelltaleDiffers a b := by
  unfold telltaleChanged TelltaleDiffers
  simp only [Bool.or_eq_true, bne_iff_ne, ne_eq, or_assoc]
  constructor <;> rintro (h | h | h | h)
  all_goals first
    | exact .inl (fun e => h e.symm)
    | exact .inr (.inl fun e => h e.symm)
    | exact .inr (.inr (.inl fun e => h e.symm))
    | exact .inr (.inr (.inr fun e => h e.symm))

theorem TelltaleDiffers.irrefl (a : Telltale) : ¬ TelltaleDiffers a a := by simp [TelltaleDiffers]

/-- What two telltales show, if they do not differ as R127 asks. -/
theorem not_telltaleDiffers {a b : Telltale} :
    ¬ TelltaleDiffers a b ↔ b.resolved = a.resolved ∧ b.shown = a.shown ∧ b.fault = a.fault ∧ b.failed = a.failed := by
  simp [TelltaleDiffers]

theorem TelltaleDiffers.between {a c : Telltale} (b : Telltale) (h : TelltaleDiffers a c) : TelltaleDiffers a b ∨ TelltaleDiffers b c := by
  by_contra k
  rw [not_or, not_telltaleDiffers, not_telltaleDiffers] at k
  unfold TelltaleDiffers at h
  rw [k.2.1, k.2.2.1, k.2.2.2.1, k.2.2.2.2, k.1.1, k.1.2.1, k.1.2.2.1, k.1.2.2.2] at h
  simp at h

/-- From `u` to `t` every telltale shows the same, by its patterns, its driver fault and its FAILED flag. -/
def SameShown (u t : State) : Prop := ∀ i : Fin 40, ¬ TelltaleDiffers u.lamps.telltales[i] t.lamps.telltales[i]

theorem SameShown.refl (s : State) : SameShown s s := fun _ => TelltaleDiffers.irrefl _

theorem SameShown.trans {s t u : State} (a : SameShown s t) (b : SameShown t u) : SameShown s u := fun i h =>
  (h.between _).elim (a i) (b i)

theorem SameShown.of_telltales {s t : State} (h : t.lamps.telltales = s.lamps.telltales) : SameShown s t := fun i => by
  rw [h]; exact TelltaleDiffers.irrefl _

theorem SameShown.of_lamps {s t : State} (h : t.lamps = s.lamps) : SameShown s t := .of_telltales (by rw [h])

theorem SameShown.left {s t u : State} (h : SameShown s t) {i : Fin 40} (d : TelltaleDiffers s.lamps.telltales[i] u.lamps.telltales[i]) :
    TelltaleDiffers t.lamps.telltales[i] u.lamps.telltales[i] := (d.between _).resolve_left (h i)

theorem SameShown.left' {s t u : State} (h : SameShown s t) {i : Fin 40} (d : TelltaleDiffers t.lamps.telltales[i] u.lamps.telltales[i]) :
    TelltaleDiffers s.lamps.telltales[i] u.lamps.telltales[i] := by
  have := not_telltaleDiffers.1 (h i)
  simpa only [TelltaleDiffers, this.1, this.2.1, this.2.2.1, this.2.2.2] using d

/-- From `u` to `t`, the change lists have gained nothing but telltales that differ. -/
def ShownReported (u t : State) : Prop :=
  ReportedOnly (fun i => ∃ k : Fin 40, i = telltaleItem k ∧ TelltaleDiffers u.lamps.telltales[k] t.lamps.telltales[k]) u t

/-- From `u` to `t`, every telltale that differs is reported. -/
def ShownNoticed (u t : State) : Prop :=
  ∀ i : Fin 40, TelltaleDiffers u.lamps.telltales[i] t.lamps.telltales[i] → noticed (telltaleItem i) t

theorem ShownNoticed.of_same {u t : State} (h : SameShown u t) : ShownNoticed u t := fun i d => (h i d).elim

theorem ShownNoticed.trans {s t u : State} (a : ShownNoticed s t) (b : ShownNoticed t u) (p : PortsTook t u) : ShownNoticed s u := fun i d =>
  (d.between t.lamps.telltales[i]).elim (fun h => (a i h).took p) (b i)

/-! ## The end of an event -/

theorem telltaleNotices_reports (before : Vector Telltale 40) (s : State) :
    ReportedOnly (fun i => ∃ k : Fin 40, i = telltaleItem k ∧ TelltaleDiffers before[k] s.lamps.telltales[k]) s (telltaleNotices before s) ∧
    ∀ k : Fin 40, TelltaleDiffers before[k] s.lamps.telltales[k] → noticed (telltaleItem k) (telltaleNotices before s) := by
  unfold telltaleNotices forAll
  have key : ∀ (l : List (Fin 40)) (u : State), u.lamps = s.lamps →
      let v := l.foldl (fun s i => if telltaleChanged before[i] s.lamps.telltales[i] then raiseItem (telltaleItem i) s else s) u
      PortsTook u v ∧ v.lamps = s.lamps ∧
      ReportedOnly (fun i => ∃ k : Fin 40, i = telltaleItem k ∧ TelltaleDiffers before[k] s.lamps.telltales[k]) u v ∧
      ∀ k ∈ l, TelltaleDiffers before[k] s.lamps.telltales[k] → noticed (telltaleItem k) v := by
    intro l
    induction l with
    | nil => exact fun u hu => ⟨.refl u, hu, .refl u _, by simp⟩
    | cons a l ih =>
      intro u hu
      dsimp only [List.foldl_cons]
      have hs : ∀ w, w = (if telltaleChanged before[a] u.lamps.telltales[a] then raiseItem (telltaleItem a) u else u) →
          PortsTook u w ∧ w.lamps = s.lamps ∧
          ReportedOnly (fun i => ∃ k : Fin 40, i = telltaleItem k ∧ TelltaleDiffers before[k] s.lamps.telltales[k]) u w ∧
          (TelltaleDiffers before[a] s.lamps.telltales[a] → noticed (telltaleItem a) w) := by
        rintro w rfl
        rw [hu]
        by_cases h : telltaleChanged before[a] s.lamps.telltales[a] = true
        · rw [if_pos h]
          exact ⟨.raiseItem u _, hu, .raiseItem u ⟨a, rfl, (telltaleChanged_iff _ _).1 h⟩, fun _ => noticed_raiseItem _ _⟩
        · rw [if_neg h]
          exact ⟨.refl u, hu, .refl u _, fun k => (h ((telltaleChanged_iff _ _).2 k)).elim⟩
      obtain ⟨h1, h2, h3, h4⟩ := hs _ rfl
      obtain ⟨k1, k2, k3, k4⟩ := ih _ h2
      refine ⟨h1.trans k1, k2, h3.trans k3, fun k hk d => ?_⟩
      rcases List.mem_cons.1 hk with rfl | hk
      · exact (h4 d).took k1
      · exact k4 k hk d
  have := key (List.finRange 40) s rfl
  exact ⟨this.2.2.1, fun k => this.2.2.2 k (List.mem_finRange k)⟩

theorem lampPass_ports (st : LampSettings) (s : State) : (lampPass st s).ports = s.ports := by
  unfold lampPass
  simp only [setCond_ports, State.setLamps_ports]

theorem lampRounds_ports (st : LampSettings) : ∀ n s, (lampRounds n st s).ports = s.ports
  | 0, _ => rfl
  | n + 1, s => by
    unfold lampRounds
    dsimp only
    split
    · exact lampPass_ports st s
    · exact (lampRounds_ports st n _).trans (lampPass_ports st s)

theorem showAll_ports (st : LampSettings) (s : State) : (showAll st s).ports = s.ports := by
  unfold showAll
  exact State.setLamps_ports ..

theorem settleLamps_reports (notify : Bool) (s : State) :
    ReportedOnly (fun i => notify = true ∧ ∃ k : Fin 40, i = telltaleItem k ∧
      TelltaleDiffers s.lamps.telltales[k] (settleLamps notify s).lamps.telltales[k]) s (settleLamps notify s) ∧
    (notify = true → ShownNoticed s (settleLamps notify s)) := by
  unfold settleLamps
  split
  · exact ⟨.refl s _, fun _ => .of_same (.refl s)⟩
  · rename_i st _
    dsimp only
    have hp : (showAll st (lampRounds 3 st s)).ports = s.ports := (showAll_ports st _).trans (lampRounds_ports st 3 s)
    cases notify
    · exact ⟨.of_ports _ hp, nofun⟩
    · have hn := telltaleNotices_reports s.lamps.telltales (showAll st (lampRounds 3 st s))
      have hl := (telltaleNotices_lamps s.lamps.telltales (showAll st (lampRounds 3 st s))).1
      rw [if_pos rfl]
      refine ⟨?_, fun _ i d => ?_⟩
      · refine ((ReportedOnly.of_ports _ hp).trans hn.1).mono ?_
        rintro i ⟨k, hk, hd⟩
        exact ⟨rfl, k, hk, by rw [hl]; exact hd⟩
      · rw [hl] at d
        exact hn.2 i d

theorem settleChimes_ports (s : State) : (settleChimes s).ports = s.ports := by
  unfold settleChimes
  split <;> rfl

theorem settleUnits_shown (s : State) : ShownReported s (settleUnits true s) ∧ ShownNoticed s (settleUnits true s) := by
  have h := settleLamps_reports true s
  have ht := settleChimes_telltales (settleLamps true s)
  have hp := settleChimes_ports (settleLamps true s)
  refine ⟨?_, fun i d => ?_⟩
  · refine (h.1.trans (.of_ports _ hp)).mono ?_
    rintro i ⟨-, k, hk, hd⟩
    exact ⟨k, hk, by unfold settleUnits; rw [ht]; exact hd⟩
  · unfold settleUnits at d
    rw [ht] at d
    exact ((h.2 rfl) i d).took (.of_ports hp)

theorem telltaleNotices_idle {before : Vector Telltale 40} {s : State} (h : ∀ i : Fin 40, ¬ TelltaleDiffers before[i] s.lamps.telltales[i]) :
    telltaleNotices before s = s := by
  refine forAll_keeps (P := (· = s)) _ (fun i t ht => ?_) s rfl
  subst ht
  exact if_neg fun k => h i ((telltaleChanged_iff _ _).1 k)

/-- Where no telltale differs, the telltale unit's part of an event leaves the ports as they are. -/
theorem settleUnits_idle {s : State} (h : SameShown s (settleUnits true s)) : (settleUnits true s).ports = s.ports := by
  unfold settleUnits at h ⊢
  rw [settleChimes_ports]
  have h' : SameShown s (settleLamps true s) := fun i d => h i (by rw [settleChimes_telltales]; exact d)
  clear h
  unfold settleLamps at h' ⊢
  split
  · rfl
  · rename_i st hst
    dsimp only at h' ⊢
    rw [if_pos rfl]
    rw [telltaleNotices_idle]
    · exact (showAll_ports st _).trans (lampRounds_ports st 3 s)
    · simp only [hst] at h'
      rw [if_pos trivial] at h'
      intro i d
      refine h' i ?_
      rw [(telltaleNotices_lamps _ _).1]
      exact d

/-- What the end of an event reports: telltales that differ, and item 112 where its view does. -/
theorem finishEvent_reports (before s : State) :
    ReportedOnly (fun i => (∃ k : Fin 40, i = telltaleItem k ∧ TelltaleDiffers s.lamps.telltales[k] (finishEvent before s).lamps.telltales[k]) ∨
      (i = cycleItem ∧ (finishEvent before s).cycleView ≠ before.cycleView)) s (finishEvent before s) ∧
    ShownNoticed s (finishEvent before s) ∧
    ((finishEvent before s).cycleView ≠ before.cycleView → noticed cycleItem (finishEvent before s)) := by
  have h := settleUnits_shown s
  have key : ∀ v, (finishEvent before s = settleUnits true s ∧ before.cycleView = (settleUnits true s).cycleView) ∨
      (finishEvent before s = raiseItem cycleItem (settleUnits true s) ∧ before.cycleView ≠ (settleUnits true s).cycleView) ∨ v := by
    intro v
    unfold finishEvent cycleNotice
    by_cases k : before.cycleView = (settleUnits true s).cycleView
    · exact .inl ⟨if_pos k, k⟩
    · exact .inr (.inl ⟨if_neg k, k⟩)
  rcases key False with ⟨e, k⟩ | ⟨e, k⟩ | f
  · rw [e]
    exact ⟨h.1.mono fun _ => .inl, h.2, fun n => (n k.symm).elim⟩
  · rw [e]
    refine ⟨ReportedOnly.trans (h.1.mono fun _ => .inl) (.raiseItem _ (.inr ⟨rfl, fun n => k n.symm⟩)),
      fun i d => ?_, fun _ => noticed_raiseItem _ _⟩
    exact (h.2 i d).took (.raiseItem _ _)
  · exact f.elim

/-! ## The signal table and the gauges keep the telltales -/

theorem putGauge_shown (i : Fin 6) (g : Gauge) (s : State) : SameShown s (putGauge i g s) := by
  refine .of_lamps ?_
  have hj : ∀ u : State, (judgePassage u).lamps = u.lamps := fun u => by
    unfold judgePassage
    split
    · split <;> rfl
    · split <;> rfl
    · rfl
    · rfl
    · rfl
  unfold putGauge
  dsimp only
  split
  · split <;> rfl
  · rw [hj]; split <;> rfl

theorem SameShown.forAll {n : Nat} {f : Fin n → State → State} (h : ∀ i s, SameShown s (f i s)) (s : State) : SameShown s (forAll n f s) :=
  forAll_rel SameShown.refl (fun _ _ _ => SameShown.trans) f h s

theorem forGauges_shown (f : View → Gauge → Gauge) (s : State) : SameShown s (forGauges f s) := .forAll (fun _ s => putGauge_shown _ _ s) s

theorem judgeLatches_shown (e : Fin 64) (s : State) : SameShown s (judgeLatches e s) := by
  unfold judgeLatches
  split
  · exact .refl s
  · intro i
    simp [not_telltaleDiffers]

theorem handEffective_shown (i : Fin 64) (s : State) : SameShown s (handEffective i s) :=
  .trans (.forAll (fun k s => by dsimp only; split; exacts [putGauge_shown _ _ s, .refl s]) s) (judgeLatches_shown i _)

theorem noticeEntry_shown (before : Entry) (i : Fin 64) (s : State) : SameShown s (noticeEntry before i s) := by
  unfold noticeEntry
  dsimp only
  split <;> exact .of_lamps rfl

theorem judgePairs_shown (b : Bool) (i : Fin 64) (s : State) : SameShown s (judgePairs b i s) :=
  .forAll (fun a s => by
    split
    · unfold judgePairOf
      split
      exacts [.refl s, .of_lamps rfl]
    · exact .refl s) s

theorem reportPartners_shown (before : Vector Entry 64) (i : Fin 64) (s : State) : SameShown s (reportPartners before i s) :=
  .forAll (fun a s => by
    split
    exacts [(noticeEntry_shown _ a s).trans (handEffective_shown a _), .refl s]) s

theorem recompute_shown (before : Entry) (b : Bool) (i : Fin 64) (s : State) : SameShown s (recompute before b i s) := by
  unfold recompute
  exact ((((SameShown.of_lamps (t := setEntry i _ s) (setEntry_lamps ..)).trans (judgePairs_shown b i _)).trans (noticeEntry_shown before i _)).trans
    (handEffective_shown i _)).trans (reportPartners_shown _ i _)

theorem deliverTo_shown (src : Source) (u : Update) (i : Fin 64) (s : State) : SameShown s (deliverTo src u i s) := by
  unfold deliverTo
  repeat' split
  · exact .refl s
  · exact (SameShown.of_lamps (t := setEntry i _ s) (setEntry_lamps ..)).trans (recompute_shown _ _ i _)
  · exact (SameShown.of_lamps (t := setEntry i _ s) (setEntry_lamps ..)).trans (recompute_shown _ _ i _)
  · exact .refl s

theorem deliver_shown (src : Source) (u : Update) (s : State) : SameShown s (deliver src u s) := .forAll (fun i s => deliverTo_shown src u i s) s

theorem changeSlots_shown (f : Source → Slot → Slot) (i : Fin 64) (s : State) : SameShown s (changeSlots f i s) := by
  unfold changeSlots
  dsimp only
  split
  · exact .of_lamps (setEntry_lamps ..)
  · exact (SameShown.of_lamps (t := setEntry i _ s) (setEntry_lamps ..)).trans (recompute_shown _ _ i _)

theorem TelltalesReported.of_shown {s t : State} (h : ShownReported s t) : TelltalesReported s t :=
  h.mono fun _ ⟨k, e, d⟩ j e' => by rw [telltaleItem_inj (e'.symm.trans e)]; exact d

/-- No telltale was reported. -/
def NoTelltale (s t : State) : Prop := ReportedOnly (fun i => ∀ k : Fin 40, i ≠ telltaleItem k) s t

theorem NoTelltale.of_signalGauge {N : Fin 113 → Prop} {s t : State} (h : ReportedOnly N s t) (k : ∀ i, N i → ofTable i) : NoTelltale s t :=
  h.mono fun i n j e => not_ofTable_telltale j (e ▸ k i n)

theorem putGauge_only (i : Fin 6) (g : Gauge) (s : State) : ReportedOnly ofTable s (putGauge i g s) :=
  (putGauge_reported i g s).2.2.mono fun _ ⟨e, _⟩ => e ▸ ofTable_gauge i

theorem handEffective_only (i : Fin 64) (s : State) : ReportedOnly ofTable s (handEffective i s) := by
  unfold handEffective
  refine ReportedOnly.trans (.forAll s _ fun k s => ?_) (.of_ports _ (judgeLatches_ports ..))
  dsimp only
  split
  · exact putGauge_only k _ s
  · exact .refl s _

theorem noticeEntry_only (before : Entry) (i : Fin 64) (s : State) : ReportedOnly ofTable s (noticeEntry before i s) := by
  unfold noticeEntry
  dsimp only
  split
  · exact (ReportedOnly.of_ports _ (setEntry_ports ..)).trans (.raiseItem _ (ofTable_signal i))
  · exact .refl s _

theorem judgePairs_only (b : Bool) (i : Fin 64) (s : State) : (judgePairs b i s).ports = s.ports := (judgePairs_spec b i s).ports

theorem recompute_only (before : Entry) (b : Bool) (i : Fin 64) (s : State) : ReportedOnly ofTable s (recompute before b i s) := by
  unfold recompute reportPartners
  refine ReportedOnly.trans (ReportedOnly.trans (ReportedOnly.trans (.of_ports _ ((judgePairs_only b i _).trans (setEntry_ports ..)))
    (noticeEntry_only before i _)) (handEffective_only i _)) (.forAll _ _ fun a s => ?_)
  split
  exacts [(noticeEntry_only _ a s).trans (handEffective_only a _), .refl s _]

theorem deliverTo_only (src : Source) (u : Update) (i : Fin 64) (s : State) : ReportedOnly ofTable s (deliverTo src u i s) := by
  unfold deliverTo
  repeat' split
  · exact .refl s _
  · exact (ReportedOnly.of_ports (t := setEntry i _ s) _ (setEntry_ports ..)).trans (recompute_only _ _ i _)
  · exact (ReportedOnly.of_ports (t := setEntry i _ s) _ (setEntry_ports ..)).trans (recompute_only _ _ i _)
  · exact .refl s _

theorem deliver_only (src : Source) (u : Update) (s : State) : ReportedOnly ofTable s (deliver src u s) :=
  .forAll s _ fun i s => deliverTo_only src u i s

theorem changeSlots_only (f : Source → Slot → Slot) (i : Fin 64) (s : State) : ReportedOnly ofTable s (changeSlots f i s) := by
  unfold changeSlots
  dsimp only
  split
  · exact .of_ports _ (setEntry_ports ..)
  · exact (ReportedOnly.of_ports (t := setEntry i _ s) _ (setEntry_ports ..)).trans (recompute_only _ _ i _)

theorem EntriesReported.congr {s s' t t' : State} (h : EntriesReported s t) (a : s'.signals = s.signals) (b : t'.signals = t.signals)
    (c : s'.ports = s.ports) (d : t'.ports = t.ports) : EntriesReported s' t' :=
  (ReportedOnly.congr c d h).mono fun i n k e => by rw [a, b]; exact n k e

theorem EntriesReported.ended {s t u : State} (h : EntriesReported s t) (e : EventEnd t u) : EntriesReported s u := by
  refine ReportedOnly.trans (h.mono fun _ n k hk => ?_) (e.silent.mono fun _ n k hk => (n (hk ▸ ofTable_signal k)).elim)
  rw [e.signals]; exact n k hk

/-- Reports behind what shows the same. -/
theorem TelltalesReported.after {s t u : State} (h : NoTelltale s t) (k : SameShown s t) (r : TelltalesReported t u) : TelltalesReported s u :=
  ReportedOnly.trans (h.mono fun _ n j e => (n j e).elim) (r.mono fun _ n j e => k.left' (n j e))

end Sys2Proof.Machine
end

