-- ==== Sys2Proof/WellFormed.lean ====
section
/-! DEFINITION. What an operand must meet beyond its type: the commands that the part's surroundings can send. -/

namespace Sys2Proof

/-- The operands describe an event that can happen.
A chip-select period carries at least one byte (R163 judges it "from the first byte of the period"), and an open check
finds at most 300 mA, since a larger current is a short, which stops the open-check timer (R123). -/
def Instr.wellFormed : Instr → Bool
  | .openCheckTimerExpiry _ current => decide (current ≤ 300)
  | .spiPeriodEnd _ bytes => !bytes.isEmpty
  | .powerOnReset .. | .configLoadComplete | .restartLoadEnd | .agingTimerExpiry | .reclaimTimerExpiry ..
  | .disagreementTimerExpiry .. | .pulseEdge .. | .gateExpiry .. | .scanTimerExpiry | .parkedTimerExpiry
  | .testConversionsDone .. | .settleTimeExpiry | .conversionDone .. | .rawLevelChange .. | .debounceTimerExpiry ..
  | .motionTimerExpiry .. | .homingTimerExpiry .. | .flasherPhaseChange .. | .lampShort .. | .retryTimerExpiry ..
  | .chimeOnTimeExpiry | .chimeOffTimeExpiry | .recordAgeTimerExpiry | .estimationTimerExpiry | .bulbCheckExpiry
  | .commitEnd | .tlinkByteReceived .. | .tlinkGapTimeout | .tlinkReplySent | .waitTimerExpiry ..
  | .linkTimerExpiry .. | .chipSelectActive .. => true

end Sys2Proof
end

