-- ==== Sys2Proof/Tests/Slice0.lean ====
section
/-! SUPPORT. Tests: what WellFormed refuses, commands on small states with results taken from the spec's worked examples and tables,
and, for each statement with hypotheses, a concrete state and operands that meet them together. -/

namespace Sys2Proof.Tests

open Sys2Proof Sys2Proof.Machine

/-! ## WellFormed -/

/-- An open check finds at most 300 mA (R123). -/
theorem test_wellFormed_current : (Instr.openCheckTimerExpiry 0 300).wellFormed = true ∧ (Instr.openCheckTimerExpiry 0 301).wellFormed = false := by
  decide

/-- A period has a first byte (R163). -/
theorem test_wellFormed_period : (Instr.spiPeriodEnd .dlink [0]).wellFormed = true ∧ (Instr.spiPeriodEnd .dlink []).wellFormed = false := by
  decide

/-! ## Small states -/

/-- Whether a command answers a next state with a property. -/
def after (c : Instr) (s : State) (p : State → Bool) : Bool :=
  match exec c s with
  | .next t => p t
  | .fault _ | .refused _ => false

/-- An entry of wide range fed by a source. -/
def descOf (primary alternate : Source) : Descriptor where
  kind := .value
  policy := .hold
  primary := primary
  alternate := alternate
  min := -400
  max := 25000
  default := 0
  staleMs := 500
  lostMs := 2000
  notifyDelta := 5
  partner := none
  tolerance := 500
  persistenceMs := 3000

/-- A slot with a value. -/
def slotOf (state : SlotState) (v : Int) (age : Nat) : Slot where
  value := v
  state := state
  age := age
  clamped := false
  cause := .none

/-- A view of a serving slot. -/
def viewOf (state : EffState) (source : EffSource) (v : Int) : View where
  value := v
  state := state
  source := source
  clamped := false

/-- Reset with the cycle state given. -/
def inState (c : CycleState) : State := State.reset.setCycle { State.reset.cycle with state := c }

/-- A state with one entry replaced. -/
def withEntry (i : Fin 64) (e : Entry) (s : State) : State := setEntry i e s

/-- CTMP of the worked example 1.9: primary NLINK, alternate AN3. -/
def ctmp (p a : Slot) (v : View) (reclaim : Timer) : Entry where
  desc := descOf (.link .nlink) (.analog 3)
  primary := p
  alternate := a
  view := v
  disagree := false
  reclaim := reclaim
  disagreement := .idle
  reference := v.value

/-- PC0 as in the worked case 2.8. -/
def pc0 : PulseSettings where
  kind := .speed
  edges := .rising
  scale := 8000
  spacingUs := 50
  gateMs := 100
  zeroTimeoutMs := 2000
  creep := 200

/-- A running channel with those settings. -/
def channel (counter : Nat) (n : Nat) (first last prev : Option Stamp) (current : Nat) : PulseChannel where
  settings := some pc0
  counter := BitVec.ofNat 24 counter
  gate := .running 100
  n := n
  tFirst := first
  tLast := last
  rejected := 0
  tPrev := prev
  spacingRef := last.or prev
  current := current
  takeOver := false

/-- In RUN with channel 0 running, as the part stands in 2.8. -/
def driving (x : PulseChannel) : State := (inState .run).setPulse (.ofFn fun i => if i = 0 then x else .reset)

/-- A gauge descriptor with the motion settings of 6.11. -/
def gaugeDesc : GaugeDesc where
  entry := 0
  points := [{ x := 0, y := 0 }, { x := 12500, y := 3240 }]
  fullScale := 3240
  park := 0
  holdOnLoss := false
  deadband := 2
  vmax := 32
  accel := 8
  homingSpeed := 2
  sweepEnable := true

/-- Its settings in use. -/
def gaugeSet : GaugeSettings := { desc := gaugeDesc, curveValid := true }

/-- A gauge in a state, at a position, with a velocity and a target. -/
def gauge (state : GaugeState) (position : Int) (fraction : Nat) (velocity target : Int) (count : Nat) : Gauge where
  settings := some gaugeSet
  state := state
  remembered := none
  position := position
  fraction := fraction
  velocity := velocity
  target := target
  leg := .none
  homingCount := count

/-- A state with gauge 0 replaced. -/
def withGauge (g : Gauge) (s : State) : State := s.setGauges (s.gauges.set 0 g)

/-- A lamp of class MANDATORY that the D-link claims. -/
def lampDesc : TelltaleDesc where
  render := .lamp
  lampClass := .mandatory
  colour := .red
  proveOut := true
  parkedActive := false
  claims := #v[.port .dlink, .absent, .absent, .absent]

/-- A continuous chime that the D-link claims. -/
def chimeDesc (repetitions : Nat) : ChimeDesc where
  toneHz := 800
  onMs := 300
  offMs := 200
  repetitions := repetitions
  priority := 2
  claims := #v[.port .dlink, .absent]

/-- Lamp settings of such lamps and chimes. -/
def lampSet (repetitions : Nat) : LampSettings where
  telltales := .replicate 40 lampDesc
  chimes := .replicate 8 (chimeDesc repetitions)

/-- In RUN with the telltale unit's settings, telltale `i` and chime 0 replaced. -/
def lit (repetitions : Nat) (i : Fin 40) (x : Telltale) (c : Chime) : State :=
  let s := inState .run
  s.setLamps { s.lamps with
    settings := some (lampSet repetitions), telltales := s.lamps.telltales.set i x, chimes := s.lamps.chimes.set 0 c }

/-- A telltale that the D-link has written ON, shown ON. -/
def shownOn (output : Bool) (fault : DriverFault) (retries : Nat) (openCheck retryTimer : Timer) : Telltale where
  latches := .replicate 4 false
  patterns := { dlink := .on, nlink := .off, tlink := .off }
  resolved := .on
  shown := .on
  output := output
  fault := fault
  retries := retries
  openCheck := openCheck
  retryTimer := retryTimer
  failed := false

/-- A chime that the D-link claims, PLAYING. -/
def playing (phase : ChimePhase) (count : Nat) : Chime where
  latches := .replicate 2 false
  portClaims := { dlink := true, nlink := false, tlink := false }
  served := false
  state := .playing
  count := count
  phase := phase

/-- The readout settings of 8.7. -/
def readoutSet : ReadoutSettings := { staleS := 3, motion := 500, prewarn := 255, limit := 270 }

/-- A readout in a state of 8.7. -/
def readout (state : ReadoutState) (age continuous daily count seconds : Nat) : Readout where
  settings := some readoutSet
  record := none
  age := age
  ageTimer := .running 100
  state := state
  continuous := continuous
  daily := daily
  remaining := 270 - continuous
  estimation := if state = .estimated then .running 1000 else .stopped
  drivingSeconds := count
  estimationTime := seconds

/-- A frame in execution. -/
def frame (rest : List Request) (hold : Option (WaitEvent × Timer)) : FrameExec where
  sequence := 7
  rest := rest
  results := []
  room := 200
  hold := hold
  commit := false

/-- A state with a port changed. -/
def withPort (p : Port) (f : PortState → PortState) (s : State) : State := setPort p (f (s.port p)) s

/-- A port that is UP, with its link timer running. -/
def upPort (x : PortState) : PortState := { x with link := .up, linkTimer := .running 500, timeout := 500 }

/-- A port with a frame held at a WAIT. -/
def heldPort (ev : WaitEvent) (x : PortState) : PortState := { upPort x with linkTimer := .stopped, exec := some (frame [] (some (ev, .running 500))) }

/-- An AN15 slot first, then AN0, in the run scan list. -/
def scanSlot (channel : Fin 16) (averaging settle : Nat) : ScanSlot where
  channel := channel
  excitation := .none
  settleUs := settle
  averaging := averaging
  lower := 40
  upper := 3900
  checked := true
  curve := 0
  shift := 8
  refuelThreshold := 50
  fastSettle := false
  parked := false

/-- Curve 0 (Table 4-7). -/
def curve0 : List CurvePoint := [{ x := 100, y := 0 }, { x := 1000, y := 250 }, { x := 2000, y := 520 }, { x := 3200, y := 1000 }]

/-- The converter's settings with a scan list. -/
def converterSet (valid : Bool) (slots : List ScanSlot) : ConverterSettings where
  scanMs := 50
  parkedS := 10
  slots := slots
  curves := .replicate 16 curve0
  curveValid := .replicate 16 valid

/-- In RUN with a pass at a stage over the positions given. -/
def scanning (valid : Bool) (slots : List ScanSlot) (todo : List (Fin 16)) (stage : PassStage) (supply : Supply) : State :=
  let s := inState .run
  s.setConv { s.conv with
    settings := some (converterSet valid slots), scanTimer := .running 50, supply := supply
    pass := some { parked := false, todo := todo, stage := stage } }

/-- Switch settings: every pair ACTIVE_HIGH but the first, every debounce 50 ms, input 0 wake-capable (5.8). -/
def switchSet : SwitchSettings where
  activeHigh := .ofFn fun p => p != 0
  debounceMs := .replicate 24 50
  wake := .ofFn fun i => i == 0

/-- A state with the switch bank's settings and one input replaced. -/
def withInput (i : Fin 24) (x : SwitchInput) (s : State) : State :=
  s.setSwitches { settings := some switchSet, inputs := s.switches.inputs.set i x }

/-! ## Formats and arithmetic -/

/-- 12.1: over the nine bytes 0x31 to 0x39 the register ends at 0x29B1. -/
theorem test_crc : crc16 [0x31, 0x32, 0x33, 0x34, 0x35, 0x36, 0x37, 0x38, 0x39] = 0x29B1 := by decide +kernel

/-- R67: on curve 0, 1,500 gives 385 and 1,050 gives 264 (13.5 rounds away from zero). -/
theorem test_curve_rising : interpolate curve0 1500 = 385 ∧ interpolate curve0 1050 = 264 := by decide

/-- R67: on curve 2, 2,007 gives 497 (-2.5 rounds away from zero). -/
theorem test_curve_falling : interpolate (builtInCurve 2) 2007 = 497 := by decide

/-- R89: G0 shows 8,978 at 2,327. -/
theorem test_gauge_curve : gaugeSet.curvePosition 8978 = 2327 := by decide

/-- 3.8: with k = 6,125 the residue 6,120 and one more pulse give a step and the residue 5. -/
theorem test_residue :
    (Distance.pulse { Distance.reset with stepSize := 6125, residue := 6120 }).residue = 5 ∧
    (Distance.pulse { Distance.reset with stepSize := 6125, residue := 6120 }).ldc = 1 := by decide

/-- 3.9, lines 9, 11 and 12: a lag of 25 sets the mark, a lead of 29 keeps it set, a lead of 5 clears it. -/
theorem test_adoption :
    (Distance.adopt 4512290 { Distance.reset with odo := 4512315, odoState := .tracked, tolerance := 20 }).mismatch = true ∧
    (Distance.adopt 4512345 { Distance.reset with odo := 4512316, odoState := .tracked, tolerance := 20, mismatch := true }).mismatch = true ∧
    (Distance.adopt 4512350 { Distance.reset with odo := 4512345, odoState := .tracked, tolerance := 20, mismatch := true }).mismatch = false := by
  decide

/-! ## Commands -/

/-- The power-on reset of a running part leaves it in LOAD with the strap's bit rate (R149, R164). -/
theorem test_powerOnReset : after (.powerOnReset .baud57600) (inState .run) (fun t => t.cycle.state == .load && t.ports.bitRate == .baud57600) = true := by
  decide

/-- The load of an erased image falls back to the built-in defaults and leaves LOAD for PARKED (R183, R150). -/
theorem test_configLoadComplete :
    after .configLoadComplete State.reset
      (fun t => t.cond .configDefaults && t.store.state == .defaults && t.cycle.state == .parked && t.cycle.windowLength == 3000) = true := by
  decide +kernel

/-- An excitation code outside its set fails the image (Table 12-8, R184). -/
theorem test_excitationCode : Excitation.ofCode 2 = some .pullup ∧ Excitation.ofCode 3 = Option.none := by decide

/-- A part without a configuration in force does not leave LOAD by RESTART_LOAD_END. -/
theorem test_restartLoadEnd : after .restartLoadEnd State.reset (fun t => t.cycle.state == .load) = true := by decide

/-- The commands of the signal table. -/
theorem test_signalTable :
    -- R7: a stale time of 500 ms makes a slot of age 49 STALE at the next aging expiry.
    after .agingTimerExpiry
      (withEntry 6 (ctmp (slotOf .live 850 49) (slotOf .live 842 10) (viewOf .live .primary 850) .stopped) (inState .run))
      (fun t => t.signals[(6 : Fin 64)].primary.state == .stale && t.signals[(6 : Fin 64)].view.state == .stale) = true ∧
    -- 1.9 at 3,500 ms: the reclaim timer expires and the primary serves with 862.
    after (.reclaimTimerExpiry 6)
      (withEntry 6 (ctmp (slotOf .live 862 0) (slotOf .live 848 0) (viewOf .live .alternate 848) (.running 500)) (inState .run))
      (fun t => t.signals[(6 : Fin 64)].view == viewOf .live .primary 862 && t.signals[(6 : Fin 64)].reference == 862) = true ∧
    -- 1.10 at 13,000 ms: the disagreement timer's expiry sets the mark (R18).
    after (.disagreementTimerExpiry 6)
      (withEntry 6 { ctmp (slotOf .live 862 0) (slotOf .live 848 0) (viewOf .live .primary 862) .stopped with disagreement := .running 3000 } (inState .run))
      (fun t => t.signals[(6 : Fin 64)].disagree) = true := by
  decide +kernel

/-- The commands of the pulse unit. -/
theorem test_pulse :
    -- 2.8: an edge 30 us after the spacing reference is rejected.
    after (.pulseEdge 0 .rising 30) (driving (channel 4950000 0 none none (some 4950000) 0))
      (fun t => t.pulse[(0 : Fin 4)].rejected == 1 && t.pulse[(0 : Fin 4)].n == 0) = true ∧
    -- 2.8: the edge at 5,060,000 is accepted after the one at 5,010,000.
    after (.pulseEdge 0 .rising 50000) (driving (channel 5010000 1 (some 5010000) (some 5010000) (some 4950000) 0))
      (fun t => t.pulse[(0 : Fin 4)].n == 2 && t.pulse[(0 : Fin 4)].tLast == some 5060000) = true ∧
    -- 2.8: 20 edges over 100,250 us give 8,978.
    after (.gateExpiry 0 50) (driving (channel 1100250 20 (some 1005000) (some 1100250) (some 1000000) 8960))
      (fun t => t.pulse[(0 : Fin 4)].current == 8978 && t.pulse[(0 : Fin 4)].tPrev == some 1100250 && t.pulse[(0 : Fin 4)].n == 0) = true := by
  decide +kernel

/-- 2.8: the decay from 8,978 to 450, and the flush of 150 to 0. -/
theorem test_decay :
    (PulseChannel.expire pc0 1200300 (channel 1200300 0 none none (some 1100250) 8978)).current = 450 ∧
    (PulseChannel.expire pc0 1400300 (channel 1400300 0 none none (some 1100250) 225)).current = 0 := by
  decide

/-- The commands of the sender converter. -/
theorem test_converter :
    -- A scan timer expiry that finds a pass in flight is an overrun (R61).
    after .scanTimerExpiry (scanning true [scanSlot 15 1 0] [0] .testing .normal) (fun t => t.conv.overruns == 1) = true ∧
    -- A parked timer that does not run changes nothing (log 1).
    after .parkedTimerExpiry (inState .run) (fun t => t.conv.pass == none && t.conv.overruns == 0) = true ∧
    -- R62, R63: a zero code of 9 fails the tests.
    after (.testConversionsDone 9 4095) (scanning true [scanSlot 0 1 0] [0] .testing .normal)
      (fun t => t.cond .adcTestFail && t.conv.pass == none) = true ∧
    -- After the settle wait the first conversion is discarded (R64).
    after .settleTimeExpiry (scanning true [scanSlot 0 1 500] [0] .settling .normal)
      (fun t => t.conv.pass == some { parked := false, todo := [0], stage := .converting false 0 0 }) = true ∧
    -- R69: a first valid code of 3,050 seeds the filter with 940 (curve 0).
    after (.conversionDone 3050) (scanning true [scanSlot 0 1 0] [0] (.converting true 0 0) .normal)
      (fun t => t.conv.slots[(0 : Fin 16)].y == 61603840 && t.conv.pass == none) = true := by
  decide +kernel

/-- 4.8, pass 1: the filter steps by 209,920 to 8,074,240 and the refuel count rises; the output is 123. -/
theorem test_refuel :
    ScanState.takeValue (viewOf .live .primary 0) (scanSlot 0 1 0) 940 { y := 7864320, seed := false, refuel := 0 } =
      { y := 8074240, seed := false, refuel := 1 } ∧ filterOutput 8074240 = 123 := by
  decide

/-- The commands of the switch bank. -/
theorem test_switches :
    -- 5.8 at 5,000 ms: the key starts the debounce timer.
    after (.rawLevelChange 23 .high) (withInput 23 { raw := .low, debounce := .stopped, accepted := some .low } (inState .parked))
      (fun t => t.switches.inputs[(23 : Fin 24)].debounce == .running 50) = true ∧
    -- 5.8 at 5,109 ms: HIGH is accepted, and IGN_ON takes the controller from PARKED to STARTING.
    after (.debounceTimerExpiry 23) (withInput 23 { raw := .high, debounce := .running 100, accepted := some .low } (inState .parked))
      (fun t => t.cycle.state == .starting && t.cycle.ignition) = true ∧
    -- 5.8, second variant: the release of a wake-capable input in PARKED hands SWITCH.
    after (.debounceTimerExpiry 0) (withInput 0 { raw := .high, debounce := .running 50, accepted := some .low } (inState .parked))
      (fun t => t.cycle.causeSwitch) = true := by
  decide +kernel

/-- R82: in RUN the accepted level 0 of SW23 makes an EQUAL 0 claim of chime 1 on IGN active before IGN_OFF, so that the finite chime 0 is pre-empted
and SERVED. -/
theorem test_levelBeforeIgnition :
    let claim : Claim := .signal 8 .equal 0 0 .on
    let bell : ChimeDesc := { chimeDesc 3 with priority := 5, claims := #v[claim, .absent] }
    let s := withInput 23 { raw := .low, debounce := .running 50, accepted := some .high } (withEntry 8
      { ctmp (slotOf .live 1 0) (slotOf .empty 0 0) (viewOf .live .primary 1) .stopped with desc := descOf (.switch 23) .none } (inState .run))
    after (.debounceTimerExpiry 23)
      (s.setLamps { s.lamps with
        settings := some { lampSet 3 with chimes := (lampSet 3).chimes.set 1 bell }, chimes := s.lamps.chimes.set 0 (playing .onTime 0) })
      (fun t => t.cycle.state == .stopping && t.lamps.chimes[(0 : Fin 8)].served && t.lamps.chimes[(0 : Fin 8)].state == .served
        && t.lamps.chimes[(1 : Fin 8)].state == .waiting) = true := by
  decide +kernel

/-- R82, R128: between the update and the level of an acceptance chime 0 has no active claim (EQUAL 0 on entry 8 ends, SWITCH 9 is not active yet), so
that its served flag clears, and the level lets it play from its beginning. -/
theorem test_updateThenLevel :
    let chime : ChimeDesc := { chimeDesc 3 with claims := #v[.signal 8 .equal 0 0 .on, .switch 9 .on] }
    let s := withInput 9 { raw := .high, debounce := .running 50, accepted := some .low } (withEntry 8
      { ctmp (slotOf .live 0 0) (slotOf .empty 0 0) (viewOf .live .primary 0) .stopped with desc := descOf (.switch 9) .none } (inState .run))
    after (.debounceTimerExpiry 9)
      (s.setLamps { s.lamps with
        settings := some { lampSet 3 with chimes := (lampSet 3).chimes.set 0 chime }
        chimes := s.lamps.chimes.set 0
          { playing .none 3 with portClaims := { dlink := false, nlink := false, tlink := false }, latches := #v[true, false], served := true, state := .served } })
      (fun t => t.lamps.chimes[(0 : Fin 8)].state == .playing && !t.lamps.chimes[(0 : Fin 8)].served && t.lamps.chimes[(0 : Fin 8)].count == 0) = true := by
  decide +kernel

/-- R90, R91, R100: a PARKED gauge without a sweep whose signal is not shown passes through PARKING at IGN_ON, and item 104 is reported. -/
theorem test_reparks :
    let g : Gauge := { gauge .parked 0 0 0 0 0 with settings := some { desc := { gaugeDesc with sweepEnable := false }, curveValid := true } }
    after (.debounceTimerExpiry 23)
      (withPort .dlink (fun x => { x with watch := x.watch.set 104 true })
        (withInput 23 { raw := .high, debounce := .running 100, accepted := some .low } (withGauge g (inState .parked))))
      (fun t => t.gauges[(0 : Fin 6)] == g && (t.port .dlink).changes == [104]) = true := by
  decide +kernel

/-- The commands of the gauge drivers. -/
theorem test_gauges :
    -- 6.11 at 1 ms and at 9 ms.
    after (.motionTimerExpiry 0) (withGauge (gauge .tracking 0 0 0 12 0) (inState .run))
      (fun t => t.gauges[(0 : Fin 6)] == gauge .tracking 0 8 8 12 0) = true ∧
    after (.motionTimerExpiry 0) (withGauge (gauge .tracking 11 8 16 12 0) (inState .run))
      (fun t => t.gauges[(0 : Fin 6)] == gauge .tracking 12 0 0 12 0) = true ∧
    -- 6.12: the run from 3,480 ends in SWEEP with the target at full scale.
    after (.homingTimerExpiry 0) (withGauge (gauge .homing 2 0 0 0 2) (inState .starting))
      (fun t => t.gauges[(0 : Fin 6)] == { gauge .sweep 0 0 0 3240 0 with leg := .out }) = true := by
  decide +kernel

/-- 6.11, the reversal at 16 ms. -/
theorem test_motion_reversal : (gauge .tracking 5 8 (-24) 4 0).motionStep gaugeSet = gauge .tracking 4 8 (-16) 4 0 := by decide

/-- R106: in the second quarter the duty of coil A is negative and drives its second end; R107: the coils of an UNHOMED gauge are held low. -/
theorem test_coils :
    (gauge .tracking 66 0 0 66 0).ends .run = ({ first := 0, second := 707 }, { first := 707, second := 0 }) ∧
    (gauge .unhomed 66 0 0 0 0).ends .run = ({ first := 0, second := 0 }, { first := 0, second := 0 }) := by
  decide

/-- R121: the SLOW flasher leaves its on phase. -/
theorem test_flasher : after (.flasherPhaseChange .slow) State.reset (fun t => !t.lamps.slowOn && t.lamps.fastOn) = true := by decide

/-- The commands of the lamp drivers. -/
theorem test_lamps :
    -- R123: 1 mA is an open load, 2 mA is not.
    after (.openCheckTimerExpiry 1 1) (lit 0 1 (shownOn true .ok 0 (.running 20) .stopped) .reset)
      (fun t => t.lamps.telltales[(1 : Fin 40)].fault == .openLoad) = true ∧
    after (.openCheckTimerExpiry 1 2) (lit 0 1 (shownOn true .openLoad 0 (.running 20) .stopped) .reset)
      (fun t => t.lamps.telltales[(1 : Fin 40)].fault == .ok) = true ∧
    -- 7.10 at 0: SHORT with the retry timer, output off, FAILED set and TELLTALE_FAILED raised.
    after (.lampShort 1) (lit 0 1 (shownOn true .ok 0 (.running 20) .stopped) .reset)
      (fun t => t.lamps.telltales[(1 : Fin 40)].fault == .short && t.lamps.telltales[(1 : Fin 40)].retryTimer == .running 1000
        && !t.lamps.telltales[(1 : Fin 40)].output && t.cond .telltaleFailed) = true ∧
    -- 7.10 at 3,000 ms: the third retry that finds the short leaves LATCHED, 3.
    after (.retryTimerExpiry 1 true) (lit 0 1 (shownOn false .short 2 .stopped (.running 1000)) .reset)
      (fun t => t.lamps.telltales[(1 : Fin 40)].fault == .latched && t.lamps.telltales[(1 : Fin 40)].retries == 3) = true := by
  decide +kernel

/-- The commands of the chimes. -/
theorem test_chimes :
    -- 7.11: the end of a chime's on time, and the end of its repetition.
    after .chimeOnTimeExpiry (lit 0 1 .reset (playing .onTime 0)) (fun t => t.lamps.chimes[(0 : Fin 8)] == playing .offTime 0) = true ∧
    after .chimeOffTimeExpiry (lit 0 1 .reset (playing .offTime 0)) (fun t => t.lamps.chimes[(0 : Fin 8)] == playing .onTime 1) = true ∧
    -- R130: a single repetition ends SERVED.
    after .chimeOffTimeExpiry (lit 1 1 .reset (playing .offTime 0)) (fun t => t.lamps.chimes[(0 : Fin 8)].state == .served) = true := by
  decide +kernel

/-- The commands of the tachograph readout. -/
theorem test_readout :
    -- 8.7 at 3.0 s: the age 30 ends CURRENT.
    after .recordAgeTimerExpiry ((inState .run).setTacho (readout .current 29 250 480 0 0))
      (fun t => t.tacho.state == .estimated && t.cond .tachoStale) = true ∧
    -- 8.7: the 60th driving second makes 250 into 251; here the second stands still, so nothing is added.
    after .estimationTimerExpiry ((inState .run).setTacho (readout .estimated 30 250 480 59 59))
      (fun t => t.tacho.continuous == 250 && t.tacho.estimationTime == 60) = true ∧
    (Readout.estimate readoutSet true (readout .estimated 30 250 480 59 59)).continuous = 251 := by
  decide +kernel

/-- The commands of the cycle controller and of the commit. -/
theorem test_cycle :
    -- R154: with a gauge unhomed the end of the window does not open RUN.
    after .bulbCheckExpiry ((inState .starting).setCycle { (inState .starting).cycle with window := .running 3000 })
      (fun t => t.cycle.window == .stopped && t.cycle.state == .starting) = true ∧
    -- COMMIT_END without a commit changes nothing (log 1).
    after .commitEnd (inState .parked) (fun t => t.store.state == .loading) = true := by
  decide +kernel

/-- The commands of the links. -/
theorem test_links :
    -- A frame with the request READ SIGNALS, index 0, count 1, is accepted and answered with one element of 6 bytes.
    after (.spiPeriodEnd .dlink [0xB4, 3, 7, 0x11, 0, 1, 202, 129]) (inState .run)
      (fun t => (t.port .dlink).link == .up && (t.port .dlink).counters.good == 1 && (t.port .dlink).exec == none
        && ((t.port .dlink).reply.map List.length) == some 14) = true ∧
    -- R163: any other first byte is BAD_CHECK.
    after (.spiPeriodEnd .dlink [0x41, 1]) (inState .run) (fun t => (t.port .dlink).counters.badCheck == 1 && (t.port .dlink).link == .down) = true ∧
    -- R164: the opening code begins a frame; a length field of 0 ends it with BAD_LENGTH.
    after (.tlinkByteReceived 0xB4 true) (inState .run) (fun t => (t.port .tlink).receiver == .inFrame [] false) = true ∧
    after (.tlinkByteReceived 0 true) (withPort .tlink (fun x => { x with receiver := .inFrame [] false }) (inState .run))
      (fun t => (t.port .tlink).counters.badLength == 1 && (t.port .tlink).receiver == .ignoring) = true ∧
    -- R164: a gap within a frame ends it with BAD_LENGTH.
    after .tlinkGapTimeout (withPort .tlink (fun x => { x with receiver := .inFrame [3, 7] false }) (inState .run))
      (fun t => (t.port .tlink).counters.badLength == 1 && ((t.port .tlink).reply.map (·.getD 2 0)) == some 7) = true ∧
    -- R166: the reply sent ends the execution.
    after .tlinkReplySent (withPort .tlink (fun x => { x with reply := some [0x4B] }) (inState .run)) (fun t => (t.port .tlink).reply == none) = true ∧
    -- R173: the expiry ends the hold with TIMEOUT, and the reply is ready.
    after (.waitTimerExpiry .dlink) (withPort .dlink (heldPort .change) (inState .run))
      (fun t => (t.port .dlink).exec == none && (t.port .dlink).reply == some (replyFrame 7 .ok (resultBytes .timeout 0 []))) = true ∧
    -- 10.9 at 1,300 ms: the link is LOST and its condition raised.
    after (.linkTimerExpiry .nlink) (withPort .nlink upPort (inState .run)) (fun t => (t.port .nlink).link == .lost && t.cond .linkLostN) = true ∧
    -- R163: a chip select with a reply in the buffer offers it.
    after (.chipSelectActive .dlink) (withPort .dlink (fun x => { x with reply := some [0x4B] }) (inState .run))
      (fun t => (t.port .dlink).period == .openOffering [0x4B] && (t.port .dlink).reply == none) = true ∧
    -- R163: a reply that becomes ready within a period stays for its own.
    after (.spiPeriodEnd .dlink [0]) (withPort .dlink (fun x => { x with period := .openOffering [0x4B], reply := some [0x4C] }) (inState .run))
      (fun t => (t.port .dlink).period == .idle && (t.port .dlink).reply == some [0x4C]) = true := by
  decide +kernel

/-! ## The hypotheses of the statements, met -/

/-- StepRunsFrontCommand, second clause. -/
theorem test_met_StepRunsFrontCommand : (inState .run).pending = [] := by decide

/-- FramesHeldKept, with a frame held on the D-link whose timer expires. -/
theorem test_met_FramesHeldKept :
    let s := (withPort .dlink (heldPort .change) (inState .run)).setPending [.waitTimerExpiry .dlink]
    s.nextRunnable = none ∧ FramesHeld s ∧ ∃ t, step s = .next t := ⟨by decide, by unfold FramesHeld; decide, _, rfl⟩

/-- FramesHeldKept, a runnable frame with a request left and with none left. -/
theorem test_met_FramesHeldKept_runnable : ∀ rest ∈ [[], [Request.changes 10]],
    let s := withPort .nlink (fun x => { upPort x with exec := some (frame rest none) }) (inState .run)
    s.nextRunnable = some .nlink ∧ (s.port .nlink).exec = some (frame rest none) ∧ (frame rest none).rest = rest ∧
    (frame rest none).commit = false ∧ { frame rest none with commit := true }.commit = true ∧ Memory.wf s.store.image := by
  decide

/-- A port that watches item 0 and has it on its list. -/
def watching (x : PortState) : PortState := { upPort x with watch := x.watch.set 0 true, changes := [0] }

/-- The ports of a state with the D-link watching. -/
theorem watching_legal (c : CycleState) (l : List Instr) : ListsLegal ((withPort .dlink watching (inState c)).setPending l) := by
  intro p
  cases p
  · exact ⟨List.nodup_singleton _, fun i hi => by rw [List.mem_singleton.1 hi]; rfl⟩
  · exact ⟨List.nodup_nil, fun i hi => absurd hi List.not_mem_nil⟩
  · exact ⟨List.nodup_nil, fun i hi => absurd hi List.not_mem_nil⟩

/-- WatchSetsAndChangeLists, its clauses over steps and over legal states. -/
theorem test_met_WatchSetsAndChangeLists :
    let s := (withPort .dlink watching (inState .run)).setPending [.linkTimerExpiry .dlink]
    ListsLegal s ∧ ∃ t, step s = .next t := ⟨watching_legal _ _, _, rfl⟩

/-- A state in CURRENT at the prewarning, with the supply LOW and the N-link LOST, whose conditions stand. -/
def warned (l : List Instr) : State :=
  let s := (inState .run).setTacho (readout .current 0 255 480 0 0)
  (setCond .tachoPrewarn true (setCond .supplyLow true (setCond .linkLostN true
    (withPort .nlink (fun x => { x with link := .lost }) (s.setConv { s.conv with supply := .low }))))).setPending l

/-- ConditionsStandKept. -/
theorem test_met_ConditionsStandKept :
    ConditionsStand (warned [.recordAgeTimerExpiry]) ∧ ∃ t, step (warned [.recordAgeTimerExpiry]) = .next t := by
  refine ⟨⟨rfl, rfl, rfl, fun p => by cases p <;> rfl, rfl, ?_, ?_⟩, _, rfl⟩ <;> intro st h <;> cases h <;> decide

/-- OdometerNeverFalls: adoption in SEEDED and in UNKNOWN, and a step of a TRACKED odometer and of one that is UNKNOWN. -/
theorem test_met_OdometerNeverFalls :
    let s := ((inState .run).setDist { Distance.reset with odo := 999999999, odoState := .tracked }).setPending [.pulseEdge 0 .rising 0]
    OdometerLegal s ∧ (∀ strap, s.pending.head? ≠ some (.powerOnReset strap)) ∧ (∃ t, step s = .next t) ∧ s.dist.odoState ≠ .unknown ∧
    Distance.reset.odoState = .unknown ∧ OdometerLegal ((inState .run).setPending [.pulseEdge 0 .rising 0]) := by
  refine ⟨⟨by decide, by decide⟩, ?_, ⟨_, rfl⟩, by decide, rfl, ⟨by decide, by decide⟩⟩
  intro strap h
  cases h

/-- R49, R50, R51: T comes to an UNKNOWN odometer, a seed does, and T comes to the seed, below it and within the tolerance. -/
theorem test_adoptionUnknown :
    (let d := Distance.reset.adopt 0
     (d.odo, d.odoState, d.mismatch) = (0, .tracked, false)) ∧
    (let d := Distance.reset.seed 5000000
     (d.odo, d.odoState, d.mismatch) = (5000000, .seeded, false)) ∧
    (let d := ((Distance.reset.seed 5000000).adopt 4999999)
     (d.odo, d.odoState) = (5000000, .tracked)) := by decide

/-- ReadoutStandsKept, in ESTIMATED at the limit. -/
theorem test_met_ReadoutStandsKept :
    let s := ((inState .run).setTacho (readout .estimated 30 270 480 59 1799)).setPending [.estimationTimerExpiry]
    ReadoutStands s ∧ ∃ t, step s = .next t := by
  refine ⟨⟨by decide, fun st h => by cases h; rfl, fun h => ?_, by decide⟩, _, rfl⟩
  exact absurd h (by decide)

/-- NeedlesWithinKept, with a gauge at full scale. -/
theorem test_met_NeedlesWithinKept :
    let s := (withGauge (gauge .tracking 3240 0 0 0 0) (inState .run)).setPending [.motionTimerExpiry 0]
    GaugesStand s ∧ ∃ t, step s = .next t := by
  have hs : ∀ (i : Fin 6) (gs : GaugeSettings),
      (withGauge (gauge .tracking 3240 0 0 0 0) (inState .run)).gauges[i].settings = some gs → i = 0 ∧ gs = gaugeSet := by
    intro i gs h
    match i, h with
    | 0, h => exact ⟨rfl, by cases h; rfl⟩
    | 1, h | 2, h | 3, h | 4, h | 5, h => cases h
  refine ⟨⟨fun i gs h _ => ?_, fun i gs h => ?_, fun h => ?_, fun h => ?_, fun h => ?_⟩, _, rfl⟩
  · obtain ⟨rfl, rfl⟩ := hs i gs h
    decide
  · obtain ⟨rfl, rfl⟩ := hs i gs h
    decide
  all_goals exact absurd h (by decide)

/-- MemoriesKept, with a staging buffer that holds a byte. -/
theorem test_met_MemoriesKept :
    let s := ((inState .parked).setStore { State.reset.store with staging := [(16, 0)] }).setPending [.commitEnd]
    MemoriesWf s ∧ ∃ t, step s = .next t := ⟨⟨by decide, by decide⟩, _, rfl⟩

/-- In RUN with the D-link's telltale 1 lit and its chime 0 playing. -/
def settled (l : List Instr) : State :=
  (setCond .telltaleFailed false (lit 0 1 (shownOn true .ok 0 .stopped .stopped) (playing .onTime 0))).setPending l

/-- ShownKept, its clause over steps. -/
theorem test_met_ShownKept :
    LampsSettled (settled [.lampShort 1]) ∧ FailedCondition (settled [.lampShort 1]) ∧ ∃ t, step (settled [.lampShort 1]) = .next t := by
  refine ⟨fun st h => ?_, fun st h => ?_, _, rfl⟩ <;> cases h <;> decide +kernel

/-- ChimesSettledKept. -/
theorem test_met_ChimesSettledKept :
    ChimesSettled (settled [.chimeOnTimeExpiry]) ∧ ∃ t, step (settled [.chimeOnTimeExpiry]) = .next t := by
  refine ⟨fun st h => ?_, _, rfl⟩
  cases h
  have hp : ∀ i, Arbitrated (lampSet 0) (settled [.chimeOnTimeExpiry]) i ↔ i = 0 := by
    unfold Arbitrated
    decide +kernel
  simp only [hp]
  decide +kernel

/-- A chime that the D-link claims, in a state. -/
def claimedChime (state : ChimeState) (served : Bool) : Chime := { playing .none 2 with state := state, served := served }

/-- ChimesSettledKept, what settling makes of a chime: no claim; served; the arbiter's choice, PLAYING and not; and a chime behind the choice, PLAYING
in RUN and not in RUN, finite and continuous, and WAITING. -/
theorem test_met_ChimesSettledKept_settle :
    (∀ r ∈ [0, 3], ∀ c ∈ [claimedChime .playing false, claimedChime .waiting false],
      let s := lit r 1 .reset c
      let u := s.setLamps { s.lamps with chimes := s.lamps.chimes.set 1 c }
      (Arbitrated (lampSet r) s 0 ∧ chimeClaimed s (lampSet r).chimes[(1 : Fin 8)] s.lamps.chimes[(1 : Fin 8)] = false) ∧
      (chimeActive u (lampSet r) 1 = true ∧ ¬ Arbitrated (lampSet r) u 1 ∧ u.cycle.state = .run) ∧
      (let v := u.setCycle { u.cycle with state := .stopping }
       chimeActive v (lampSet r) 1 = true ∧ ¬ Arbitrated (lampSet r) v 1 ∧ v.cycle.state ≠ .run)) ∧
    (let s := lit 3 1 .reset (claimedChime .served true)
     chimeClaimed s (lampSet 3).chimes[(0 : Fin 8)] s.lamps.chimes[(0 : Fin 8)] = true ∧ s.lamps.chimes[(0 : Fin 8)].served = true) := by
  unfold Arbitrated
  decide +kernel

/-- R132: a chime PLAYING with the count 2, whose claims end with the departure from RUN, is QUIET with the count 0; in RUN it keeps its count
(log 27). -/
theorem test_departureUnclaimed :
    let x := { claimedChime .playing false with count := 2 }
    let d := (lampSet 3).chimes[(0 : Fin 8)]
    ((x.settle d false false false).state = .quiet ∧ (x.settle d false false false).count = 0) ∧
    ((x.settle d false false true).state = .quiet ∧ (x.settle d false false true).count = 2) := by
  decide

/-- BlockReadsBack, on the erased memory. -/
theorem test_met_BlockReadsBack : Memory.wf [] ∧ (List.replicate 16 (0 : Byte)).length = 16 := by decide

/-- RestartKeeps: without and with a commit in flight. -/
theorem test_met_RestartKeeps :
    (inState .run).cycle.commitInFlight = false ∧
    ((inState .parked).setCycle { (inState .parked).cycle with commitInFlight := true }).cycle.commitInFlight = true := by
  decide

/-! ### A sound image -/

/-- The first bytes: the default of entry 0 is chosen so that the CRC register is 0 behind it. -/
def smallHead : List Byte := [0, 0, 0, 0, 0, 0, 0, 0xF1, 0xCE]

/-- The run scan list: AN15 alone. The two bytes behind the unused code bring the CRC register back to 0. -/
def smallScan : List Byte := [20, 0, 0, 0, 1, 0, 0, 0, 0, 0, 0, 0, 0, 0, 0, 0, 0xFF, 6, 26]

/-- An image of zeros but for these. -/
def smallBytes : List Byte := smallHead ++ (List.replicate 2679 0 ++ (smallScan ++ (List.replicate 1133 0 ++ [])))

/-- Its memory. -/
def smallImage : Memory := Memory.ofBytes smallBytes

/-- Zeros leave a CRC register of 0 at 0. -/
theorem crc_zeros : ∀ n : Nat, (List.replicate n (0 : Byte)).foldl crcByte 0 = 0
  | 0 => rfl
  | n + 1 => by
    have h : crcByte 0 0 = 0 := by decide
    rw [List.replicate_succ, List.foldl_cons, h, crc_zeros n]

/-- A byte of a run of zeros within a list. -/
theorem get_zeros (l r : List Byte) (n a : Nat) (x : Byte) (h1 : l.length ≤ a) (h2 : a < l.length + n) :
    (l ++ (List.replicate n 0 ++ r)).getD a x = 0 := by
  rw [List.getD_eq_getElem?_getD, List.getElem?_append_right h1, List.getElem?_append_left (by rw [List.length_replicate]; omega),
    List.getElem?_replicate, if_pos (by omega)]
  rfl

/-- A stretch of the small image within its zeros. -/
theorem small_zeros (a n : Nat) (h : 9 ≤ a ∧ a + n ≤ 2688 ∨ 2707 ≤ a ∧ a + n ≤ 3840) : smallImage.slice a n = List.replicate n 0 := by
  apply List.ext_getElem
  · simp [Memory.slice]
  intro i h1 h2
  have hi : i < n := by simpa using h2
  simp only [Memory.slice, smallImage, Memory.read_ofBytes, List.getElem_map, List.getElem_range, List.getElem_replicate]
  rcases h with h | h
  · exact get_zeros smallHead _ _ _ _ (by show 9 ≤ _; omega) (by show _ < 9 + _; omega)
  · have e : smallBytes = (smallHead ++ (List.replicate 2679 0 ++ smallScan)) ++ (List.replicate 1133 0 ++ []) := by
      simp only [smallBytes, List.append_assoc]
    have l : (smallHead ++ (List.replicate 2679 (0 : Byte) ++ smallScan)).length = 2707 := by
      rw [List.length_append, List.length_append, List.length_replicate]
      rfl
    rw [e]
    exact get_zeros _ _ _ _ _ (by omega) (by omega)

/-- The first bytes of a list of bytes. -/
theorem slice_head (l r : List Byte) (n : Nat) (h : n ≤ l.length) : (Memory.ofBytes (l ++ r)).slice 0 n = l.take n := by
  rw [Memory.slice_ofBytes, List.drop_zero, List.append_assoc, List.take_append_of_le_length h]

/-- The CRC register after blocks 0 to 238 of the small image. -/
theorem small_crc : crc16 (smallImage.slice 0 3824) = 0 := by
  have e : smallBytes = (smallHead ++ (List.replicate 2679 0 ++ (smallScan ++ List.replicate 1117 0))) ++ List.replicate 16 0 := by
    have : (List.replicate 1133 (0 : Byte)) = List.replicate 1117 0 ++ List.replicate 16 0 := by rw [List.replicate_append_replicate]
    simp only [smallBytes, List.append_nil, List.append_assoc, this]
  have l : (smallHead ++ (List.replicate 2679 (0 : Byte) ++ (smallScan ++ List.replicate 1117 0))).length = 3824 := by
    rw [List.length_append, List.length_append, List.length_append, List.length_replicate, List.length_replicate]
    rfl
  have h1 : smallHead.foldl crcByte 0xFFFF#16 = 0 := by decide +kernel
  have h2 : smallScan.foldl crcByte 0 = 0 := by decide +kernel
  rw [smallImage, e, slice_head _ _ _ (by rw [l]), List.take_of_length_le (by rw [l]), crc16, List.foldl_append, h1, List.foldl_append,
    crc_zeros, List.foldl_append, h2, crc_zeros]

/-- A row that every index reads. -/
theorem parseAll_some {α : Type} {n : Nat} (f : Fin n → Option α) (h : ∀ i, (f i).isSome = true) : (parseAll n f).isSome = true := by
  rw [parseAll, dif_pos h]
  rfl

/-- The small image parses. -/
theorem small_parses : (parseImage smallImage).isSome = true := by
  have h0 : smallImage.slice 0 17 = smallHead ++ List.replicate 8 0 := by
    have e : smallBytes = (smallHead ++ List.replicate 8 0) ++ (List.replicate 2671 0 ++ (smallScan ++ (List.replicate 1133 0 ++ []))) := by
      have : (List.replicate 2679 (0 : Byte)) = List.replicate 8 0 ++ List.replicate 2671 0 := by rw [List.replicate_append_replicate]
      simp only [smallBytes, List.append_assoc, this]
    rw [smallImage, e, slice_head _ _ _ (by decide)]
    rfl
  have d : (parseAll 64 fun i => parseDescriptor (smallImage.slice (17 * i) 17)).isSome = true := parseAll_some _ fun i => by
    by_cases hi : (i : Nat) = 0
    · rw [hi, Nat.mul_zero, h0]; decide
    · rw [small_zeros _ _ (by omega)]; decide
  have tt : (parseAll 40 fun i => parseTelltale (smallImage.slice (16 * 68 + 32 * i) 32)).isSome = true := parseAll_some _ fun i => by
    rw [small_zeros _ _ (by omega)]; decide
  have ch : (parseAll 8 fun i => parseChime (smallImage.slice (16 * 148 + 32 * i) 32)).isSome = true := parseAll_some _ fun i => by
    rw [small_zeros _ _ (by omega)]; decide
  have pu : (parseAll 4 fun i => parsePulse i (smallImage.block (164 + i))).isSome = true := parseAll_some _ fun i => by
    rw [Memory.block, small_zeros _ _ (by omega)]
    match i with
    | 0 | 1 | 2 | 3 => decide
  have ga : (parseAll 6 fun i => parseGauge (smallImage.slice (16 * 216 + 48 * i) 48)).isSome = true := parseAll_some _ fun i => by
    rw [small_zeros _ _ (by omega)]; decide
  have s0 : smallImage.slice (16 * 168) 32 = smallScan ++ List.replicate 13 0 := by
    have e : smallBytes = (smallHead ++ List.replicate 2679 0) ++ ((smallScan ++ List.replicate 13 0) ++ List.replicate 1120 0) := by
      have : (List.replicate 1133 (0 : Byte)) = List.replicate 13 0 ++ List.replicate 1120 0 := by rw [List.replicate_append_replicate]
      simp only [smallBytes, List.append_nil, List.append_assoc, this]
    have l : (smallHead ++ List.replicate 2679 (0 : Byte)).length = 16 * 168 := by
      rw [List.length_append, List.length_replicate]
      rfl
    have l2 : (smallScan ++ List.replicate 13 (0 : Byte)).length = 32 := by decide
    rw [smallImage, Memory.slice_ofBytes, e, ← l, List.drop_left, List.append_assoc, List.take_append_of_le_length (by rw [l2]),
      List.take_of_length_le (by rw [l2])]
  have b0 : smallImage.block 168 = smallScan.take 16 := by
    have h : (smallImage.slice (16 * 168) 32).take 16 = smallImage.block 168 := by
      rw [Memory.block, Memory.slice, ← List.map_take]
      rfl
    rw [← h, s0]
    decide
  have b1 : byteAt (smallImage.block 169) 0 = 0xFF := by
    have h : ∀ m : Memory, byteAt (m.slice (16 * 168) 32) 16 = byteAt (m.block 169) 0 := fun _ => rfl
    rw [← h smallImage, s0]
    decide
  obtain ⟨d, hd⟩ := Option.isSome_iff_exists.1 d
  obtain ⟨tt, ht⟩ := Option.isSome_iff_exists.1 tt
  obtain ⟨ch, hc⟩ := Option.isSome_iff_exists.1 ch
  obtain ⟨pu, hp⟩ := Option.isSome_iff_exists.1 pu
  obtain ⟨ga, hg⟩ := Option.isSome_iff_exists.1 ga
  have sl : ((List.range 16).map fun k => smallImage.block (168 + k)) =
      smallImage.block 168 :: smallImage.block 169 :: ((List.range 14).map fun k => smallImage.block (170 + k)) := rfl
  obtain ⟨x, hx⟩ : ∃ x, parseScanSlot (smallScan.take 16) = some x ∧ x.channel = 15 := ⟨_, rfl, rfl⟩
  have sc : parseScanList ((List.range 16).map fun k => smallImage.block (168 + k)) = some [x] := by
    rw [sl, b0, parseScanList, if_neg (by decide), hx.1]
    simp only [Option.bind_eq_bind, Option.bind_some]
    rw [parseScanList, if_pos b1]
    rfl
  have sv : scanListValid [x] = true := by simp [scanListValid, hx.2]
  simp only [parseImage, hd, ht, hc, hp, hg, sc, sv, requireThat, Option.bind_eq_bind, Option.bind_some, if_true, Option.isSome_some]

/-- The small image is sound. -/
theorem small_sound : ∃ c, soundImage smallImage = some c := by
  obtain ⟨c, hc⟩ := Option.isSome_iff_exists.1 small_parses
  refine ⟨c, ?_⟩
  have b : smallImage.block 239 = List.replicate 16 0 := small_zeros _ _ (by omega)
  have w : wordAt (List.replicate 16 (0 : Byte)) 0 = 0 := by decide
  have e : lastBlockErased smallImage = false := by
    rw [lastBlockErased, b]
    decide
  have m : imageCrcMatches smallImage = true := by
    rw [imageCrcMatches, small_crc, b, w]
    decide
  rw [soundImage, e, m, hc]
  rfl

/-! ### Loads, the table, the pulse unit -/

/-- LoadEnds: a sound image, an erased image, and a configuration in force after a restart. -/
theorem test_met_LoadEnds :
    (let s := State.reset.setStore { State.reset.store with image := smallImage }
     s.cycle.state = .load ∧ s.store.state = .loading ∧ s.cycle.ignition = false ∧ ∃ c, soundImage s.store.image = some c) ∧
    soundImage State.reset.store.image = none ∧
    (let s := State.reset.setStore { State.reset.store with state := .loaded, inForce := some builtInDefaults }
     s.cycle.state = .load ∧ s.store.state ≠ .loading ∧ s.store.inForce = some builtInDefaults ∧ s.cycle.ignition = false) :=
  ⟨⟨rfl, rfl, rfl, small_sound⟩, by decide, rfl, by decide, rfl, rfl⟩

/-- LoadEnds, the normalisation: channels of each kind, claims of each kind, a barred TELLTALE_FAILED claim, and a PORT claim met twice. -/
theorem test_met_LoadEnds_normal :
    pc0.kind = .speed ∧ { pc0 with kind := ResultKind.rotation }.kind ≠ .speed ∧
    (let d : TelltaleDesc := { lampDesc with claims := #v[.port .dlink, .port .dlink, .condition .telltaleFailed .on, .signal 0 .above 0 0 .off] }
     d.claims[(1 : Fin 4)] = .port .dlink ∧ (∃ j : Fin 4, j < 1 ∧ d.claims[j] = .port .dlink) ∧
     (∀ j : Fin 4, j < 0 → d.claims[j] ≠ .port .dlink) ∧ d.claims[(2 : Fin 4)] = .condition .telltaleFailed .on ∧
     (d.colour = .red ∧ d.lampClass = .mandatory) ∧ d.claims[(3 : Fin 4)] = .signal 0 .above 0 0 .off) ∧
    Pattern.on ≠ .off ∧ lampDesc.claims[(1 : Fin 4)] = .absent := by
  decide

/-- LoadEnds and CommitEnds, the claim latches: a BELOW and an ABOVE claim of the built-in defaults; on the value 0 of an emptied entry the first
judgement makes the low-air claim active and the coolant claim inactive (R111, R133). -/
theorem test_met_LatchedAfresh :
    builtInDefaults.chimes[(0 : Fin 8)].claims[(0 : Fin 2)] = .signal 8 .below 550 50 .on ∧
    builtInDefaults.chimes[(1 : Fin 8)].claims[(0 : Fin 2)] = .signal 6 .above 1100 20 .on ∧
    (Claim.signal 8 .below 550 50 .on).firstLatch State.reset = true ∧ (Claim.signal 6 .above 1100 20 .on).firstLatch State.reset = false ∧
    (Claim.signal 8 .below 0 50 .on).firstLatch State.reset = false := by
  decide

/-- AgingExpiry: a LIVE slot of a link at the age before its lost time, an EMPTY slot, and an analog slot in supply LOW. -/
theorem test_met_AgingExpiry :
    (slotOf .live 0 199).state ≠ .empty ∧ ¬((∃ a, Source.link .nlink = .analog a) ∧ Supply.low = .low) ∧
    (∀ i, Source.link .nlink ≠ .switch i) ∧ (slotOf .empty 0 0).state = .empty ∧ (∃ a, Source.analog 15 = .analog a) := by
  refine ⟨by decide, ?_, ?_, rfl, 15, rfl⟩
  · rintro ⟨⟨a, h⟩, -⟩; cases h
  · intro i h; cases h

/-- ReclaimExpiry and DisagreementExpiry: both timers running, the primary STALE, the mark clear. -/
theorem test_met_timers :
    let s := withEntry 63 { ctmp (slotOf .stale 862 50) (slotOf .live 848 0) (viewOf .live .alternate 848) (.running 500) with
      disagreement := .running 3000 } (inState .run)
    s.signals[(63 : Fin 64)].reclaim = .running 500 ∧ s.signals[(63 : Fin 64)].primary.state = .stale ∧
    s.signals[(63 : Fin 64)].disagreement = .running 3000 ∧ s.signals[(63 : Fin 64)].disagree = false := by
  decide

/-- ReclaimExpiry, the timer's start: a value at a primary slot in FAULT and at one that is STALE, while the alternate serves. -/
theorem test_met_ReclaimExpiry_start :
    let e (p : Slot) := ctmp p (slotOf .live 848 0) (viewOf .live .alternate 848) .stopped
    (e (slotOf .fault 862 0)).desc.primary = .link .nlink ∧ (e (slotOf .fault 862 0)).desc.alternate ≠ .none ∧
    (e (slotOf .fault 862 0)).alternate.state = .live ∧ (e (slotOf .fault 862 0)).startsReclaim (.value 862) = true ∧
    (e (slotOf .stale 862 50)).startsReclaim (.value 862) = false := by
  decide

/-- DisagreementExpiry, the judgement: two LIVE views that differ by the tolerance of 500 and by one more, and a view that is not LIVE. -/
theorem test_met_DisagreementExpiry_pair :
    let e (v : View) := ctmp (slotOf .live 0 0) (slotOf .live 0 0) v .stopped
    (e (viewOf .live .primary 0)).view.state = .live ∧ ((e (viewOf .live .primary 0)).desc.tolerance : Int) < |(0 : Int) - 501| ∧
    ¬(((e (viewOf .live .primary 0)).desc.tolerance : Int) < |(0 : Int) - 500|) ∧ (e (viewOf .stale .primary 0)).view.state ≠ .live := by
  decide

/-- SelectionServes: the primary serves; the alternate is held by the reclaim timer; the alternate serves alone; neither serves, in each
row of R13. -/
theorem test_met_SelectionServes :
    let live := slotOf .live 1 0
    let lost := slotOf .lost 1 0
    let empty := slotOf .empty 0 0
    let fault := slotOf .fault 1 0
    let v := viewOf .live .alternate 1
    (let e := ctmp live lost v .stopped
     (e.primary.state = .live ∨ e.primary.state = .stale) ∧ e.reclaim = .stopped) ∧
    (let e := ctmp live live v (.running 500)
     e.view.source = .alternate ∧ e.desc.alternate ≠ .none ∧ e.alternate.state = .live ∧ e.primary.state = .live ∧ e.reclaim ≠ .stopped) ∧
    (let e := ctmp fault live v .stopped
     e.desc.alternate ≠ .none ∧ e.alternate.state = .live ∧ ¬(e.primary.state = .live ∨ e.primary.state = .stale)) ∧
    (let e := ctmp fault lost v .stopped
     e.primary.state = .fault ∧ ¬(e.alternate.state = .live ∨ e.alternate.state = .stale)) ∧
    (let e := ctmp empty empty v .stopped
     e.primary.state = .empty ∧ e.alternate.state = .empty) ∧
    (let e := ctmp empty fault v .stopped
     e.primary.state = .empty ∧ e.desc.alternate ≠ .none ∧ e.alternate.state ≠ .empty) ∧
    (ctmp lost lost v .stopped).primary.state = .lost := by
  decide

/-- SelectionServes, the stored value, at the bounds of -400 and 25,000. -/
theorem test_met_SelectionServes_take :
    let d := descOf (.link .nlink) .none
    d.kind = .value ∧ { d with kind := EntryKind.boolean }.kind = .boolean ∧ (-401 : Int) < d.min ∧ d.min ≤ -400 ∧ 25000 ≤ d.max ∧
    d.max < (25001 : Int) := by
  decide

/-- PulseEdges, not captured: a stopped gate, and a falling edge where RISING is selected. -/
theorem test_met_PulseEdges_uncaptured :
    (inState .run).pulse[(3 : Fin 4)].gate = .stopped ∧
    (let s := driving (channel 0 0 none none none 0)
     ∃ st, s.pulse[(0 : Fin 4)].settings = some st ∧ st.edges = .rising) :=
  ⟨rfl, pc0, rfl, rfl⟩

/-- PulseEdges, captured: an interval of 49 us is shorter than the spacing, one of 50 us is not. -/
theorem test_met_PulseEdges_captured :
    let s := driving (channel 1000 1 (some 1000) (some 1000) none 0)
    s.pulse[(0 : Fin 4)].gate = .running 100 ∧ s.pulse[(0 : Fin 4)].settings = some pc0 ∧ pc0.edges = .rising ∧
    s.pulse[(0 : Fin 4)].spacingRef = some 1000 ∧ s.cond .odoMismatch = s.dist.mismatch ∧
    (s.pulse[(0 : Fin 4)].counter + BitVec.ofNat 24 49 - 1000).toNat < pc0.spacingUs ∧
    pc0.spacingUs ≤ (s.pulse[(0 : Fin 4)].counter + BitVec.ofNat 24 50 - 1000).toNat ∧
    (let u := s.setPulse (s.pulse.set 1 (channel 1000 0 none none none 0))
     u.pulse[(1 : Fin 4)].gate = .running 100 ∧ u.pulse[(1 : Fin 4)].settings = some pc0 ∧ u.pulse[(1 : Fin 4)].spacingRef = none) := by
  decide

/-- PulsesAndSteps: both parities, the residue one tenth below the step and at it, the LDC below its top and at it, the trips at theirs. -/
theorem test_met_PulsesAndSteps :
    let d := { Distance.reset with stepSize := 8000 }
    d.parityOdd = false ∧ { d with parityOdd := true }.parityOdd = true ∧
    { d with residue := 7989 }.residue + 10 < d.stepSize ∧ d.stepSize ≤ { d with residue := 7990 }.residue + 10 ∧
    { d with ldc := 999999998 }.ldc < 999999999 ∧ 999999999 ≤ { d with ldc := 999999999 }.ldc ∧
    { d with tripA := 999999 }.tripA < 1000000 ∧ { d with tripB := 999999 }.tripB < 1000000 ∧ d.odoState = .unknown := by
  decide

/-- WindowCases: 5 rejected of 9; cases A, B and B′; case C timed out at 2,000,000 us, and decaying one microsecond earlier. -/
theorem test_met_WindowCases :
    (let x := { channel 0 4 (some 0) (some 100) none 0 with rejected := 5 }
     x.n < x.rejected ∧ 4 < x.rejected) ∧
    (let x := { channel 0 4 (some 0) (some 100) (some 7) 0 with rejected := 4 }
     ¬(x.n < x.rejected ∧ 4 < x.rejected) ∧ 1 ≤ x.n ∧ x.tPrev = some 7 ∧ x.tLast = some 100) ∧
    (let x := channel 0 2 (some 0) (some 100) none 0
     ¬(x.n < x.rejected ∧ 4 < x.rejected) ∧ 2 ≤ x.n ∧ x.tPrev = none ∧ x.tFirst = some 0 ∧ x.tLast = some 100) ∧
    (let x := channel 0 1 (some 100) (some 100) none 0
     ¬(x.n < x.rejected ∧ 4 < x.rejected) ∧ x.n = 1 ∧ x.tPrev = none ∧ x.tLast = some 100) ∧
    (let x := channel 0 0 none none (some 7) 450
     ¬(x.n < x.rejected ∧ 4 < x.rejected) ∧ x.n = 0 ∧ x.tPrev = some 7 ∧
     pc0.zeroTimeoutMs * 1000 ≤ (BitVec.ofNat 24 2000007 - (7 : Stamp)).toNat ∧
     (BitVec.ofNat 24 2000006 - (7 : Stamp)).toNat < pc0.zeroTimeoutMs * 1000) := by
  decide

/-- GateExpiry and GateTakeOver. -/
theorem test_met_GateExpiry :
    (let s := driving (channel 0 0 none none none 0)
     s.pulse[(0 : Fin 4)].gate = .running 100 ∧ s.pulse[(0 : Fin 4)].settings = some pc0 ∧ s.pulse[(0 : Fin 4)].takeOver = false ∧
     s.cycle.state ≠ .load) ∧
    (let s := (driving { channel 0 0 none none none 0 with takeOver := true }).setStore { State.reset.store with inForce := some builtInDefaults }
     s.pulse[(0 : Fin 4)].gate = .running 100 ∧ s.pulse[(0 : Fin 4)].settings = some pc0 ∧ s.pulse[(0 : Fin 4)].takeOver = true ∧
     s.config = some builtInDefaults.normal ∧ s.cycle.state ≠ .load ∧ s.cond .odoMismatch = s.dist.mismatch) :=
  ⟨by decide, rfl, rfl, rfl, rfl, by decide, rfl⟩

/-! ### Converter and switches -/

/-- PassBegins: an overrun, a pass begun by either timer, and one begun behind a take-over. -/
theorem test_met_PassBegins :
    (let s := scanning true [scanSlot 15 1 0] [0] .testing .normal
     s.conv.scanTimer = .running 50 ∧ s.conv.pass = some { parked := false, todo := [0], stage := .testing }) ∧
    (let s := scanning true [scanSlot 15 1 0] [0] .testing .normal
     let u := s.setConv { s.conv with pass := none, parkedTimer := .running 10000 }
     u.conv.scanTimer = .running 50 ∧ u.conv.parkedTimer = .running 10000 ∧ u.conv.pass = none ∧ u.conv.takeOver = false ∧
     u.conv.settings = some (converterSet true [scanSlot 15 1 0])) ∧
    (let s := (inState .parked).setStore { State.reset.store with inForce := some builtInDefaults }
     let u := s.setConv { s.conv with parkedTimer := .running 10000, takeOver := true }
     u.conv.parkedTimer = .running 10000 ∧ u.conv.pass = none ∧ u.conv.takeOver = true ∧ u.config = some builtInDefaults.normal) :=
  ⟨by decide, by decide, rfl, rfl, rfl, rfl⟩

/-- TestConversions, at the limits and outside them. -/
theorem test_met_TestConversions :
    let s := scanning true [scanSlot 15 1 0] [0] .testing .low
    let p : Pass := { parked := false, todo := [0], stage := .testing }
    s.conv.pass = some p ∧ p.stage = .testing ∧ s.cycle.state ≠ .load ∧
    (8 : AdcCode).toNat ≤ 8 ∧ 4087 ≤ (4087 : AdcCode).toNat ∧ 8 < (9 : AdcCode).toNat ∧ (4086 : AdcCode).toNat < 4087 := by
  decide

/-- ConversionsAddUp, in each of its stages. -/
theorem test_met_ConversionsAddUp :
    (scanning true [scanSlot 0 4 0] [0] .settling .normal).conv.pass = some { parked := false, todo := [0], stage := .settling } ∧
    (scanning true [scanSlot 0 4 0] [0] (.converting false 0 0) .normal).conv.pass =
      some { parked := false, todo := [0], stage := .converting false 0 0 } ∧
    (let s := scanning true [scanSlot 0 4 0] [0] (.converting true 9 2) .normal
     s.conv.pass = some { parked := false, todo := [0], stage := .converting true 9 2 } ∧ s.conv.scanSlot 0 = some (scanSlot 0 4 0) ∧
     s.conv.settings = some (converterSet true [scanSlot 0 4 0]) ∧ 2 + 1 < (scanSlot 0 4 0).averaging) := by
  decide

/-- SenderResult: the last conversion of AN0 in LOW, with averages outside the window, and with a valid and an invalid curve. -/
theorem test_met_SenderResult :
    (∀ valid : Bool, ∀ supply : Supply,
      let s := scanning valid [scanSlot 0 1 0] [0] (.converting true 0 0) supply
      s.conv.pass = some { parked := false, todo := [0], stage := .converting true 0 0 } ∧
      s.conv.settings = some (converterSet valid [scanSlot 0 1 0]) ∧ s.conv.scanSlot 0 = some (scanSlot 0 1 0) ∧
      s.conv.supply = supply ∧ s.cycle.state ≠ .load ∧ (converterSet valid [scanSlot 0 1 0]).curveValid[(scanSlot 0 1 0).curve] = valid) ∧
    (scanSlot 0 1 0).averaging ≤ 0 + 1 ∧ (scanSlot 0 1 0).channel ≠ 15 ∧ (scanSlot 0 1 0).checked = true ∧
    (0 + (39 : AdcCode).toNat + 1 / 2) / 1 < (scanSlot 0 1 0).lower ∧ (scanSlot 0 1 0).upper < (0 + (3901 : AdcCode).toNat + 1 / 2) / 1 ∧
    (scanSlot 0 1 0).lower ≤ (0 + (40 : AdcCode).toNat + 1 / 2) / 1 ∧ (0 + (3900 : AdcCode).toNat + 1 / 2) / 1 ≤ (scanSlot 0 1 0).upper := by
  refine ⟨fun valid supply => ?_, by decide⟩
  cases valid <;> cases supply <;> exact ⟨rfl, rfl, rfl, rfl, by decide, rfl⟩

/-- SupplyResult: the last conversion of AN15, within its window and outside it, with its curve valid and not; the second low judgement enters LOW, and 2,610 leaves it, with a gauge held. -/
theorem test_met_SupplyResult :
    (∀ valid : Bool, ∀ supply : Supply,
      let s := scanning valid [scanSlot 15 1 0] [0] (.converting true 0 0) supply
      s.conv.pass = some { parked := false, todo := [0], stage := .converting true 0 0 } ∧
      s.conv.settings = some (converterSet valid [scanSlot 15 1 0]) ∧ s.conv.scanSlot 0 = some (scanSlot 15 1 0) ∧ s.cycle.state ≠ .load ∧
      (converterSet valid [scanSlot 15 1 0]).curveValid[(scanSlot 15 1 0).curve] = valid) ∧
    (0 + (39 : AdcCode).toNat + 1 / 2) / 1 < (scanSlot 15 1 0).lower ∧ (scanSlot 15 1 0).upper < (0 + (3901 : AdcCode).toNat + 1 / 2) / 1 ∧
    (scanSlot 15 1 0).averaging ≤ 0 + 1 ∧ (scanSlot 15 1 0).channel = 15 ∧
    (scanSlot 15 1 0).lower ≤ (0 + (2000 : AdcCode).toNat + 1 / 2) / 1 ∧ (0 + (2000 : AdcCode).toNat + 1 / 2) / 1 ≤ (scanSlot 15 1 0).upper ∧
    (judgeSupply 1210 .normal 1).1 = .low ∧ (judgeSupply 2610 .low 2).1 ≠ .low ∧
    (let s := withGauge { gauge .held 0 0 0 0 0 with remembered := some .tracking } (inState .run)
     s.gauges[(0 : Fin 6)].settings ≠ none ∧ s.gauges[(0 : Fin 6)].state = .held ∧ s.gauges[(0 : Fin 6)].remembered = some .tracking) ∧
    (gauge .tracking 5 0 8 9 0).driven .run = true ∧ (gauge .parked 0 0 0 0 0).driven .parked = false ∧
    (let g := { gauge .held 5 0 0 9 0 with remembered := some .sweep }
     g.settings = some gaugeSet ∧ g.state = .held ∧ g.remembered = some .sweep ∧ g.position ≠ g.target) ∧
    (∀ leg : SweepLeg,
      let g := { gauge .held 9 0 0 9 0 with remembered := some .sweep, leg := leg }
      g.settings = some gaugeSet ∧ g.state = .held ∧ g.remembered = some .sweep ∧ g.position = g.target ∧ g.leg = leg) ∧
    { gauge .held 5 0 0 9 0 with remembered := some .homing }.remembered = some .homing := by
  refine ⟨fun valid supply => ?_, by decide, by decide, by decide, by decide, by decide, by decide, by decide, by decide, by decide,
    by decide, by decide, by decide, fun leg => ?_, by decide⟩
  rotate_left
  · cases leg <;> decide
  cases valid <;> cases supply <;> exact ⟨rfl, rfl, rfl, by decide, rfl⟩

/-- SupplyJudgement, at the bounds of its ranges. -/
theorem test_met_SupplyJudgement : (1599 : Int) < 1600 ∧ (3200 : Int) < 3201 ∧ (1799 : Int) < 1800 ∧ (3100 : Int) < 3101 := by decide

/-- CurveValues: curve 0 rises; its first point, its last point and one between two points; a half. -/
theorem test_met_CurveValues :
    strictlyRising curve0 = true ∧ curve0.head? = some { x := 100, y := 0 } ∧ curve0.getLast? = some { x := 3200, y := 1000 } ∧
    curve0[1]? = some { x := 1000, y := 250 } ∧ curve0[2]? = some { x := 2000, y := 520 } ∧
    2 * ((50 * 270 : Int) - roundAway (50 * 270) 1000 * 1000).natAbs = 1000 := by
  decide

/-- RawLevelChange: no change, a change before the settings are taken, and a change with settings. -/
theorem test_met_RawLevelChange :
    (inState .run).switches.inputs[(0 : Fin 24)].raw = .low ∧ (inState .run).switches.settings = none ∧
    (let s := withInput 23 { raw := .low, debounce := .stopped, accepted := some .low } (inState .run)
     s.switches.inputs[(23 : Fin 24)].raw ≠ .high ∧ s.switches.settings = some switchSet) :=
  ⟨rfl, rfl, by decide, rfl⟩

/-- Acceptance: a level accepted already, a new level of a wake-capable input, and a first level 0 of SW23. -/
theorem test_met_Acceptance :
    (let s := withInput 0 { raw := .low, debounce := .running 50, accepted := some .low } (inState .parked)
     s.switches.settings = some switchSet ∧ s.switches.inputs[(0 : Fin 24)].debounce = .running 50 ∧
     s.switches.inputs[(0 : Fin 24)].accepted = some s.switches.inputs[(0 : Fin 24)].raw) ∧
    (let s := withInput 0 { raw := .high, debounce := .running 50, accepted := some .low } (inState .parked)
     s.switches.inputs[(0 : Fin 24)].accepted ≠ some s.switches.inputs[(0 : Fin 24)].raw ∧ (0 : Fin 24) ≠ 23 ∧ s.cycle.state ≠ .load) ∧
    (let s := withInput 23 { raw := .low, debounce := .running 50, accepted := none } (inState .parked)
     s.switches.inputs[(23 : Fin 24)].accepted ≠ some s.switches.inputs[(23 : Fin 24)].raw ∧
     (false = ((s.switches.inputs[(23 : Fin 24)].raw == .high) == switchSet.polarity 23))) := by
  refine ⟨⟨rfl, rfl, rfl⟩, by decide, by decide⟩

/-- IgnitionEvents: IGN_ON and IGN_OFF in each cycle state, and IGN_ON in PARKED with a commit in flight, with a wake-capable SW23. -/
theorem test_met_IgnitionEvents :
    (∀ c : CycleState, ∀ x ∈ [(Level.high, Level.low), (.low, .high)],
      let s := withInput 23 { raw := x.1, debounce := .running 50, accepted := some x.2 } (inState c)
      s.switches.settings = some switchSet ∧ s.switches.inputs[(23 : Fin 24)].debounce = .running 50 ∧ s.cycle.state = c ∧
      s.switches.inputs[(23 : Fin 24)].accepted ≠ some s.switches.inputs[(23 : Fin 24)].raw ∧ s.cycle.commitInFlight = false ∧
      (some ((x.2 == .high) == switchSet.polarity 23)).getD false ≠ ((x.1 == .high) == switchSet.polarity 23)) ∧
    ((Level.high == .high) == switchSet.polarity 23) = true ∧ ((Level.low == .high) == switchSet.polarity 23) = false ∧
    switchSet.wake[(23 : Fin 24)] = false ∧
    (let s := (withInput 23 { raw := .high, debounce := .running 50, accepted := some .low } (inState .parked)).setCycle
      { (inState .parked).cycle with commitInFlight := true }
     s.cycle.state = .parked ∧ s.cycle.commitInFlight = true ∧
     (let st := { switchSet with wake := .replicate 24 true }
      (s.setSwitches { s.switches with settings := some st }).switches.settings = some st ∧ st.wake[(23 : Fin 24)] = true)) := by
  refine ⟨fun c x h => ?_, by decide, by decide, by decide, rfl, rfl, rfl, by decide⟩
  rcases List.mem_pair.1 h with rfl | rfl <;> refine ⟨rfl, rfl, rfl, fun h => ?_, rfl, by decide⟩ <;>
    cases Option.some.inj h

/-- IgnitionEvents, a gauge at the cycle's events: in each state, at rest and not, with the sweep and without, remembered states, and a value that
it shows and one that it does not. -/
theorem test_met_IgnitionEvents_gauges :
    (gauge .parked 0 0 0 0 0).settings = some gaugeSet ∧ gaugeSet.desc.sweepEnable = true ∧
    (gauge .parked 0 0 0 0 0).position ≠ gaugeSet.desc.fullScale ∧ (gauge .parking 3240 0 0 0 0).position = gaugeSet.desc.fullScale ∧
    { gaugeDesc with sweepEnable := false }.sweepEnable = false ∧ gaugeSet.curveValid = true ∧ (viewOf .live .primary 0).state = .live ∧
    ¬((viewOf .lost .substitute 0).state = .live ∨ (viewOf .lost .substitute 0).state = .stale ∨ gaugeSet.desc.holdOnLoss = true) ∧
    (∀ m : GaugeState, { gauge .held 0 0 0 0 0 with remembered := some m }.remembered = some m) ∧
    (gauge .tracking 5 0 8 9 0).velocity ≠ 0 ∧ (gauge .tracking 0 0 0 0 0).position = gaugeSet.desc.park := by
  refine ⟨rfl, rfl, by decide, by decide, rfl, rfl, rfl, by decide, fun m => rfl, by decide, by decide⟩

/-! ### Gauges, lamps, chimes, the readout -/

/-- MotionStep: a gauge away from rest, one that arrives in each state, and the velocity's cases. -/
theorem test_met_MotionStep :
    (let s := withGauge (gauge .tracking 0 0 0 12 0) (inState .run)
     s.gauges[(0 : Fin 6)].settings = some gaugeSet ∧ s.gauges[(0 : Fin 6)].state ∈ [.sweep, .tracking, .parking, .parked] ∧
     s.gauges[(0 : Fin 6)].velocity = 0 ∧ s.gauges[(0 : Fin 6)].position ≠ s.gauges[(0 : Fin 6)].target) ∧
    (let g := gauge .parking 0 0 0 0 0
     g.velocity = 0 ∧ g.position = g.target ∧ g.state = .parking) ∧
    (let g := { gauge .sweep 3240 0 0 3240 0 with leg := .out }
     g.velocity = 0 ∧ g.position = g.target ∧ g.state = .sweep ∧ g.leg = .out) ∧
    (let g := { gauge .sweep 0 0 0 0 0 with leg := .back }
     g.velocity = 0 ∧ g.position = g.target ∧ g.state = .sweep ∧ g.leg ≠ .out) ∧
    (let v : Int := 8
     let d : Int := 12
     v.sign = d.sign ∧ v * v / (32 * 8) < d.natAbs ∧ v < d.sign * 32 ∧ d.sign * 32 ≤ 32) ∧
    (let v : Int := 32
     let d : Int := 3
     v ≠ 0 ∧ (d.natAbs : Int) ≤ v * v / (32 * 8) ∧ 8 < v.natAbs) := by
  decide

/-- MotionStep, the coils: a phase in each quarter at its bounds, a duty of each sign, and a gauge with its coils on and off. -/
theorem test_met_MotionStep_coils :
    (11 : Nat) < 12 ∧ (12 : Nat) ≤ 12 ∧ (23 : Nat) < 24 ∧ (35 : Nat) < 36 ∧ (47 : Nat) < 48 ∧ (-131 : Int) = -(131 : Nat) ∧
    (gauge .unhomed 0 0 0 0 0).state = .unhomed ∧ ((3240 % 48 : Nat) : Int) = (gauge .tracking 3240 0 0 3240 0).position % 48 ∧
    ¬((gauge .parked 0 0 0 0 0).state = .parked ∧ CycleState.run = .parked) := by
  decide

/-- HomingStep: a run that goes on, and one that ends, with and without the sweep, in STARTING and in STOPPING. -/
theorem test_met_HomingStep :
    (let s := withGauge (gauge .homing 3480 0 0 0 3480) (inState .starting)
     s.gauges[(0 : Fin 6)].settings = some gaugeSet ∧ s.gauges[(0 : Fin 6)].state = .homing ∧
     gaugeSet.desc.homingSpeed < s.gauges[(0 : Fin 6)].homingCount) ∧
    (let s := withGauge (gauge .homing 2 0 0 0 2) (inState .starting)
     s.gauges[(0 : Fin 6)].homingCount ≤ gaugeSet.desc.homingSpeed ∧ s.cycle.state = .starting ∧ gaugeSet.desc.sweepEnable = true ∧
     0 < gaugeSet.desc.fullScale) ∧
    (let s := withGauge { gauge .homing 2 0 0 0 2 with settings := some { gaugeSet with desc := { gaugeDesc with sweepEnable := false } } } (inState .run)
     s.gauges[(0 : Fin 6)].state = .homing ∧ s.cycle.state = .run) ∧
    (inState .stopping).cycle.state = .stopping := by
  decide

/-- EffectiveUpdates: at rest within the deadband of 2 and beyond it, a loss under GO_PARK, and a return from PARKED in RUN. -/
theorem test_met_EffectiveUpdates :
    (let g := gauge .tracking 2327 0 0 2327 0
     g.settings = some gaugeSet ∧ g.state = .tracking ∧ g.velocity = 0 ∧ g.position = g.target ∧
     (gaugeSet.curvePosition 8980 - g.position).natAbs ≤ gaugeSet.desc.deadband ∧
     ¬(gaugeSet.curvePosition 9000 - g.position).natAbs ≤ gaugeSet.desc.deadband) ∧
    ¬((viewOf .lost .substitute 0).state = .live ∨ (viewOf .lost .substitute 0).state = .stale) ∧ gaugeSet.desc.holdOnLoss = false ∧
    (gauge .parked 0 0 0 0 0).state = .parked ∧ gaugeSet.curveValid = true ∧ (viewOf .live .primary 0).state = .live := by
  decide

/-- ClaimsJudged: a claim that does not follow, and a telltale whose PORT claim carries each pattern. -/
theorem test_met_ClaimsJudged :
    Pattern.on ≠ .follow ∧
    (∀ p : Pattern, p ≠ .off →
      let x : Telltale := { Telltale.reset with patterns := { dlink := p, nlink := .off, tlink := .off } }
      lampDesc.claims[(0 : Fin 4)].active State.reset (fun q => x.patterns.of q != .off) x.latches[(0 : Fin 4)] = true ∧
      lampDesc.claims[(0 : Fin 4)].pattern x.patterns = p) := by
  refine ⟨by decide, fun p hp => ?_⟩
  cases p
  · exact absurd rfl hp
  all_goals decide

/-- OpenLoadJudged, LampShort and LampRetry: the timers running, the output on, with two and with three retries. -/
theorem test_met_lamps :
    (lit 0 1 (shownOn true .ok 0 (.running 20) .stopped) .reset).lamps.telltales[(1 : Fin 40)].openCheck = .running 20 ∧
    (lit 0 1 (shownOn true .ok 3 .stopped .stopped) .reset).lamps.telltales[(1 : Fin 40)].output = true ∧
    (lit 0 1 (shownOn false .short 2 .stopped (.running 1000)) .reset).lamps.telltales[(1 : Fin 40)].retryTimer = .running 1000 := by
  decide

/-- RecordArrival: a readout with settings, and a TACHO write outside LOAD. -/
theorem test_met_RecordArrival :
    let s := (inState .run).setTacho (readout .current 28 250 480 0 0)
    s.tacho.settings = some readoutSet ∧ s.cycle.state ≠ .load := ⟨rfl, by decide⟩

/-- R137: ABSENT for driver 1, unknown codes, a figure above its top and a fifth warning are brought into range and clamp; UNKNOWN and an absent time
do not. -/
theorem test_recordValidation :
    (let r := validateRecord [5, 6, 3, 1, 5, 161, 0, 0, 0, 0, 0, 0, 0, 0, 0, 0, 0, 0, 5, 160, 5, 7, 1, 0, 6]
     r.1.driver1 = .unknown ∧ r.1.driver2 = .unknown ∧ r.1.card1 = .fault ∧ r.1.card2 = .present ∧ r.1.continuous = 1440 ∧
     r.1.localTime = none ∧ r.1.warnings = [.other, .overspeed, .other, .other] ∧ r.2 = true) ∧
    (validateRecord [4, 5, 2, 0, 5, 160, 0, 0, 0, 0, 0, 0, 0, 0, 0, 0, 0, 0, 255, 255, 2, 6, 1, 9, 9]).2 = false := by
  decide +kernel

/-- RecordAge: the age before the stale time's, and the one that reaches it. -/
theorem test_met_RecordAge :
    (let s := (inState .run).setTacho (readout .current 28 250 480 0 0)
     s.tacho.settings = some readoutSet ∧ s.tacho.ageTimer = .running 100 ∧ s.tacho.age + 1 < 10 * readoutSet.staleS) ∧
    (let s := (inState .run).setTacho (readout .current 29 250 480 0 0)
     s.tacho.state = .current ∧ 10 * readoutSet.staleS ≤ s.tacho.age + 1) := by
  decide

/-- Estimation: the 60th driving second, and the last second. -/
theorem test_met_Estimation :
    let s := (inState .run).setTacho (readout .estimated 30 250 480 59 1799)
    s.tacho.settings = some readoutSet ∧ s.tacho.estimation = .running 1000 ∧ s.tacho.state = .estimated ∧ s.tacho.drivingSeconds < 60 ∧
    1800 ≤ s.tacho.estimationTime + 1 := by
  decide

/-- BulbCheckEnds: a gauge UNHOMED, and every gauge ready. -/
theorem test_met_BulbCheckEnds :
    (let s := (inState .starting).setCycle { (inState .starting).cycle with window := .running 3000 }
     s.cycle.window = .running 3000 ∧ s.cycle.state = .starting ∧ ∃ i : Fin 6, s.gauges[i].state ∉ [.tracking, .parking, .parked]) ∧
    (let s := (inState .starting).setGauges (.replicate 6 (gauge .tracking 0 0 0 0 0))
     ∀ i : Fin 6, s.gauges[i].state ∈ [.tracking, .parking, .parked]) :=
  ⟨⟨rfl, rfl, 0, by decide⟩, by decide⟩

/-- CommitEnds: the small image in the staging buffer, without and with a restart pending; a remaining time other than that of a new limit. -/
theorem test_met_CommitEnds : ∀ restart : Bool,
    let s := ((inState .parked).setStore { State.reset.store with state := .committing, programming := true, staging := smallImage }).setCycle
      { (inState .parked).cycle with commitInFlight := true, restartPending := restart }
    s.store.state = .committing ∧ s.store.programming = true ∧ (∃ c, parseImage s.store.staging = some c) ∧ s.cycle.state = .parked ∧
    s.cycle.commitInFlight = true ∧ s.cycle.restartPending = restart ∧
    (∀ i : Fin 6, s.gauges[i].state = .unhomed ∨ s.gauges[i].state = .parked) ∧
    (let u := withGauge (gauge .parked 0 0 0 0 0) s
     (∀ i : Fin 6, u.gauges[i].state = .unhomed ∨ u.gauges[i].state = .parked) ∧ u.gauges[(0 : Fin 6)].settings = some gaugeSet ∧
     gaugeSet.desc.fullScale = 3240 ∧ gaugeSet.desc.park = 0) ∧
    (let u := (withInput 0 { raw := .high, debounce := .stopped, accepted := some .high } s).setCycle { s.cycle with ignition := true }
     u.cycle.ignition = true ∧ u.switches.settings = some switchSet ∧ u.switches.inputs[(0 : Fin 24)].accepted = some .high ∧
     switchSet.polarity 0 ≠ true) ∧
    (∀ limit : Nat, ∃ remaining : Nat, (({ readout .current 0 0 0 0 0 with remaining := remaining } : Readout)).remaining ≠ limit) :=
  fun _ => ⟨rfl, rfl, Option.isSome_iff_exists.1 small_parses, rfl, rfl, rfl, fun i => by
    match i with
    | 0 | 1 | 2 | 3 | 4 | 5 => exact .inl rfl, ⟨fun i => by
    match i with
    | 0 => exact .inr rfl
    | 1 | 2 | 3 | 4 | 5 => exact .inl rfl, rfl, rfl, rfl⟩, ⟨rfl, rfl, rfl, by decide⟩, fun limit => ⟨limit + 1, Nat.succ_ne_self limit⟩⟩

/-! ### The links -/

/-- SpiPeriodEnds: a discarded period; a port in execution; a port LOST; and, for frames with the sequence 7 and the request CHANGES 10, the length
fields 0, 1, 240 and 241, one byte short, one byte too many, and right and wrong sums. -/
theorem test_met_SpiPeriodEnds :
    (withPort .dlink (fun x => { x with period := .discarded }) (inState .run) |>.port .dlink).period = .discarded ∧
    ((withPort .dlink (heldPort .change) (inState .run)).port .dlink).exec ≠ none ∧
    (let s := withPort .dlink (fun x => { x with link := .lost, period := .openOffering [0x4B] }) (inState .run)
     (s.port .dlink).period ≠ .discarded ∧ (s.port .dlink).exec = none ∧ (s.port .dlink).link = .lost) ∧
    (0x00 : Byte) ≠ 0xB4 ∧ (0x41 : Byte) ≠ 0x00 ∧ (0x41 : Byte) ≠ 0xB4 ∧
    ¬(1 ≤ (0 : Byte).toNat) ∧ (1 ≤ (1 : Byte).toNat ∧ (240 : Byte).toNat ≤ 240) ∧ ¬((241 : Byte).toNat ≤ 240) ∧
    ([3, 7, 0x40, 0, 10, 18] : List Byte).length < 3 + 4 ∧ 3 + 4 ≤ ([3, 7, 0x40, 0, 10, 18, 20, 0] : List Byte).length ∧
    crc16 (([3, 7, 0x40, 0, 10, 18, 20] : List Byte).take 5) = BitVec.ofNat 16 (18 * 256 + 20) ∧
    ¬(crc16 (([3, 7, 0x40, 0, 10, 18, 21] : List Byte).take 5) = BitVec.ofNat 16 (18 * 256 + 21)) := by
  decide +kernel

/-- TlinkBytes: each receiver state, free and in execution, with the byte that ends the frame. -/
theorem test_met_TlinkBytes :
    (∀ r : Receiver, (withPort .tlink (fun x => { x with receiver := r }) (inState .run) |>.port .tlink).receiver = r) ∧
    ((inState .run).port .tlink).exec = none ∧ ((inState .run).port .tlink).reply = none ∧
    ((withPort .tlink (heldPort .gate0) (inState .run)).port .tlink).exec ≠ none ∧
    (([3, 7, 0x40, 0, 10, 18] : List Byte) ++ [20]).length = 3 + 4 ∧ (([3, 7, 0x40, 0, 10] : List Byte) ++ [18]).length < 3 + 4 ∧
    crc16 (([3, 7, 0x40, 0, 10, 18, 20] : List Byte).take 5) = BitVec.ofNat 16 (18 * 256 + 20) := by
  refine ⟨fun r => rfl, by decide, by decide, by decide, by decide, by decide, by decide +kernel⟩

/-- RepliesGoOut: an idle period and an open one, and the longest results. -/
theorem test_met_RepliesGoOut :
    ((inState .run).port .dlink).period = .idle ∧
    (withPort .dlink (fun x => { x with period := .openEmpty }) (inState .run) |>.port .dlink).period ≠ .idle ∧
    (withPort .dlink (fun x => { x with period := .openOffering [0x4B] }) (inState .run) |>.port .dlink).period = .openOffering [0x4B] ∧
    (List.replicate 239 (0 : Byte)).length < 240 := by
  refine ⟨rfl, by decide, rfl, ?_⟩
  rw [List.length_replicate]
  decide

/-- WaitHoldsAndExpires: a frame that runs, an index and counts at their bounds, an empty and a filled change list, and a held frame. -/
theorem test_met_WaitHoldsAndExpires :
    (let s := withPort .dlink (fun x => { watching x with exec := some (frame [] none) }) (inState .run)
     (s.port .dlink).exec = some (frame [] none) ∧ (s.port .dlink).changes ≠ []) ∧
    (let s := withPort .dlink (fun x => { upPort x with exec := some (frame [] none) }) (inState .run)
     (s.port .dlink).exec = some (frame [] none) ∧ (s.port .dlink).changes = []) ∧
    3 < 4 ∧ WaitEvent.ofIndex 3 = some .gate0 ∧ 200 < 201 ∧
    (let s := withPort .dlink (heldPort .cycle) (inState .run)
     (s.port .dlink).exec = some (frame [] (some (.cycle, .running 500))) ∧ (frame [] (some (.cycle, .running 500))).hold = some (.cycle, .running 500)) := by
  decide

/-- LinkLoss, with the readout in CURRENT. -/
theorem test_met_LinkLoss :
    let s := (withPort .tlink upPort (inState .run)).setTacho (readout .current 0 250 480 0 0)
    (s.port .tlink).link = .up ∧ (s.port .tlink).linkTimer = .running 500 ∧ s.tacho.state = .current := by
  decide

/-- StoppedTimersChangeNothing: the state after reset, and the commands of LOAD in RUN. -/
theorem test_met_StoppedTimers :
    (inState .run).cycle.state ≠ .load ∧ State.reset.store.state = .loading ∧ State.reset.conv.pass = none ∧
    State.reset.conv.scanTimer = .stopped ∧ State.reset.tacho.ageTimer = .stopped ∧ State.reset.cycle.window = .stopped ∧
    State.reset.store.programming = false ∧ (State.reset.port .dlink).exec = none ∧ (State.reset.port .dlink).link ≠ .up ∧
    (let g := (withGauge (gauge .held 5 0 0 9 0) (inState .run)).gauges[(0 : Fin 6)]
     g.state = .held ∧ g.position ≠ g.target) := by
  decide

/-! ### Requests -/

/-- ReadRequests: a region that does not exist, one that the port may not read, indices and counts at their bounds. -/
theorem test_met_ReadRequests :
    ((withPort .dlink (fun x => { x with exec := some (frame [] none) }) (inState .run)).port .dlink).exec = some (frame [] none) ∧
    Region.ofNumber 13 = none ∧ Region.ofNumber 1 = some .signals ∧ Region.readable .control .dlink = false ∧ Region.readable .signals .dlink = true ∧
    Region.elements .signals = 64 := by
  decide

/-- ReadRequests, the elements: a gauge homed and not, a record and none, a configuration in force and none. -/
theorem test_met_ReadRequests_elements :
    (withGauge (gauge .tracking 0 0 0 0 0) State.reset).gauges[(0 : Fin 6)].state ≠ .unhomed ∧ State.reset.gauges[(0 : Fin 6)].state = .unhomed ∧
    State.reset.tacho.record = none ∧ State.reset.store.inForce = none ∧
    (State.reset.setTacho { State.reset.tacho with record := some (validateRecord []).1 }).tacho.record = some (validateRecord []).1 ∧
    (State.reset.setStore { State.reset.store with inForce := some builtInDefaults }).store.inForce = some builtInDefaults := by
  refine ⟨by decide, rfl, rfl, rfl, rfl, rfl⟩

/-- WriteRefusedWhole: a region that the port may not write, counts at their bounds, and a WATCH write whose second element marks item 113. -/
theorem test_met_WriteRefusedWhole :
    let s := withPort .dlink (fun x => { x with exec := some (frame [] none) }) (inState .run)
    (s.port .dlink).exec = some (frame [] none) ∧ Region.writable .gauges .dlink = false ∧ Region.writable .watch .dlink = true ∧
    (Region.writable .control .dlink = true ∧ 2 ≠ 1 ∧ 2 ≤ Region.elements .control) ∧
    Region.elements .watch = 15 ∧ judgeElement .watch .dlink ((13 + 0) % 15) [1] s = none ∧
    judgeElement .watch .dlink ((13 + 1) % 15) [2] s = some .range := by
  decide

/-- WriteRefusedWhole, the division: a request of each kind, a region that does not exist, and a body that ends within the data; the judgement before and
behind the settings. -/
theorem test_met_WriteRefusedWhole_division :
    (0x11 : Byte).toNat / 16 = 1 ∧ (0x21 : Byte).toNat / 16 = 2 ∧ (0x21 : Byte).toNat % 16 = 1 ∧ Region.ofNumber 1 = some .signals ∧
    ([0, 1] : List Byte).length < (1 : Byte).toNat * Region.signals.writeSize ∧ (1 : Byte).toNat * Region.signals.writeSize ≤ ([0, 1, 0] : List Byte).length ∧
    (0x30 : Byte).toNat / 16 = 3 ∧ (0x40 : Byte).toNat / 16 = 4 ∧ 4 < (0x50 : Byte).toNat / 16 ∧ 12 < (0x2D : Byte).toNat % 16 ∧
    16 ≤ RequestOutcome.length.code ∧ State.reset.lamps.settings = none ∧ (lit 0 1 .reset .reset).lamps.settings = some (lampSet 0) := by
  refine ⟨by decide, by decide, by decide, rfl, by decide, by decide, by decide, by decide, by decide, by decide, by decide, rfl, rfl⟩

/-- WritesTakeEffect: a legal write of a trip that no element of is refused, with a frame and without one; the parts' own hypotheses. -/
theorem test_met_WritesTakeEffect :
    (∀ f ∈ [none, some (frame [] none)],
      let s := withPort .dlink (fun x => { x with exec := f }) (inState .run)
      let x := s.port .dlink
      let u := writeElement .distance .dlink 2 [0, 0, 0, 0] (setPort .dlink { x with cursors := x.cursors.set Region.distance.number 3 } s)
      judgeElement .distance .dlink 2 [0, 0, 0, 0] s = none ∧ (u.port .dlink).exec = f ∧ s.cycle.state ≠ .load ∧
      s.cond .odoMismatch = s.dist.mismatch) ∧
    Region.writable .distance .dlink = true ∧ (2 + 1) % Region.elements .distance = 3 ∧ Region.writeSize .distance = 4 ∧
    Pattern.ofCode (2 : Byte).toNat = some .slow := by
  refine ⟨fun f h => ?_, by decide⟩
  rcases List.mem_pair.1 h with rfl | rfl <;> decide +kernel

/-- ChangesTakesFromHead: a legal list, a list that a notice opens, and a list with room. -/
theorem test_met_ChangesTakesFromHead :
    ((0x4F : Byte).toNat / 16 = 4) ∧
    (let s := withPort .dlink (fun x => { watching x with exec := some (frame [] none) }) (inState .run)
     (s.port .dlink).exec = some (frame [] none) ∧ (s.port .dlink).changes = [0] ∧ (frame [] none).hold = none ∧ 1 ≤ (frame [] none).room) ∧
    (let s := withPort .dlink (fun x => { watching x with changes := [], exec := some (frame [] (some (.change, .running 500))) }) (inState .run)
     (s.port .dlink).exec = some (frame [] (some (.change, .running 500))) ∧ (s.port .dlink).changes = [] ∧
     (s.port .dlink).watch[(0 : Fin 113)] = true) := by
  decide

/-- TripReset: a frame of the D-link that runs, four bytes of 0 and others, and trips and the LDC at their bounds. -/
theorem test_met_TripReset :
    (let s := withPort .dlink (fun x => { x with exec := some (frame [] none) }) (inState .run)
     (s.port .dlink).exec = some (frame [] none) ∧ (frame [] none).hold = none ∧ s.dist.tripA = 0 ∧ s.dist.tripB = 0) ∧
    ([0, 0, 0, 1] : List Byte).length = 4 ∧ ([0, 0, 0, 1] : List Byte) ≠ [0, 0, 0, 0] ∧
    ({ Distance.reset with ldc := 999999998 } : Distance).ldc + 1 ≤ 999999999 := by
  decide

/-! ### A resolved telltale unit -/

/-- A configuration whose telltales are red mandatory lamps that the D-link claims. -/
def lampConfig : Configuration :=
  { builtInDefaults with telltales := .replicate 40 lampDesc, chimes := .replicate 8 (chimeDesc 0) }

/-- In RUN under that configuration, telltale 5 written ON and resolved, with a driver fault. -/
def resolved (fault : DriverFault) (l : List Instr) : State :=
  let s := inState .run
  (settleLamps false (s.setLamps { s.lamps with
    settings := some (lampSettings lampConfig.normal)
    telltales := s.lamps.telltales.set 5 (shownOn false fault 0 .stopped .stopped) })).setPending l

/-- ResolvedKept: telltale 5 claimed, with its driver OK and in SHORT. -/
theorem test_met_ResolvedKept : ∀ fault ∈ [DriverFault.ok, .short],
    let s := resolved fault [.lampShort 5]
    LampsNormal s ∧ ClaimsResolved s ∧ LampsSettled s ∧ FailedCondition s ∧ (∃ t, step s = .next t) ∧ s.cycle.state = .run ∧
    s.lamps.telltales[(5 : Fin 40)].fault = fault ∧
    ∃ st, s.lamps.settings = some st ∧ st.telltales[(5 : Fin 40)].render = .lamp ∧ st.telltales[(5 : Fin 40)].lampClass = .mandatory ∧
      telltaleClaim s st.telltales[(5 : Fin 40)] s.lamps.telltales[(5 : Fin 40)] 0 = true := by
  intro fault h
  rcases List.mem_pair.1 h with rfl | rfl <;>
    refine ⟨fun st h => ⟨lampConfig, by cases h; rfl⟩, fun st h => ?_, fun st h => ?_, fun st h => ?_, ⟨_, rfl⟩, rfl, by decide +kernel,
      _, rfl, rfl, rfl, by decide +kernel⟩ <;> cases h <;> decide +kernel

/-- ResolvedKept, its second clause for TT0, which has an active claim by the aggregation alone (R118). -/
theorem test_met_ResolvedKept_builtIn :
    let s := resolved .ok [.lampShort 5]
    let x := s.lamps.telltales[(0 : Fin 40)]
    s.lamps.builtIn.any 0 = true ∧ x.resolved ≠ .off ∧ x.shown ≠ .off ∧ x.fault.isShort = false ∧ x.output = true ∧
    ∃ st, s.lamps.settings = some st ∧ ∀ k, telltaleClaim s st.telltales[(0 : Fin 40)] x k = false :=
  ⟨by decide +kernel, by decide +kernel, by decide +kernel, by decide +kernel, by decide +kernel, _, rfl, by decide +kernel⟩

/-- A state in which the D-link watches every item and has a frame in execution. -/
def requesting (rest : List Request) (s : State) : State :=
  withPort .dlink (fun x => { upPort x with watch := .replicate 113 true, exec := some (frame rest none) }) s

/-- ShownKept, its clauses over commands: a short of telltale 5, which its telltale shows and the D-link's list is told. -/
theorem test_met_notices :
    let s := requesting [] (resolved .ok [])
    let t := complete s (onShort 5 s)
    LampsNormal s ∧ TelltaleDiffers s.lamps.telltales[(5 : Fin 40)] t.lamps.telltales[(5 : Fin 40)] ∧
    (s.port .dlink).changes = [] ∧ (s.port .dlink).watch[telltaleItem 5] = true ∧ (t.port .dlink).changes = [telltaleItem 5] := by
  refine ⟨fun st h => ⟨lampConfig, by cases h; rfl⟩, ?_, by decide, by decide, by decide +kernel⟩
  unfold TelltaleDiffers
  decide +kernel

/-- ShownKept, its clauses over a request: a WRITE of OFF to telltale 5, with which TT0's built-in claim ends; a WRITE to
SIGNALS and one to TACHO. -/
theorem test_met_notices_request :
    (let s := requesting [.write .telltales 5 1 [0]] (resolved .ok [])
     let t := advanceFrame .dlink s
     LampsNormal s ∧ (∃ f, (s.port .dlink).exec = some f) ∧ (t.port .dlink).changes = [telltaleItem 0, telltaleItem 5] ∧
     t.lamps.telltales[(0 : Fin 40)].resolved = .off) ∧
    (∀ r ∈ [Region.signals, .tacho], (frame [.write r 0 1 []] none).rest = .write r 0 1 [] :: []) := by
  refine ⟨⟨fun st h => ⟨lampConfig, by cases h; rfl⟩, ⟨_, rfl⟩, by decide +kernel, by decide +kernel⟩, by decide⟩

/-- ShownKept, a gauge and item 112: the end of a homing run in STARTING, and a gauge then ready to show. -/
theorem test_met_notices_gauge :
    let s := withGauge (gauge .homing 2 0 0 0 2) (inState .starting)
    let t := complete s (onHoming 0 s)
    GaugeDiffers s.gauges[(0 : Fin 6)] t.gauges[(0 : Fin 6)] ∧ (restart (inState .run)).cycleView ≠ (inState .run).cycleView := by
  unfold GaugeDiffers
  decide +kernel

/-- OpenLoadJudged, its second clause, and the premises under which FlasherPhase says that no notice is raised. -/
theorem test_met_OpenLoadJudged :
    let s := resolved .ok []
    s.lamps.telltales[(5 : Fin 40)].openCheck = .running 20 ∧ LampsSettled s ∧ ClaimsResolved s ∧ FailedCondition s := by
  refine ⟨by decide +kernel, fun st h => ?_, fun st h => ?_, fun st h => ?_⟩ <;> cases h <;> decide +kernel

/-- A configuration with one repetition count and off time for every chime. -/
def chimeConfig (r off : Nat) : Configuration := { builtInDefaults with telltales := .replicate 40 lampDesc, chimes := .replicate 8 { chimeDesc r with offMs := off } }

/-- In RUN under that configuration, with chime 0 PLAYING. -/
def chiming (r off : Nat) (phase : ChimePhase) : State :=
  let s := inState .run
  s.setLamps { s.lamps with settings := some (lampSettings (chimeConfig r off).normal), chimes := s.lamps.chimes.set 0 (playing phase 0) }

/-- Its settings. -/
theorem chiming_settings (r off : Nat) (phase : ChimePhase) :
    (chiming r off phase).lamps.settings = some (lampSettings (chimeConfig r off).normal) := rfl

/-- ChimeTimes: chime 0 is PLAYING in each phase, continuous and at its last repetition, with an off time and without. -/
theorem test_met_ChimeTimes : ∀ x ∈ [(0, 200, ChimePhase.onTime), (0, 0, .onTime), (1, 0, .onTime), (0, 200, .offTime), (1, 200, .offTime)],
    let s := chiming x.1 x.2.1 x.2.2
    let d := (lampSettings (chimeConfig x.1 x.2.1).normal).chimes[(0 : Fin 8)]
    s.lamps.settings = some (lampSettings (chimeConfig x.1 x.2.1).normal) ∧
    (s.lamps.chimes[(0 : Fin 8)].state = .playing ∧ s.lamps.chimes[(0 : Fin 8)].phase = x.2.2 ∧ s.lamps.chimes[(0 : Fin 8)].count = 0 ∧
      d.offMs = x.2.1 ∧ d.repetitions = x.1) ∧
    ChimesSettled s ∧ ClaimsResolved s ∧ LampsNormal s ∧ LampsSettled s ∧ FailedCondition s := by
  intro x h
  refine ⟨rfl, ?_, ?_, ?_, fun st h => ⟨chimeConfig x.1 x.2.1, (Option.some.inj h).symm⟩, ?_, ?_⟩
  all_goals try intro st hs; rw [chiming_settings, Option.some.injEq] at hs; subst hs
  all_goals
    simp only [List.mem_cons, List.not_mem_nil, or_false] at h
    rcases h with rfl | rfl | rfl | rfl | rfl
  all_goals (try unfold Arbitrated); decide +kernel

end Sys2Proof.Tests
end

section
/-! Proofs: the slots and the selection of the signal table (R4, R5, R12 to R14, R16). -/

namespace Sys2Proof.Machine

/-! ## A slot after an update (R4, R5) -/

theorem Slot.take_value (x : Slot) (d : Descriptor) (v : Int) :
    x.take d (.value v) = { value := (d.store v).1, state := .live, age := 0, clamped := (d.store v).2, cause := .none } := rfl

theorem Slot.take_fault (x : Slot) (d : Descriptor) (c : FaultCause) :
    x.take d (.fault c) = { x with state := .fault, age := 0, cause := c } := rfl

section
variable {d : Descriptor} {v : Int}

theorem Descriptor.store_boolean (h : d.kind = .boolean) : d.store v = (if v = 0 then 0 else 1, false) := by
  simp only [Descriptor.store, h]

theorem Descriptor.store_value (h : d.kind = .value) : d.store v = (clampInt d.min d.max v, decide (v < d.min ∨ d.max < v)) := by
  simp only [Descriptor.store, h]

theorem Descriptor.store_of_lt_min (h : d.kind = .value) (hv : v < d.min) : d.store v = (d.min, true) := by
  simp [Descriptor.store_value h, clampInt, hv]

theorem Descriptor.store_of_max_lt (h : d.kind = .value) (hmin : d.min ≤ v) (hmax : d.max < v) : d.store v = (d.max, true) := by
  simp [Descriptor.store_value h, clampInt, hmax, Int.not_lt.mpr hmin]

theorem Descriptor.store_of_mem (h : d.kind = .value) (hmin : d.min ≤ v) (hmax : v ≤ d.max) : d.store v = (v, false) := by
  simp [Descriptor.store_value h, clampInt, Int.not_lt.mpr hmin, Int.not_lt.mpr hmax]

end

/-! ## Which slots serve, and the hold of the reclaim timer (R12, R16) -/

section
variable (x : Slot) (e : Entry)

theorem Timer.isRunning_iff (t : Timer) : t.isRunning = true ↔ t ≠ .stopped := by
  cases t <;> simp [Timer.isRunning]

theorem Slot.serves_iff : x.serves = true ↔ x.state = .live ∨ x.state = .stale := by
  simp [Slot.serves]

theorem Entry.alternateServes_iff : e.alternateServes = true ↔ e.desc.alternate ≠ .none ∧ e.alternate.serves = true := by
  simp [Entry.alternateServes]

/-- The reclaim timer, while it runs on, holds the serving alternate slot against the primary. -/
def Entry.held : Bool := e.view.source == .alternate && e.keptReclaim.isRunning

theorem Entry.keptReclaim_of_both (h : e.primary.serves = true ∧ e.alternateServes = true) : e.keptReclaim = e.reclaim := by
  simp [Entry.keptReclaim, h]

theorem Entry.keptReclaim_of_not_both (h : ¬ (e.primary.serves = true ∧ e.alternateServes = true)) : e.keptReclaim = .stopped := by
  unfold Entry.keptReclaim
  exact if_neg (by rwa [Bool.and_eq_true])

theorem Entry.held_iff :
    e.held = true ↔ e.view.source = .alternate ∧ e.alternateServes = true ∧ e.primary.serves = true ∧ e.reclaim ≠ .stopped := by
  rw [Entry.held, Bool.and_eq_true, beq_iff_eq, Timer.isRunning_iff]
  by_cases h : e.primary.serves = true ∧ e.alternateServes = true
  · simp [e.keptReclaim_of_both h, h]
  · rw [e.keptReclaim_of_not_both h]
    tauto

/-! ## The view that is selected (R12 to R14) -/

@[simp] theorem Entry.select_disagree : e.select.disagree = e.disagree := by
  simp only [Entry.select, apply_ite Entry.disagree, ite_self]

@[simp] theorem Entry.select_disagreement : e.select.disagreement = e.disagreement := by
  simp only [Entry.select, apply_ite Entry.disagreement, ite_self]

/-- The three outcomes of selection: the primary slot, the alternate slot, the substitute. -/
theorem Entry.select_view :
    e.select.view =
      if e.primary.serves && !e.held then e.primary.view .primary
      else if e.alternateServes then e.alternate.view .alternate
      else e.substitute := by
  unfold Entry.select
  simp only [apply_ite Entry.view]
  rfl

theorem Slot.view_of_serves {x : Slot} (source : EffSource) (h : x.serves = true) :
    x.view source =
      { value := x.value, state := if x.state = .live then .live else .stale, source := source, clamped := x.clamped } := by
  obtain hx | hx := x.serves_iff.mp h <;> simp [Slot.view, SlotState.effective, hx]

theorem Entry.select_view_primary (hp : e.primary.serves = true) (hh : ¬ e.held = true) : e.select.view = e.primary.view .primary := by
  rw [e.select_view, if_pos (by simp [hp, hh])]

theorem Entry.select_view_alternate (ha : e.alternateServes = true) (hh : e.held = true ∨ ¬ e.primary.serves = true) :
    e.select.view = e.alternate.view .alternate := by
  rw [e.select_view, if_neg (by rcases hh with h | h <;> simp [h]), if_pos ha]

theorem Entry.select_view_substitute (hp : ¬ e.primary.serves = true) (ha : ¬ e.alternateServes = true) :
    e.select.view = e.substitute := by
  rw [e.select_view, if_neg (by simp [hp]), if_neg ha]

/-! ## The state of a substitute (R13) -/

theorem Entry.substituteState_of_fault (h : e.primary.state = .fault) : e.substituteState = .fault := by
  simp only [Entry.substituteState, h]

theorem Entry.substituteState_of_lost (h : e.primary.state = .lost) : e.substituteState = .lost := by
  simp only [Entry.substituteState, h]

theorem Entry.substituteState_of_empty (h : e.primary.state = .empty) :
    e.substituteState = if e.desc.alternate = .none ∨ e.alternate.state = .empty then .none else .lost := by
  simp only [Entry.substituteState, h]

end

/-- Settles O20: every outcome of an update of a slot, and of the selection, by the lemmas above. -/
theorem selectionServes : Obligations.SelectionServes := by
  unfold Obligations.SelectionServes
  refine ⟨fun d x => ⟨fun v => ⟨?_, ?_, ?_, ?_⟩, x.take_fault d⟩, fun e => ?_⟩
  · intro hk
    rw [x.take_value, Descriptor.store_boolean hk]
  · intro hk hv
    rw [x.take_value, Descriptor.store_of_lt_min hk hv]
  · intro hk hmin hmax
    rw [x.take_value, Descriptor.store_of_max_lt hk hmin hmax]
  · intro hk hmin hmax
    rw [x.take_value, Descriptor.store_of_mem hk hmin hmax]
  · simp only [← Slot.serves_iff, ← Entry.alternateServes_iff, ← Entry.held_iff]
    refine ⟨e.select_primary, e.select_alternate, e.select_disagree, e.select_disagreement, fun h => ?_, fun h => ?_,
      fun hp hh => ?_, fun ha hh => ?_, fun hp ha => ?_⟩
    · rw [e.select_reclaim, e.keptReclaim_of_both h]
    · rw [e.select_reclaim, e.keptReclaim_of_not_both h]
    · rw [e.select_view_primary hp hh, Slot.view_of_serves .primary hp]
    · have hs : e.alternate.serves = true := (e.alternateServes_iff.mp ha).2
      rw [e.select_view_alternate ha hh, Slot.view_of_serves .alternate hs]
    · rw [e.select_view_substitute hp ha]
      refine ⟨rfl, rfl, e.substituteState_of_fault, fun h hor => ?_, fun h hd hs => ?_, e.substituteState_of_lost, rfl⟩
      · exact (e.substituteState_of_empty h).trans (if_pos hor)
      · exact (e.substituteState_of_empty h).trans (if_neg (not_or.mpr ⟨hd, hs⟩))

end Sys2Proof.Machine
end

section
/-! Proofs: the rate of a gate window in every case, and the state it carries into the next window (R33 to R40). -/

namespace Sys2Proof.Machine

/-! ## One equation per case of an expiry (R32) -/

section
variable {st : PulseSettings} {now prev first last : Stamp} {x : PulseChannel}

theorem PulseChannel.noisy_iff : x.noisy = true ↔ x.n < x.rejected ∧ 4 < x.rejected := by
  simp only [PulseChannel.noisy, decide_eq_true_eq]

theorem PulseChannel.expire_of_noisy (h : x.noisy = true) : x.expire st now = .cleared (.fault .noise) := by
  unfold PulseChannel.expire
  exact if_pos h

/-- Case A: the span reaches back to the last edge of an earlier window, so each of the `n` edges closes an interval. -/
theorem PulseChannel.expire_of_prev (h : ¬ x.noisy = true) (hn : 1 ≤ x.n) (hp : x.tPrev = some prev) (hl : x.tLast = some last) :
    x.expire st now = .rate (st.flush (st.rate x.n (since last prev))) (some last) := by
  have hn0 : x.n ≠ 0 := Nat.one_le_iff_ne_zero.mp hn
  simp only [PulseChannel.expire, if_neg h, if_neg hn0, hp, hl]

/-- Case B: without an earlier edge, the first edge of the window closes no interval. -/
theorem PulseChannel.expire_of_first (h : ¬ x.noisy = true) (hn : 2 ≤ x.n) (hp : x.tPrev = none) (hf : x.tFirst = some first)
    (hl : x.tLast = some last) : x.expire st now = .rate (st.flush (st.rate (x.n - 1) (since last first))) (some last) := by
  have hn0 : x.n ≠ 0 := Nat.ne_zero_of_lt hn
  simp only [PulseChannel.expire, if_neg h, if_neg hn0, if_pos hn, hp, hf, hl]

/-- Case B′: a single edge closes no interval, whether or not `tFirst` records it too. -/
theorem PulseChannel.expire_of_single (h : ¬ x.noisy = true) (hn : x.n = 1) (hp : x.tPrev = none) (hl : x.tLast = some last) :
    x.expire st now = .rate x.current (some last) := by
  have hn0 : x.n ≠ 0 := by omega
  have hn2 : ¬ 2 ≤ x.n := by omega
  cases hf : x.tFirst with
  | none => simp only [PulseChannel.expire, if_neg h, if_neg hn0, hp, hf, hl]
  | some first => simp only [PulseChannel.expire, if_neg h, if_neg hn0, if_neg hn2, hp, hf, hl]

/-- Case C, timed out: an absent previous edge counts as one that is too old. -/
theorem PulseChannel.expire_of_timedOut (h : ¬ x.noisy = true) (hn : x.n = 0)
    (ht : ∀ prev, x.tPrev = some prev → st.zeroTimeoutMs * 1000 ≤ since now prev) : x.expire st now = .cleared (.value 0) := by
  cases hp : x.tPrev with
  | none => simp only [PulseChannel.expire, if_neg h, if_pos hn, hp]
  | some prev => simp only [PulseChannel.expire, if_neg h, if_pos hn, hp, if_pos (ht prev hp)]

/-- Case C, decaying: the bound is the rate that an edge at this instant would give. -/
theorem PulseChannel.expire_of_decaying (h : ¬ x.noisy = true) (hn : x.n = 0) (hp : x.tPrev = some prev)
    (ht : since now prev < st.zeroTimeoutMs * 1000) :
    x.expire st now =
      { update := .value (st.flush (min x.current (st.rate 1 (since now prev))))
        current := st.flush (min x.current (st.rate 1 (since now prev))), tPrev := some prev, spacingRef := x.spacingRef } := by
  simp only [PulseChannel.expire, if_neg h, if_pos hn, hp, if_neg (Nat.not_le.mpr ht)]

end

/-- The bound of a decaying window, with its single interval written as the constant alone (R37). -/
theorem PulseSettings.rate_one (st : PulseSettings) (span : Nat) :
    st.rate 1 span = roundHalfUp st.kind.constant (span * st.scale * st.edges.perPulse) := by
  rw [PulseSettings.rate, Nat.one_mul]

/-- Settles O23: one case of the expiry after the other, by the equations above. -/
theorem windowCases : Obligations.WindowCases := by
  unfold Obligations.WindowCases
  intro st now x rate
  rw [← PulseChannel.noisy_iff]
  refine ⟨PulseChannel.expire_of_noisy, fun h => ⟨?caseA, ?caseB, ?caseB', ?timedOut, ?decaying⟩, fun _ => rfl, ?constant, ?perPulse⟩
  case caseA => exact fun _ _ hn hp hl => PulseChannel.expire_of_prev h hn hp hl
  case caseB => exact fun _ _ hn hp hf hl => PulseChannel.expire_of_first h hn hp hf hl
  case caseB' => exact fun _ hn hp hl => PulseChannel.expire_of_single h hn hp hl
  case timedOut => exact PulseChannel.expire_of_timedOut h
  case decaying =>
    intro prev hn hp ht
    rw [PulseChannel.expire_of_decaying h hn hp ht, st.rate_one]
    rfl
  case constant => cases st.kind <;> rfl
  case perPulse => cases st.edges <;> rfl

end Sys2Proof.Machine
end

section
/-! Proofs: the distance counter (R45 to R48): one equation for a step, the pulses of an edge, and the trips over many steps. -/

namespace Sys2Proof.Machine

section
variable (d : Distance)

/-! ## A step (R47, R48) -/

/-- A step in one equation: the LDC gates itself and the trips, the odometer's state gates the odometer. -/
theorem Distance.step_eq :
    d.step =
      { d with
        ldc := if d.ldc < distanceTop then d.ldc + 1 else d.ldc
        tripA := if d.ldc < distanceTop then tripStep d.tripA else d.tripA
        tripB := if d.ldc < distanceTop then tripStep d.tripB else d.tripB
        odo := if d.odoState = .unknown then d.odo else min distanceTop (d.odo + 1) } := by
  obtain ⟨_, _, _, ldc, _, _, _, state, _, _⟩ := d
  unfold Distance.step
  by_cases h : ldc < distanceTop <;> cases state <;> simp [h]

@[simp] theorem Distance.step_odo : d.step.odo = if d.odoState = .unknown then d.odo else min distanceTop (d.odo + 1) := by rw [d.step_eq]
@[simp] theorem Distance.step_odoState : d.step.odoState = d.odoState := by rw [d.step_eq]
@[simp] theorem Distance.step_mismatch : d.step.mismatch = d.mismatch := by rw [d.step_eq]
@[simp] theorem Distance.step_residue : d.step.residue = d.residue := by rw [d.step_eq]
@[simp] theorem Distance.step_parityOdd : d.step.parityOdd = d.parityOdd := by rw [d.step_eq]
@[simp] theorem Distance.step_stepSize : d.step.stepSize = d.stepSize := by rw [d.step_eq]
@[simp] theorem Distance.step_tolerance : d.step.tolerance = d.tolerance := by rw [d.step_eq]

variable {d}

/-- Below the top of the LDC a step counts in the LDC and in both trips. -/
theorem Distance.step_counts (h : d.ldc < distanceTop) :
    d.step.ldc = d.ldc + 1 ∧ d.step.tripA = tripStep d.tripA ∧ d.step.tripB = tripStep d.tripB := by
  rw [d.step_eq]
  exact ⟨if_pos h, if_pos h, if_pos h⟩

/-- At the top of the LDC a step counts in none of the three. -/
theorem Distance.step_stands (h : distanceTop ≤ d.ldc) :
    d.step.ldc = d.ldc ∧ d.step.tripA = d.tripA ∧ d.step.tripB = d.tripB := by
  rw [d.step_eq]
  exact ⟨if_neg (Nat.not_lt.mpr h), if_neg (Nat.not_lt.mpr h), if_neg (Nat.not_lt.mpr h)⟩

theorem tripStep_of_lt {t : Nat} (h : t < 1000000) : tripStep t = if t = 999999 then 0 else t + 1 := by
  unfold tripStep
  split <;> omega

/-! ## Many steps (R47) -/

/-- While the LDC stays below its top, `n` steps advance it by `n`, and each trip by `n` with its wrap. -/
theorem Distance.iterate_step_counts (n : Nat) (h : d.ldc + n ≤ distanceTop) :
    (Distance.step^[n] d).ldc = d.ldc + n ∧
    (d.tripA < 1000000 → (Distance.step^[n] d).tripA = (d.tripA + n) % 1000000) ∧
    (d.tripB < 1000000 → (Distance.step^[n] d).tripB = (d.tripB + n) % 1000000) := by
  induction n with
  | zero => exact ⟨rfl, fun ha => (Nat.mod_eq_of_lt ha).symm, fun hb => (Nat.mod_eq_of_lt hb).symm⟩
  | succ n ih =>
    obtain ⟨ihLdc, ihA, ihB⟩ := ih (by omega)
    obtain ⟨hLdc, hA, hB⟩ := Distance.step_counts (d := Distance.step^[n] d) (by omega)
    rw [Function.iterate_succ_apply']
    refine ⟨by omega, fun ha => ?_, fun hb => ?_⟩
    · rw [hA, ihA ha, tripStep, Nat.mod_add_mod, Nat.add_assoc]
    · rw [hB, ihB hb, tripStep, Nat.mod_add_mod, Nat.add_assoc]

/-! ## Pulses and edges (R45, R46) -/

/-- Below the step size a pulse adds to the residue alone. -/
theorem Distance.pulse_of_lt (h : d.residue + 10 < d.stepSize) : d.pulse = { d with residue := d.residue + 10 } :=
  if_neg (Nat.not_le.mpr h)

/-- At the step size a pulse takes a step and carries the rest of the residue. -/
theorem Distance.pulse_of_le (h : d.stepSize ≤ d.residue + 10) :
    d.pulse = Distance.step { d with residue := d.residue + 10 - d.stepSize } := if_pos h

theorem Distance.edge_single : d.edge false = d.pulse := rfl

theorem Distance.edge_both_even (h : d.parityOdd = false) : d.edge true = { d with parityOdd := true } := by
  simp [Distance.edge, h]

theorem Distance.edge_both_odd (h : d.parityOdd = true) : d.edge true = Distance.pulse { d with parityOdd := false } := by
  simp [Distance.edge, h]

/-! ## A tachograph odometer (R50, R51) -/

theorem Distance.adopt_unknown (T : Nat) (h : d.odoState = .unknown) : d.adopt T = { d with odo := T, odoState := .tracked } := by
  simp only [Distance.adopt, h]

/-- Once the odometer is known, it takes the greater figure, and the mark tells whether the two lie further apart than the tolerance. -/
theorem Distance.adopt_known (T : Nat) (h : d.odoState ≠ .unknown) :
    d.adopt T =
      { d with
        odo := max d.odo T
        odoState := .tracked
        mismatch := decide (d.tolerance < max d.odo T - min d.odo T) } := by
  unfold Distance.adopt
  cases hs : d.odoState with
  | unknown => exact absurd hs h
  | seeded | tracked => rfl

end

/-- Settles O22: the equations above for an edge, a pulse and a step; a figure or a seed that comes to UNKNOWN replaces the odometer. -/
theorem pulsesAndSteps : Obligations.PulsesAndSteps := by
  unfold Obligations.PulsesAndSteps
  refine ⟨fun d => ⟨Distance.edge_single, Distance.edge_both_even, Distance.edge_both_odd, Distance.pulse_of_lt, Distance.pulse_of_le⟩,
    fun d => ⟨?odo, d.step_odoState, d.step_mismatch, d.step_residue, d.step_parityOdd, d.step_stepSize, d.step_tolerance, ?below, ?top⟩,
    fun d v h => ⟨?adopted, rfl⟩⟩
  case odo =>
    rw [d.step_odo, distanceTop]
    cases d.odoState with
    | unknown => rfl
    | seeded | tracked =>
      simp only [reduceCtorEq, if_false]
      split <;> omega
  case below =>
    intro h
    obtain ⟨hLdc, hA, hB⟩ := Distance.step_counts h
    exact ⟨hLdc, fun ha => hA.trans (tripStep_of_lt ha), fun hb => hB.trans (tripStep_of_lt hb)⟩
  case top => exact Distance.step_stands
  case adopted => rw [Distance.adopt_unknown v (d.step_odoState.trans h)]

end Sys2Proof.Machine
end

section
/-! Proofs: the odometer never falls but at a power-on reset (R49 to R51), from the distance counter through every operation that reaches it to
the step of the part. -/

namespace Sys2Proof.Machine

/-! ## The odometer's advance at the distance counter -/

/-- The odometer's range, and 0 with the mark clear while it is UNKNOWN: `OdometerLegal`, said of the distance counter. -/
def Distance.OdoLegal (d : Distance) : Prop :=
  d.odo ≤ distanceTop ∧ (d.odoState = .unknown → d.odo = 0 ∧ d.mismatch = false)

theorem odometerLegal_iff (s : State) : OdometerLegal s ↔ s.dist.OdoLegal := Iff.rfl

/-- From `d` to `e` a legal odometer stays legal and does not fall. -/
structure Distance.Advances (d e : Distance) : Prop where
  legal : d.OdoLegal → e.OdoLegal
  rises : d.OdoLegal → d.odo ≤ e.odo

section
variable {d e f : Distance}

theorem Distance.Advances.refl (d : Distance) : d.Advances d := ⟨id, fun _ => le_rfl⟩

theorem Distance.Advances.trans (a : d.Advances e) (b : e.Advances f) : d.Advances f :=
  ⟨b.legal ∘ a.legal, fun h => (a.rises h).trans (b.rises (a.legal h))⟩

theorem Distance.Advances.of_eq (h : e = d) : d.Advances e := h ▸ .refl d

/-- The odometer, its state and its mark kept. -/
theorem Distance.Advances.of_odo (ho : e.odo = d.odo) (hs : e.odoState = d.odoState) (hm : e.mismatch = d.mismatch) : d.Advances e := by
  refine ⟨fun h => ?_, fun _ => ho.ge⟩
  rwa [Distance.OdoLegal, ho, hs, hm]

/-- An odometer that is known afterwards: within its range and not below what it was. -/
theorem Distance.Advances.of_known (hs : e.odoState ≠ .unknown) (hr : d.odo ≤ distanceTop → d.odo ≤ e.odo ∧ e.odo ≤ distanceTop) :
    d.Advances e := ⟨fun ⟨h, _⟩ => ⟨(hr h).2, fun hu => absurd hu hs⟩, fun ⟨h, _⟩ => (hr h).1⟩

/-- An odometer that UNKNOWN, which stands at 0, gives a figure within the range. -/
theorem Distance.Advances.of_unknown (hd : d.odoState = .unknown) (hs : e.odoState ≠ .unknown) (hr : e.odo ≤ distanceTop) : d.Advances e :=
  ⟨fun _ => ⟨hr, fun hu => absurd hu hs⟩, fun ⟨_, h⟩ => (h hd).1 ▸ e.odo.zero_le⟩

theorem Distance.advances_step (d : Distance) : d.Advances d.step := by
  by_cases hs : d.odoState = .unknown
  · exact .of_odo (by rw [d.step_odo, if_pos hs]) d.step_odoState d.step_mismatch
  · refine .of_known (by rwa [d.step_odoState]) fun hr => ?_
    rw [d.step_odo, if_neg hs]
    omega

theorem Distance.advances_pulse (d : Distance) : d.Advances d.pulse := by
  rcases Nat.lt_or_ge (d.residue + 10) d.stepSize with h | h
  · rw [Distance.pulse_of_lt h]
    exact .of_odo rfl rfl rfl
  · rw [Distance.pulse_of_le h]
    exact .trans (e := { d with residue := d.residue + 10 - d.stepSize }) (.of_odo rfl rfl rfl) (Distance.advances_step _)

theorem Distance.advances_edge (both : Bool) (d : Distance) : d.Advances (d.edge both) := by
  cases both with
  | false => exact d.advances_pulse
  | true =>
    cases h : d.parityOdd with
    | false =>
      rw [Distance.edge_both_even h]
      exact .of_odo rfl rfl rfl
    | true =>
      rw [Distance.edge_both_odd h]
      exact .trans (e := { d with parityOdd := false }) (.of_odo rfl rfl rfl) (Distance.advances_pulse _)

/-- A figure within the range: UNKNOWN stands at 0, and a known odometer takes the greater of the two. -/
theorem Distance.advances_adopt {T : Nat} (hT : T ≤ distanceTop) (d : Distance) : d.Advances (d.adopt T) := by
  by_cases hs : d.odoState = .unknown
  · rw [Distance.adopt_unknown T hs]
    exact .of_unknown hs nofun hT
  · rw [Distance.adopt_known T hs]
    exact .of_known nofun fun hr => ⟨le_max_left .., max_le hr hT⟩

/-- A seed is accepted in UNKNOWN alone, where the odometer stands at 0. -/
theorem Distance.advances_seed {v : Nat} (hs : d.odoState = .unknown) (hv : v ≤ distanceTop) : d.Advances (d.seed v) :=
  .of_unknown hs nofun hv

theorem Distance.advances_takeStepSize (k : Nat) (d : Distance) : d.Advances (d.takeStepSize k) := .of_odo rfl rfl rfl

@[simp] theorem Distance.pulse_mismatch (d : Distance) : d.pulse.mismatch = d.mismatch := by
  rcases Nat.lt_or_ge (d.residue + 10) d.stepSize with h | h
  · rw [Distance.pulse_of_lt h]
  · rw [Distance.pulse_of_le h, Distance.step_mismatch]

@[simp] theorem Distance.edge_mismatch (both : Bool) (d : Distance) : (d.edge both).mismatch = d.mismatch := by
  cases both with
  | false => exact d.pulse_mismatch
  | true =>
    cases h : d.parityOdd with
    | false => rw [Distance.edge_both_even h]
    | true => rw [Distance.edge_both_odd h, Distance.pulse_mismatch]

end

/-! ## Operations that leave the distance counter -/

section
variable (s : State)

@[simp] theorem putDistance_dist (d : Distance) : (putDistance d s).dist = d := by
  unfold putDistance
  dsimp only
  split <;> rfl

@[simp] theorem finishEvent_dist (before : State) : (finishEvent before s).dist = s.dist := (steady_finishEvent before s).dist

@[simp] theorem pushResult_dist (p : Port) (o : RequestOutcome) (n : Nat) (data : List Byte) : (pushResult p o n data s).dist = s.dist := by
  unfold pushResult
  dsimp only
  split <;> rfl

/-! ### Signal table, switch bank, gauges, telltale unit and cycle controller -/

theorem steady_ageTable : Steady s (ageTable s) := (ageTable_spec s).1.steady

theorem steady_forceLost (p : Port) : Steady s (forceLost p s) := (forceLost_spec p s).1.steady

theorem steady_recompute (before : Entry) (b : Bool) (i : Fin 64) : Steady s (recompute before b i s) :=
  ((EntryBecomes.refl i s).recompute before b).table.steady

theorem steady_reclaimExpiry (i : Fin 64) : Steady s (reclaimExpiry i s) :=
  steady_ite (fun _ => (steady_setSignals s _).trans (steady_recompute ..)) (fun _ => .refl s)

theorem steady_disagreementExpiry (i : Fin 64) : Steady s (disagreementExpiry i s) := by
  unfold disagreementExpiry
  dsimp only
  split
  · exact (steady_setSignals s _).trans (steady_recompute ..)
  · exact .refl s
  · exact .refl s

theorem steady_onRawLevel (i : Fin 24) (l : Level) : Steady s (onRawLevel i l s) := by
  refine steady_ite (fun _ => .refl s) (fun _ => ?_)
  split <;> exact steady_setInput ..

theorem steady_onDebounce (i : Fin 24) : Steady s (onDebounce i s) := by
  unfold onDebounce
  split
  · exact steady_ite (fun _ => steady_debounceExpiry ..) (fun _ => .refl s)
  · exact .refl s

theorem steady_onFlasher (which : Flasher) : Steady s (onFlasher which s) := by
  cases which <;> exact steady_setLamps s _

theorem steady_onOpenCheck (i : Fin 40) (current : Nat) : Steady s (onOpenCheck i current s) :=
  steady_ite (fun _ => steady_putTelltale ..) (fun _ => .refl s)

theorem steady_onShort (i : Fin 40) : Steady s (onShort i s) := steady_ite (fun _ => steady_putTelltale ..) (fun _ => .refl s)

theorem steady_onRetry (i : Fin 40) (shorted : Bool) : Steady s (onRetry i shorted s) :=
  steady_ite (fun _ => (steady_putTelltale ..).trans (steady_raiseItem ..)) (fun _ => .refl s)

theorem steady_onBulbCheck : Steady s (onBulbCheck s) :=
  steady_ite (fun _ => (steady_setCycle s _).trans (steady_judgePassage _)) (fun _ => .refl s)

/-! ### Sender converter -/

theorem steady_onScanTimer : Steady s (onScanTimer s) := steady_ite (fun _ => steady_beginPass ..) (fun _ => .refl s)

theorem steady_onParkedTimer : Steady s (onParkedTimer s) :=
  steady_ite (fun _ => (steady_beginPass ..).trans (steady_renewParkedTimer _)) (fun _ => .refl s)

theorem steady_onSettled : Steady s (onSettled s) := by
  unfold onSettled
  split
  · exact steady_ite (fun _ => steady_setPass ..) (fun _ => .refl s)
  · exact .refl s

@[simp] theorem endTests_dist (p : Pass) (zero full : AdcCode) : (endTests p zero full s).dist = s.dist := by
  unfold endTests
  split
  · rfl
  · exact (steady_foldl _ (fun s i => steady_deliverTestFail i s) p.todo (setCond .adcTestFail true s)).dist

@[simp] theorem onTestsDone_dist (zero full : AdcCode) : (onTestsDone zero full s).dist = s.dist := by
  unfold onTestsDone
  split
  · split
    · exact endTests_dist ..
    · rfl
  · rfl

@[simp] theorem changeSupply_dist (new : Supply) (n : Nat) : (changeSupply new n s).dist = s.dist := by
  unfold changeSupply
  dsimp only
  split
  · exact (steady_forGauges (fun _ g => g.hold_settings _) _).dist
  · split
    · exact (steady_forGauges (fun v g => g.resume_settings _ v) _).dist
    · rfl

@[simp] theorem supplyJudgement_dist (v : Int) : (supplyJudgement v s).dist = s.dist := changeSupply_dist ..

@[simp] theorem scanResult_dist (st : ConverterSettings) (parked : Bool) (i : Fin 16) (d : ScanSlot) (avg : Nat) :
    (scanResult st parked i d avg s).dist = s.dist := by
  have clearedFault (c : FaultCause) : (deliver (.analog d.channel) (.fault c) (clearRefuel i s)).dist = s.dist :=
    ((steady_clearRefuel i s).trans (steady_deliver ..)).dist
  have delivered (z : ScanState) (v : Int) : (deliver (.analog d.channel) (.value v) (setScanState i z s)).dist = s.dist :=
    ((steady_setScanState i z s).trans (steady_deliver ..)).dist
  unfold scanResult
  split
  case isTrue => rfl
  case isFalse =>
    split
    case h_1 cause _ =>
      dsimp only
      split
      · exact (steady_addWakeCause ..).dist.trans (clearedFault cause)
      · exact clearedFault cause
    case h_2 =>
      split
      · exact clearedFault .curve
      · dsimp only
        split
        · rw [supplyJudgement_dist, delivered]
        · exact delivered ..

@[simp] theorem takeConversion_dist (p : Pass) (i : Fin 16) (code sum taken : Nat) : (takeConversion p i code sum taken s).dist = s.dist := by
  unfold takeConversion
  split
  · split
    · rfl
    · exact scanResult_dist ..
  · rfl
  · rfl

@[simp] theorem onConversion_dist (code : AdcCode) : (onConversion code s).dist = s.dist := by
  unfold onConversion
  split
  · unfold endConversion
    split
    · rfl
    · exact takeConversion_dist ..
    all_goals rfl
  · rfl

/-! ### Tachograph readout -/

@[simp] theorem judgeDriving_dist (st : ReadoutSettings) : (judgeDriving st s).dist = s.dist := rfl
@[simp] theorem judgeStale_dist : (judgeStale s).dist = s.dist := rfl
@[simp] theorem reportTacho_dist : (reportTacho s).dist = s.dist := (steady_settleUnits true s).dist
@[simp] theorem becomeCurrent_dist (st : ReadoutSettings) (r : TachoRecord) : (becomeCurrent st r s).dist = s.dist := by
  simp only [becomeCurrent, judgeRecord, judgeStale_dist, setCond_dist, judgeDriving_dist, State.setTacho_dist]

@[simp] theorem enterEstimated_dist : (enterEstimated s).dist = s.dist := reportTacho_dist _

@[simp] theorem onRecordAge_dist : (onRecordAge s).dist = s.dist := by
  unfold onRecordAge
  split
  · unfold recordAgeExpiry
    simp [apply_ite State.dist]
  · rfl

@[simp] theorem onEstimation_dist : (onEstimation s).dist = s.dist := by
  unfold onEstimation
  split
  · unfold estimationExpiry
    simp [apply_ite State.dist]
  · rfl

@[simp] theorem readoutLinkLoss_dist : (readoutLinkLoss s).dist = s.dist := by
  unfold readoutLinkLoss
  split
  · exact reportTacho_dist _
  · exact reportTacho_dist _
  · rfl
  · rfl

@[simp] theorem takeReadoutSettings_dist (c : Configuration) : (takeReadoutSettings c s).dist = s.dist := by
  unfold takeReadoutSettings
  simp [apply_ite State.dist]

/-! ### Links -/

@[simp] theorem acceptFrame_dist (p : Port) (n : Byte) (body : List Byte) : (acceptFrame p n body s).dist = s.dist := by
  unfold acceptFrame
  simp [apply_ite State.dist]

@[simp] theorem badFrame_dist (p : Port) (o : FrameStatus) (n : Byte) : (badFrame p o n s).dist = s.dist := rfl
@[simp] theorem busyFrame_dist (p : Port) : (busyFrame p s).dist = s.dist := rfl

@[simp] theorem takeVerdict_dist (p : Port) (v : Verdict) : (takeVerdict p v s).dist = s.dist := by
  cases v with
  | good n body => exact acceptFrame_dist ..
  | bad o n => rfl

@[simp] theorem frameArrived_dist (p : Port) (v : Verdict) : (frameArrived p v s).dist = s.dist := by
  unfold frameArrived
  simp [apply_ite State.dist]

@[simp] theorem openPeriod_dist (p : Port) : (openPeriod p s).dist = s.dist := by
  unfold openPeriod
  dsimp only
  split <;> rfl

@[simp] theorem endPeriod_dist (p : Port) (bytes : List Byte) : (endPeriod p bytes s).dist = s.dist := by
  unfold endPeriod
  dsimp only
  split
  · rfl
  · split
    · exact frameArrived_dist ..
    · rfl

@[simp] theorem tlinkFrame_dist (began : Bool) (v : Verdict) (next : Receiver) : (tlinkFrame began v next s).dist = s.dist := by
  unfold tlinkFrame
  simp [apply_ite State.dist]

@[simp] theorem tlinkFrameByte_dist (bs : List Byte) (began : Bool) (b : Byte) (stopBit : Bool) :
    (tlinkFrameByte bs began b stopBit s).dist = s.dist := by
  unfold tlinkFrameByte
  simp [apply_ite State.dist]

@[simp] theorem tlinkOpening_dist (b : Byte) (stopBit : Bool) : (tlinkOpening b stopBit s).dist = s.dist := by
  unfold tlinkOpening
  simp [apply_ite State.dist]

@[simp] theorem tlinkByte_dist (b : Byte) (stopBit : Bool) : (tlinkByte b stopBit s).dist = s.dist := by
  unfold tlinkByte
  split
  · exact tlinkOpening_dist ..
  · exact tlinkFrameByte_dist ..
  · rfl

@[simp] theorem tlinkGap_dist : (tlinkGap s).dist = s.dist := by
  unfold tlinkGap
  split
  · rfl
  · exact tlinkFrame_dist ..
  · rfl

@[simp] theorem loseLink_dist (p : Port) : (loseLink p s).dist = s.dist := by
  unfold loseLink
  simp [apply_ite State.dist, (steady_clearPortClaims ..).dist, (steady_forceLost ..).dist]

@[simp] theorem linkExpiry_dist (p : Port) : (linkExpiry p s).dist = s.dist := by
  unfold linkExpiry
  simp [apply_ite State.dist]

end

/-! ## Operations that reach the odometer, or other parts of the distance counter -/

section
variable (s : State)

/-- A loop of which no step lets the odometer fall. -/
theorem advances_foldl {α : Type} (f : State → α → State) (h : ∀ (s : State) (i : α), s.dist.Advances (f s i).dist) (l : List α) :
    s.dist.Advances (l.foldl f s).dist :=
  foldl_rel (R := fun s t => s.dist.Advances t.dist) (fun _ => .refl _) (fun _ _ _ => .trans) f h l s

/-! ### Pulse unit -/

theorem advances_takePulseSettings (c : Fin 4) (st : PulseSettings) : s.dist.Advances (takePulseSettings c st s).dist := by
  unfold takePulseSettings
  dsimp only
  split
  · rw [putDistance_dist]
    exact s.dist.advances_takeStepSize _
  · exact .refl _

theorem advances_takeOverPulse (c : Fin 4) : s.dist.Advances (takeOverPulse c s).dist := by
  unfold takeOverPulse
  split
  · exact advances_takePulseSettings ..
  · exact .refl _

theorem advances_firstGateStart (cfg : Configuration) (c : Fin 4) : s.dist.Advances (firstGateStart cfg c s).dist := by
  rw [firstGateStart, (steady_startGate ..).dist]
  exact advances_takePulseSettings ..

theorem advances_gateExpiry (c : Fin 4) (st : PulseSettings) : s.dist.Advances (gateExpiry c st s).dist := by
  unfold gateExpiry
  dsimp only
  rw [(steady_startGate ..).dist]
  refine .trans (.of_eq ?_) (advances_takeOverPulse ..)
  simp [apply_ite State.dist, (steady_deliver ..).dist]

theorem advances_onGate (c : Fin 4) : s.dist.Advances (onGate c s).dist := by
  unfold onGate
  split
  · exact advances_gateExpiry ..
  · exact .refl _

theorem advances_capturedEdge (c : Fin 4) (st : PulseSettings) : s.dist.Advances (capturedEdge c st s).dist := by
  unfold capturedEdge
  dsimp only
  split
  · split
    · rw [putDistance_dist]
      exact s.dist.advances_edge _
    · exact .refl _
  · exact .refl _

theorem advances_onEdge (c : Fin 4) (edge : EdgeKind) : s.dist.Advances (onEdge c edge s).dist := by
  unfold onEdge
  split
  · split
    · exact advances_capturedEdge ..
    · exact .refl _
  · exact .refl _

/-! ### Resets, the configuration load and the end of a commit -/

theorem advances_restart : s.dist.Advances (restart s).dist := .of_odo rfl rfl rfl

theorem advances_requestRestart : s.dist.Advances (requestRestart s).dist := by
  unfold requestRestart
  split
  · exact .refl _
  · exact advances_restart s

theorem advances_takeAllSettings (c : Configuration) : s.dist.Advances (takeAllSettings c s).dist := by
  have gates := advances_foldl (takeWindowLength c s) (fun s i => firstGateStart c i s) (fun s i => advances_firstGateStart s c i) (List.finRange 4)
  refine gates.trans (.of_eq ?_)
  unfold takeAllSettings
  simp only [startLinkTimers, takeTimeouts, mapPorts_dist, State.setPorts_dist, takeReadoutSettings_dist, (steady_takeLampSettings ..).dist,
    takeGaugeSettings, State.setGauges_dist, takeSwitchSettings, State.setSwitches_dist, (steady_takeConverterSettings ..).dist]
  rfl

theorem steady_leaveLoad : Steady s (leaveLoad s) := steady_ite (fun _ => steady_enterStarting s) (fun _ => steady_enterParked s)

theorem advances_loadExit : s.dist.Advances (loadExit s).dist := by
  unfold loadExit
  split
  · rw [(steady_settleUnits ..).dist, (steady_leaveLoad _).dist]
    exact advances_takeAllSettings ..
  · exact .refl _

theorem advances_loadImage : s.dist.Advances (loadImage s).dist := by
  unfold loadImage takeLoaded
  dsimp only
  split
  · exact .of_odo rfl rfl rfl
  · exact .refl _

theorem advances_onLoadComplete : s.dist.Advances (onLoadComplete s).dist := by
  unfold onLoadComplete
  split
  · exact (advances_loadImage s).trans (advances_loadExit _)
  · exact .refl _

theorem advances_onRestartLoadEnd : s.dist.Advances (onRestartLoadEnd s).dist := by
  unfold onRestartLoadEnd
  split
  · exact advances_loadExit s
  · exact .refl _

theorem handConfiguration_dist (c : Configuration) : (handConfiguration c s).dist = { s.dist with tolerance := c.odoTolerance } := by
  unfold handConfiguration
  simp only [(steady_setTakeOvers _).dist, takeWindowLength, takeTimeouts, State.setCycle_dist, State.setPorts_dist, takeReadoutSettings_dist,
    (steady_commitGauges ..).dist, (steady_settleUnits ..).dist, (steady_commitLampSettings ..).dist, (steady_commitSwitches ..).dist,
    State.setDist_dist, (steady_noticeAllEntries _).dist, emptyTable, State.setSignals_dist]

@[simp] theorem putInForce_dist (c : Configuration) : (putInForce c s).dist = s.dist := rfl
@[simp] theorem closeCommit_dist : (closeCommit s).dist = s.dist := rfl

theorem advances_afterCommit : s.dist.Advances (afterCommit s).dist := by
  unfold afterCommit
  split
  · exact advances_restart s
  · split
    · exact .of_eq (steady_enterStarting s).dist
    · exact .refl _

theorem advances_onCommitEnd : s.dist.Advances (onCommitEnd s).dist := by
  unfold onCommitEnd
  split
  · unfold commitEnd
    split
    · next c _ =>
      have handed : s.dist.Advances (closeCommit (handConfiguration c.normal (putInForce c s))).dist := by
        rw [closeCommit_dist, handConfiguration_dist, putInForce_dist]
        exact .of_odo rfl rfl rfl
      exact handed.trans (advances_afterCommit _)
    · exact .refl _
  · exact .refl _

/-! ### Tachograph records (R50, R51) -/

theorem validateRecord_odometer_le (data : List Byte) : (validateRecord data).1.odometer ≤ distanceTop := Nat.min_le_left ..

theorem recordArrival_dist (rec : TachoRecord) :
    (recordArrival rec s).dist = if s.tacho.settings = none then s.dist else s.dist.adopt rec.odometer := by
  unfold recordArrival
  split
  · next h => rw [h, if_pos rfl]
  · next st h =>
    rw [h, if_neg nofun]
    simp [(steady_deliverTo ..).dist, storeRecord]

theorem advances_recordArrival {rec : TachoRecord} (h : rec.odometer ≤ distanceTop) : s.dist.Advances (recordArrival rec s).dist := by
  rw [recordArrival_dist]
  split
  · exact .refl _
  · exact s.dist.advances_adopt h

end

/-! ### Requests (R49, R54, R169, R171) -/

section
variable (s : State)

/-- An element of DISTANCE but element 0 leaves the odometer alone. -/
theorem writeDistance_odo {i : Nat} (h : i ≠ 0) (v : Nat) :
    (writeDistance i v s).dist.odo = s.dist.odo ∧ (writeDistance i v s).dist.odoState = s.dist.odoState ∧
      (writeDistance i v s).dist.mismatch = s.dist.mismatch := by
  unfold writeDistance
  dsimp only
  rw [putDistance_dist, if_neg h]
  split <;> exact ⟨rfl, rfl, rfl⟩

theorem writeDistance_seed_dist (v : Nat) : (writeDistance 0 v s).dist = s.dist.seed v := putDistance_dist ..

/-- A seed that R49 accepts comes to UNKNOWN, within the range. -/
theorem judgeDistance_seed {d : Distance} {data : List Byte} (h : judgeDistance d 0 data = none) :
    d.odoState = .unknown ∧ longAt data 0 ≤ distanceTop := by
  simpa [judgeDistance, refuseIf, Option.or_eq_none_iff] using h

/-- The DISTANCE elements of a WRITE in turn: element 0 stands among them at most once, and the others leave what its judgement rests on. -/
theorem advances_writeDistances (p : Port) :
    ∀ (items : List (Nat × List Byte)) (s : State), (items.map Prod.fst).Nodup →
      (∀ it ∈ items, it.1 = 0 → s.dist.odoState = .unknown ∧ longAt it.2 0 ≤ distanceTop) →
      s.dist.Advances (items.foldl (fun s it => writeElement .distance p it.1 it.2 s) s).dist
  | [], s, _, _ => .refl s.dist
  | (i, data) :: items, s, hn, hj => by
    rw [List.map_cons, List.nodup_cons] at hn
    obtain ⟨hi, hn⟩ := hn
    rw [List.foldl_cons]
    change s.dist.Advances (items.foldl _ (writeDistance i (longAt data 0) s)).dist
    by_cases h0 : i = 0
    · subst h0
      obtain ⟨hs, hv⟩ := hj _ List.mem_cons_self rfl
      refine .trans (e := s.dist.seed (longAt data 0)) (Distance.advances_seed hs hv) ?_
      rw [← writeDistance_seed_dist]
      exact advances_writeDistances p items _ hn fun it hit h => absurd (List.mem_map.mpr ⟨it, hit, h⟩) hi
    · obtain ⟨ho, hs, hm⟩ := writeDistance_odo s h0 (longAt data 0)
      exact .trans (.of_odo ho hs hm)
        (advances_writeDistances p items _ hn fun it hit h => hs.symm ▸ hj it (List.mem_cons_of_mem _ hit) h)

/-- A write element of another region. -/
theorem advances_writeElement {r : Region} (h : r ≠ .distance) (p : Port) (i : Nat) (data : List Byte) :
    s.dist.Advances (writeElement r p i data s).dist := by
  cases r with
  | distance => exact absurd rfl h
  | signals =>
    simp only [writeElement]
    cases finOf 64 i with
    | none => exact .refl _
    | some e => exact .of_eq (steady_deliverTo ..).dist
  | telltales =>
    simp only [writeElement]
    cases finOf 40 i <;> exact .refl _
  | chimes =>
    simp only [writeElement]
    cases finOf 8 i <;> exact .refl _
  | tacho => exact advances_recordArrival s (validateRecord_odometer_le data)
  | control =>
    simp only [writeElement, runControl]
    split
    · exact .refl _
    · split
      · exact advances_requestRestart s
      · exact .refl _
  | watch | config | directory | signalDetail | gauges | links | cycleState => exact .refl _

/-- Up to as many elements as the region has, a WRITE meets none twice. -/
theorem writeItems_nodup {r : Region} {count : Nat} (h : count ≤ r.elements) (first : Nat) (data : List Byte) :
    ((writeItems r first count data).map Prod.fst).Nodup := by
  rw [writeItems, List.map_map]
  refine List.Nodup.map_on (fun a ha b hb hab => ?_) List.nodup_range
  rw [List.mem_range] at ha hb
  exact (Nat.ModEq.add_left_cancel' first hab).eq_of_lt_of_lt (ha.trans_le h) (hb.trans_le h)

theorem advances_applyWrite {p : Port} {r : Region} {first count : Nat} {data : List Byte} (hc : count ≤ r.elements)
    (hj : firstRefusal r p (writeItems r first count data) s = none) :
    s.dist.Advances (applyWrite p r first count (writeItems r first count data) s).dist := by
  unfold applyWrite
  dsimp only
  rw [pushResult_dist, ← setCursor_dist s p r ((first + count) % r.elements)]
  by_cases hr : r = .distance
  · subst hr
    refine advances_writeDistances p _ _ (writeItems_nodup hc first data) fun it hit h0 => ?_
    have accepted : judgeDistance s.dist it.1 it.2 = none := List.findSome?_eq_none_iff.mp hj it hit
    exact judgeDistance_seed (h0 ▸ accepted)
  · exact advances_foldl _ _ (fun s (it : Nat × List Byte) => advances_writeElement s hr p it.1 it.2) _

theorem legalWrite_count {r : Region} {index count : Nat} (h : legalWrite r index count = true) : count ≤ r.elements := by
  simp only [legalWrite, legalSpan, Bool.and_eq_true, decide_eq_true_eq] at h
  exact h.1.2.2

theorem advances_runWrite (p : Port) (r : Region) (index count : Nat) (data : List Byte) :
    s.dist.Advances (runWrite p r index count data s).dist := by
  unfold runWrite
  split
  · exact .of_eq (pushResult_dist ..)
  · split
    · exact .of_eq (pushResult_dist ..)
    · next legal =>
      dsimp only
      split
      · exact .of_eq (pushResult_dist ..)
      · next hj => exact advances_applyWrite s (legalWrite_count (by simpa using legal)) hj

@[simp] theorem runRead_dist (p : Port) (region index count : Nat) : (runRead p region index count s).dist = s.dist := by
  unfold runRead readElements
  split
  · exact pushResult_dist ..
  · simp [apply_ite State.dist]

@[simp] theorem runWait_dist (p : Port) (index count : Nat) : (runWait p index count s).dist = s.dist := by
  unfold runWait
  split
  · exact pushResult_dist ..
  · simp [apply_ite State.dist, holdFrame]

@[simp] theorem runChanges_dist (p : Port) (count : Nat) : (runChanges p count s).dist = s.dist := by
  unfold runChanges
  simp [apply_ite State.dist]

theorem advances_runRequest (p : Port) (q : Request) : s.dist.Advances (runRequest p q s).dist := by
  cases q with
  | read region index count => exact .of_eq (runRead_dist ..)
  | write r index count data => exact advances_runWrite ..
  | wait index count => exact .of_eq (runWait_dist ..)
  | changes count => exact .of_eq (runChanges_dist ..)
  | faulty o => exact .of_eq (pushResult_dist ..)

/-! ## Frames, commands and the step -/

theorem advances_advanceFrame (p : Port) : s.dist.Advances (advanceFrame p s).dist := by
  unfold advanceFrame
  split
  · exact .refl _
  · split
    · unfold finishFrame
      dsimp only
      split <;> exact .refl _
    · rw [frameRequest, finishEvent_dist]
      exact advances_runRequest (setPort ..) ..

/-- The end of an event and the frames that run behind it. -/
theorem advances_complete {s u : State} (before : State) (h : s.dist.Advances u.dist) : s.dist.Advances (complete before u).dist :=
  complete_keeps (P := fun t => s.dist.Advances t.dist) (fun b t ht => by rwa [finishEvent_dist])
    (fun p t _ ht => ht.trans (advances_advanceFrame t p)) before u h

/-- Every command but a power-on reset ends its event at a state whose odometer has not fallen. -/
theorem exec_advances (c : Instr) (hc : ∀ strap, c ≠ .powerOnReset strap) :
    ∃ u, exec c s = .next (complete s u) ∧ s.dist.Advances u.dist := by
  cases c with
  | powerOnReset strap => exact absurd rfl (hc strap)
  | configLoadComplete => exact ⟨_, rfl, advances_onLoadComplete s⟩
  | restartLoadEnd => exact ⟨_, rfl, advances_onRestartLoadEnd s⟩
  | agingTimerExpiry => exact ⟨_, rfl, .of_eq (steady_ageTable s).dist⟩
  | reclaimTimerExpiry => exact ⟨_, rfl, .of_eq (steady_reclaimExpiry ..).dist⟩
  | disagreementTimerExpiry => exact ⟨_, rfl, .of_eq (steady_disagreementExpiry ..).dist⟩
  | pulseEdge i edge us => exact ⟨_, rfl, advances_onEdge (advanceCounter i us s) i edge⟩
  | gateExpiry i us => exact ⟨_, rfl, advances_onGate (advanceCounter i us s) i⟩
  | scanTimerExpiry => exact ⟨_, rfl, .of_eq (steady_onScanTimer s).dist⟩
  | parkedTimerExpiry => exact ⟨_, rfl, .of_eq (steady_onParkedTimer s).dist⟩
  | testConversionsDone => exact ⟨_, rfl, .of_eq (onTestsDone_dist ..)⟩
  | settleTimeExpiry => exact ⟨_, rfl, .of_eq (steady_onSettled s).dist⟩
  | conversionDone => exact ⟨_, rfl, .of_eq (onConversion_dist ..)⟩
  | rawLevelChange => exact ⟨_, rfl, .of_eq (steady_onRawLevel ..).dist⟩
  | debounceTimerExpiry => exact ⟨_, rfl, .of_eq (steady_onDebounce ..).dist⟩
  | motionTimerExpiry => exact ⟨_, rfl, .of_eq (steady_putGauge ..).dist⟩
  | homingTimerExpiry => exact ⟨_, rfl, .of_eq (steady_putGauge ..).dist⟩
  | flasherPhaseChange => exact ⟨_, rfl, .of_eq (steady_onFlasher ..).dist⟩
  | openCheckTimerExpiry => exact ⟨_, rfl, .of_eq (steady_onOpenCheck ..).dist⟩
  | lampShort => exact ⟨_, rfl, .of_eq (steady_onShort ..).dist⟩
  | retryTimerExpiry => exact ⟨_, rfl, .of_eq (steady_onRetry ..).dist⟩
  | chimeOnTimeExpiry => exact ⟨_, rfl, .of_eq (steady_changePlaying ..).dist⟩
  | chimeOffTimeExpiry => exact ⟨_, rfl, .of_eq (steady_changePlaying ..).dist⟩
  | recordAgeTimerExpiry => exact ⟨_, rfl, .of_eq (onRecordAge_dist s)⟩
  | estimationTimerExpiry => exact ⟨_, rfl, .of_eq (onEstimation_dist s)⟩
  | bulbCheckExpiry => exact ⟨_, rfl, .of_eq (steady_onBulbCheck s).dist⟩
  | commitEnd => exact ⟨_, rfl, advances_onCommitEnd s⟩
  | spiPeriodEnd => exact ⟨_, rfl, .of_eq (endPeriod_dist ..)⟩
  | tlinkByteReceived => exact ⟨_, rfl, .of_eq (tlinkByte_dist ..)⟩
  | tlinkGapTimeout => exact ⟨_, rfl, .of_eq (tlinkGap_dist s)⟩
  | tlinkReplySent => exact ⟨_, rfl, .refl _⟩
  | waitTimerExpiry => exact ⟨_, rfl, .refl _⟩
  | linkTimerExpiry => exact ⟨_, rfl, .of_eq (linkExpiry_dist ..)⟩
  | chipSelectActive => exact ⟨_, rfl, .of_eq (openPeriod_dist ..)⟩

/-- A step idles on an empty queue, and else runs the command at its front. -/
theorem step_cases {s t : State} (h : step s = .next t) :
    t = s ∨ ∃ c rest, s.pending = c :: rest ∧ exec c (s.setPending rest) = .next t := by
  unfold step at h
  split at h
  · exact .inl (Host.Outcome.next.inj h).symm
  · next c rest hp => exact .inr ⟨c, rest, hp, h⟩

/-- A step that is no power-on reset. -/
theorem advances_step {s t : State} (hs : ∀ strap, s.pending.head? ≠ some (.powerOnReset strap)) (h : step s = .next t) :
    s.dist.Advances t.dist := by
  obtain rfl | ⟨c, rest, hp, hx⟩ := step_cases h
  · exact .refl _
  · obtain ⟨u, hu, a⟩ := exec_advances (s.setPending rest) c fun strap hc => hs strap (by rw [hp, hc]; rfl)
    cases hu.symm.trans hx
    exact advances_complete (s := s) _ a

/-- A power-on reset leaves the odometer UNKNOWN (R149). -/
theorem powerOn_odometerLegal (strap : BitRate) (s : State) : OdometerLegal (powerOn strap s) := ⟨Nat.zero_le _, fun _ => ⟨rfl, rfl⟩⟩

theorem step_odometerLegal {s t : State} (hl : OdometerLegal s) (h : step s = .next t) : OdometerLegal t := by
  by_cases hs : ∃ strap, s.pending.head? = some (.powerOnReset strap)
  · obtain ⟨strap, hs⟩ := hs
    obtain rfl | ⟨c, rest, hp, hx⟩ := step_cases h
    · exact hl
    · rw [hp, List.head?_cons, Option.some_inj] at hs
      subst hs
      cases hx
      exact powerOn_odometerLegal ..
  · exact (odometerLegal_iff t).mpr ((advances_step (not_exists.mp hs) h).legal ((odometerLegal_iff s).mp hl))

end

/-- Settles O5: an adoption and a seed by their equations, and the step by `exec_advances`, command by command, with the frames behind it. -/
theorem odometerNeverFalls : Obligations.OdometerNeverFalls := by
  unfold Obligations.OdometerNeverFalls
  refine ⟨?adoption, fun d T => Distance.adopt_unknown T, fun _ _ => rfl, fun d both _ _ => ⟨d.edge_mismatch both, rfl, rfl⟩,
    fun s t => step_odometerLegal, fun s t hl hs h => (advances_step hs h).rises ((odometerLegal_iff s).mp hl)⟩
  case adoption =>
    intro d T hs
    rw [Distance.adopt_known T hs]
    rcases Nat.lt_or_ge T d.odo with h | h
    · simp only [max_eq_left h.le, min_eq_right h.le, if_neg (Nat.not_le.mpr h)]
    · simp only [max_eq_right h, min_eq_left h, if_pos h]

end Sys2Proof.Machine
end

section
/-! Proofs: the reset of a trip by a WRITE of 0, and the refusal of any other value (R54, R171). -/

namespace Sys2Proof.Machine

/-! ## A request's result in the reply (R190) -/

/-- A result joins the frame in execution, also where it is a refusal. -/
theorem pushResult_results {s : State} {p : Port} {f : FrameExec} (h : (s.port p).exec = some f) (o : RequestOutcome) (n : Nat) (data : List Byte) :
    ∃ g, ((pushResult p o n data s).port p).exec = some g ∧ g.results = f.results ++ resultBytes o n data := by
  refine ⟨{ f with results := f.results ++ resultBytes o n data, room := f.room - data.length }, ?_, rfl⟩
  unfold pushResult
  dsimp only
  split <;> simp [h]

theorem pushResult_changes (s : State) (p q : Port) (o : RequestOutcome) (n : Nat) (data : List Byte) :
    ((pushResult p o n data s).port q).changes = (s.port q).changes := by
  unfold pushResult
  by_cases hq : q = p
  · subst hq
    dsimp only
    split <;> simp
  · dsimp only
    split <;> simp [hq]

/-! ## The notice of the distance set (R56) -/

/-- A notice leaves a frame that is not held as it is. -/
theorem PortState.notice_exec {x : PortState} {f : FrameExec} (h : x.exec = some f) (hf : f.hold = none) (i : Fin 113) :
    (x.notice i).exec = some f := by
  unfold PortState.notice
  split
  · simp only [PortState.signal, h, hf]
  · exact h

theorem putDistance_port (d : Distance) (s : State) (q : Port) :
    (putDistance d s).port q = if distanceChanged s.dist d = true then (s.port q).notice distanceItem else s.port q := by
  unfold putDistance
  dsimp only
  split <;> simp

theorem putDistance_exec {s : State} {p : Port} {f : FrameExec} (h : (s.port p).exec = some f) (hf : f.hold = none) (d : Distance) :
    ((putDistance d s).port p).exec = some f := by
  rw [putDistance_port]
  split
  · exact PortState.notice_exec h hf _
  · exact h

theorem distanceChanged_self (d : Distance) : distanceChanged d d = false := by simp [distanceChanged]

/-- A distance counter put back as it was is not reported. -/
theorem putDistance_self_port (s : State) (q : Port) : (putDistance s.dist s).port q = s.port q := by
  rw [putDistance_port, distanceChanged_self]
  rfl

/-! ## A WRITE of one DISTANCE element (R169, R171) -/

theorem longAt_eq_zero_iff {data : List Byte} (h : data.length = 4) : longAt data 0 = 0 ↔ data = [0, 0, 0, 0] := by
  match data, h with
  | [a, b, c, d], _ =>
    simp only [longAt, wordAt, byteAt, List.getD_cons_zero, List.getD_cons_succ, List.cons.injEq, and_true, ← BitVec.toNat_inj]
    simp only [BitVec.ofNat_eq_ofNat, BitVec.toNat_ofNat, Nat.zero_mod]
    omega

theorem writeItems_distance {i : Nat} (hi : i < 4) {data : List Byte} (hd : data.length = 4) :
    writeItems .distance i 1 data = [(i, data)] := by
  simp [writeItems, Region.elements, Region.writeSize, Nat.mod_eq_of_lt hi, List.take_of_length_le hd.le]

section
variable {i : Nat} {data : List Byte} (s : State)

/-- The D-link's WRITE of one element by its index is decided by the element's judgement. -/
theorem runRequest_distance (hi : i < 4) (hd : data.length = 4) :
    runRequest .dlink (.write .distance i 1 data) s =
      match judgeDistance s.dist i data with
      | some o => pushResult .dlink o 0 [] s
      | none => pushResult .dlink .ok 1 [] (writeDistance i (longAt data 0) (setCursor .dlink .distance ((i + 1) % 4) s)) := by
  have legal : legalWrite .distance i 1 = true := by simp [legalWrite, legalSpan, Region.elements, hi]
  have first : firstElement (s.port .dlink) .distance i = i := if_neg (by omega)
  simp only [runRequest, runWrite, legal, first, writeItems_distance hi hd, firstRefusal, List.findSome?_cons, List.findSome?_nil, judgeElement]
  cases judgeDistance s.dist i data <;> rfl

/-- Elements 2 and 3 take the value 0 alone. -/
theorem judgeDistance_trip (hi : 2 ≤ i) (d : Distance) :
    judgeDistance d i data = if longAt data 0 = 0 then none else some .range := by
  rw [judgeDistance, if_neg (by omega), if_neg (by omega), refuseIf]
  by_cases h : longAt data 0 = 0 <;> simp [h]

theorem runRequest_trip_refused (h2 : 2 ≤ i) (hi : i < 4) (hd : data.length = 4) (hne : data ≠ [0, 0, 0, 0]) :
    runRequest .dlink (.write .distance i 1 data) s = pushResult .dlink .range 0 [] s := by
  rw [runRequest_distance s hi hd, judgeDistance_trip h2, if_neg (mt (longAt_eq_zero_iff hd).mp hne)]

theorem runRequest_trip_accepted (h2 : 2 ≤ i) (hi : i < 4) :
    runRequest .dlink (.write .distance i 1 [0, 0, 0, 0]) s =
      pushResult .dlink .ok 1 []
        (putDistance (if i = 2 then { s.dist with tripA := 0 } else { s.dist with tripB := 0 })
          (setCursor .dlink .distance ((i + 1) % 4) s)) := by
  rw [runRequest_distance s hi rfl, judgeDistance_trip h2, if_pos (by decide), writeDistance, if_neg (by omega)]
  rfl

/-- What an accepted reset brings about, where `d` is the distance counter that it leaves. -/
theorem trip_reset {f : FrameExec} {d : Distance} (hx : (s.port .dlink).exec = some f) (hf : f.hold = none) (h2 : 2 ≤ i) (hi : i < 4)
    (hd : (if i = 2 then { s.dist with tripA := 0 } else { s.dist with tripB := 0 }) = d) :
    let t := runRequest .dlink (.write .distance i 1 [0, 0, 0, 0]) s
    (t.dist = d ∧ ∃ g, (t.port .dlink).exec = some g ∧ g.results = f.results ++ resultBytes .ok 1 []) ∧
      (d = s.dist → ∀ q, (t.port q).changes = (s.port q).changes) := by
  have moved : ((setCursor .dlink .distance ((i + 1) % 4) s).port .dlink).exec = some f := by rw [port_setCursor, if_pos rfl]; exact hx
  intro t
  have ht : t = _ := runRequest_trip_accepted s h2 hi
  rw [hd] at ht
  refine ⟨⟨?_, ?_⟩, fun hs q => ?_⟩
  · rw [ht, pushResult_dist, putDistance_dist]
  · rw [ht]
    exact pushResult_results (putDistance_exec moved hf d) ..
  · rw [ht, pushResult_changes, hs, ← setCursor_dist s .dlink .distance ((i + 1) % 4), putDistance_self_port, port_setCursor]
    split
    · next hq => rw [hq]
    · rfl

/-- What a refused write leaves. -/
theorem trip_refused {f : FrameExec} (hx : (s.port .dlink).exec = some f) (h2 : 2 ≤ i) (hi : i < 4) (hd : data.length = 4)
    (hne : data ≠ [0, 0, 0, 0]) :
    let t := runRequest .dlink (.write .distance i 1 data) s
    t.dist = s.dist ∧ ∃ g, (t.port .dlink).exec = some g ∧ g.results = f.results ++ resultBytes .range 0 [] := by
  rw [runRequest_trip_refused s h2 hi hd hne]
  exact ⟨pushResult_dist .., pushResult_results hx ..⟩

end

/-- Settles O60: the D-link's WRITE of element 2 or 3 by the judgement of its value, and the steps behind a reset by their count. -/
theorem tripReset : Obligations.TripReset := by
  unfold Obligations.TripReset
  refine ⟨fun data f s hx hf hd => ⟨?zero, ?other⟩, fun d => ⟨?below, ?top, rfl, rfl, ?many⟩⟩
  case zero =>
    rintro rfl
    obtain ⟨a, silentA⟩ := trip_reset s hx hf (i := 2) (by decide) (by decide) rfl
    obtain ⟨b, silentB⟩ := trip_reset s hx hf (i := 3) (by decide) (by decide) rfl
    refine ⟨a, b, fun h0 => silentA ?_, fun h0 => silentB ?_⟩
    · rw [if_pos rfl, ← h0]
    · rw [if_neg (by decide), ← h0]
  case other =>
    exact fun hne => ⟨trip_refused s hx (by decide) (by decide) hd hne, trip_refused s hx (by decide) (by decide) hd hne⟩
  case below =>
    intro h
    exact ⟨(Distance.step_counts (d := { d with tripA := 0 }) h).2.1, (Distance.step_counts (d := { d with tripB := 0 }) h).2.2⟩
  case top =>
    intro h
    exact ⟨(Distance.step_stands (d := { d with tripA := 0 }) h).2.1, (Distance.step_stands (d := { d with tripB := 0 }) h).2.2⟩
  case many =>
    intro n h
    have hA := (Distance.iterate_step_counts (d := { d with tripA := 0 }) n h).2.1 (by simp)
    have hB := (Distance.iterate_step_counts (d := { d with tripB := 0 }) n h).2.2 (by simp)
    rw [hA, hB]
    simp

end Sys2Proof.Machine
end

section
/-! Proofs: the value of a curve in its three ranges, the rounding of its quotient, and the clamped curve position (R67, R89). -/

namespace Sys2Proof.Machine

/-! ## Rounding to the nearest integer, a half away from zero -/

theorem roundAway_zero (den : Nat) : roundAway 0 den = 0 := by simp [roundAway]

theorem roundAway_neg (num : Int) (den : Nat) : roundAway (-num) den = -roundAway num den := by
  simp [roundAway]

theorem roundAway_natCast {den : Nat} (h : 0 < den) (a : Nat) : roundAway a den = ((2 * a + den) / (2 * den) : Nat) := by
  cases a with
  | zero => rw [Nat.cast_zero, roundAway_zero, Nat.mul_zero, Nat.zero_add, Nat.div_eq_of_lt (by omega), Nat.cast_zero]
  | succ n => rw [roundAway, Int.natAbs_natCast, Int.sign_eq_one_of_pos (by omega), Int.one_mul]

/-- Only the upper bound can be met: a half of a natural number's quotient goes up. -/
theorem roundAway_natCast_bounds {den : Nat} (h : 0 < den) (a : Nat) :
    2 * (a : Int) - den < 2 * (roundAway a den * den) ∧ 2 * (roundAway a den * den) ≤ 2 * (a : Int) + den := by
  have lower := Nat.div_mul_le_self (2 * a + den) (2 * den)
  have upper := Nat.lt_div_mul_add (a := 2 * a + den) (b := 2 * den) (by omega)
  rw [roundAway_natCast h]
  generalize (2 * a + den) / (2 * den) = m at lower upper ⊢
  rw [Nat.mul_left_comm] at lower upper
  omega

/-- The rounded quotient is a nearest integer, and of two that are equally near it is the one away from zero. -/
theorem roundAway_nearest (num : Int) {den : Nat} (h : 0 < den) :
    2 * (num - roundAway num den * den).natAbs ≤ den ∧
    (2 * (num - roundAway num den * den).natAbs = den → num.natAbs < (roundAway num den * den).natAbs) := by
  obtain ⟨a, rfl | rfl⟩ := num.eq_nat_or_neg
  all_goals obtain ⟨lower, upper⟩ := roundAway_natCast_bounds h a
  · omega
  · rw [roundAway_neg, Int.neg_mul]
    omega

/-! ## A rising curve -/

theorem strictlyRising_iff_isChain (ps : List CurvePoint) : strictlyRising ps = true ↔ ps.IsChain fun p q => p.x < q.x := by
  induction ps with
  | nil => simp [strictlyRising]
  | cons p ps ih =>
    cases ps with
    | nil => simp [strictlyRising]
    | cons q rest => rw [strictlyRising, Bool.and_eq_true, decide_eq_true_eq, ih, List.isChain_cons_cons]

/-- A first point lies left of every other point. -/
theorem strictlyRising_head_lt {p q : CurvePoint} {ps : List CurvePoint} (h : strictlyRising (p :: ps) = true) (hq : q ∈ ps) : p.x < q.x := by
  have : IsTrans CurvePoint fun p q => p.x < q.x := ⟨fun _ _ _ => Int.lt_trans⟩
  exact List.rel_of_pairwise_cons (List.isChain_iff_pairwise.mp ((strictlyRising_iff_isChain _).mp h)) hq

theorem strictlyRising_head_le {p q : CurvePoint} {ps : List CurvePoint} (h : strictlyRising (p :: ps) = true) (hq : q ∈ p :: ps) :
    p.x ≤ q.x := by
  rcases List.mem_cons.mp hq with rfl | hmem
  · exact Int.le_refl _
  · exact Int.le_of_lt (strictlyRising_head_lt h hmem)

theorem strictlyRising_tail {p : CurvePoint} {ps : List CurvePoint} (h : strictlyRising (p :: ps) = true) : strictlyRising ps = true := by
  rw [strictlyRising_iff_isChain] at h ⊢
  exact h.tail

/-! ## The value at, below and above the first points -/

section
variable {p q : CurvePoint} {rest : List CurvePoint} {v : Int}

theorem interpolate_of_le_head (h : v ≤ p.x) : interpolate (p :: rest) v = p.y := by
  cases rest with
  | nil => rfl
  | cons q rest => rw [interpolate, if_pos h]

/-- The first segment, its left end included: the quotient there is 0. -/
theorem interpolate_first_segment (hp : p.x ≤ v) (hq : v < q.x) :
    interpolate (p :: q :: rest) v = p.y + roundAway ((v - p.x) * (q.y - p.y)) (q.x - p.x).toNat := by
  rcases Int.le_iff_eq_or_lt.mp hp with rfl | hlt
  · rw [interpolate_of_le_head (Int.le_refl _), Int.sub_self, Int.zero_mul, roundAway_zero, Int.add_zero]
  · rw [interpolate, if_neg (Int.not_le.mpr hlt), if_pos hq]

theorem interpolate_past_second (hpq : p.x < q.x) (hq : q.x ≤ v) : interpolate (p :: q :: rest) v = interpolate (q :: rest) v := by
  rw [interpolate, if_neg (by omega), if_neg (by omega)]

end

/-! ## The value of a rising curve, by induction on its points -/

theorem interpolate_of_last_le {ps : List CurvePoint} {p : CurvePoint} {v : Int} (h : strictlyRising ps = true) (hp : ps.getLast? = some p)
    (hv : p.x ≤ v) : interpolate ps v = p.y := by
  induction ps with
  | nil => simp at hp
  | cons a ps ih =>
    cases ps with
    | nil =>
      obtain rfl : a = p := by simpa using hp
      rfl
    | cons b rest =>
      rw [List.getLast?_cons_cons] at hp
      have tail := strictlyRising_tail h
      have hb : b.x ≤ p.x := strictlyRising_head_le tail (List.mem_of_getLast? hp)
      rw [interpolate_past_second (strictlyRising_head_lt h List.mem_cons_self) (Int.le_trans hb hv)]
      exact ih tail hp

theorem interpolate_segment {ps : List CurvePoint} {i : Nat} {p q : CurvePoint} {v : Int} (h : strictlyRising ps = true)
    (hp : ps[i]? = some p) (hq : ps[i + 1]? = some q) (hpv : p.x ≤ v) (hvq : v < q.x) :
    interpolate ps v = p.y + roundAway ((v - p.x) * (q.y - p.y)) (q.x - p.x).toNat := by
  induction ps generalizing i with
  | nil => simp at hp
  | cons a ps ih =>
    rw [List.getElem?_cons_succ] at hq
    cases ps with
    | nil => simp at hq
    | cons b rest =>
      cases i with
      | zero =>
        obtain rfl : a = p := by simpa using hp
        obtain rfl : b = q := by simpa using hq
        exact interpolate_first_segment hpv hvq
      | succ i =>
        rw [List.getElem?_cons_succ] at hp
        have tail := strictlyRising_tail h
        have hb : b.x ≤ p.x := strictlyRising_head_le tail (List.mem_of_getElem? hp)
        rw [interpolate_past_second (strictlyRising_head_lt h List.mem_cons_self) (Int.le_trans hb hpv)]
        exact ih tail hp hq

/-- Settles O32: the three ranges of a rising curve, the rounding of the quotient, and the clamp of a gauge's position. -/
theorem curveValues : Obligations.CurveValues := by
  unfold Obligations.CurveValues
  refine ⟨fun ps v rising => ⟨?first, ?last, ?between⟩, fun num _ h => roundAway_nearest num h, fun _ _ => rfl⟩
  case first =>
    intro p hp hv
    obtain ⟨rest, rfl⟩ := List.head?_eq_some_iff.mp hp
    exact interpolate_of_le_head hv
  case last => exact fun p => interpolate_of_last_le rising
  case between => exact fun i p q => interpolate_segment rising

end Sys2Proof.Machine
end

section
/-! Proofs: the controller conditions with the supply state, the mismatch mark, the links and the readout that own them (R53, R74, R144, R145, R175):
what keeps `ConditionsStand` and `ReadoutStands`, and the operations of the owners but the readout. -/

namespace Sys2Proof.Machine

/-! ## The owners of the conditions -/

/-- The conditions of the supply state, the mismatch mark and the links (R53, R74, R175). -/
abbrev otherConditions : List Condition := [.supplyLow, .supplyHigh, .odoMismatch, .linkLostD, .linkLostN, .linkLostT]

/-- The conditions of the readout that `ConditionsStand` speaks of (R144, R145). -/
abbrev readoutConditions : List Condition := [.tachoStale, .tachoPrewarn, .tachoLimit]

/-- From `s` to `t` the supply state, the mismatch mark, which links are LOST, and the conditions of these stand as before. -/
structure OthersKept (s t : State) : Prop where
  supply : t.conv.supply = s.conv.supply
  mismatch : t.dist.mismatch = s.dist.mismatch
  links : ∀ p, (t.port p).link = .lost ↔ (s.port p).link = .lost
  conditions : ∀ c ∈ otherConditions, t.cond c = s.cond c

/-- From `s` to `t` the readout and its conditions stand as before, too. -/
structure OwnersKept (s t : State) : Prop extends OthersKept s t where
  tacho : t.tacho = s.tacho
  judged : ∀ c ∈ readoutConditions, t.cond c = s.cond c

/-- TACHO_STALE as the readout's state gives it (R145). -/
def StaleStands (s : State) : Prop := s.cond .tachoStale = (s.tacho.state == .estimated || s.tacho.state == .lost)

/-- TACHO_PREWARN and TACHO_LIMIT as the readout's state and figure give them (R144). -/
def DrivingStands (s : State) : Prop :=
  ∀ st, s.tacho.settings = some st →
    (s.cond .tachoPrewarn = true ↔ s.tacho.state ≠ .none ∧ st.prewarn ≤ s.tacho.continuous) ∧
    (s.cond .tachoLimit = true ↔ s.tacho.state ≠ .none ∧ st.limit ≤ s.tacho.continuous)

/-- From `s` to `t` both invariants are kept. -/
structure KeepsStanding (s t : State) : Prop where
  conditions : ConditionsStand s → ConditionsStand t
  readout : ReadoutStands s → ReadoutStands t

section
variable {s t u : State}

theorem OthersKept.trans (a : OthersKept s t) (b : OthersKept t u) : OthersKept s u :=
  ⟨b.supply.trans a.supply, b.mismatch.trans a.mismatch, fun p => (b.links p).trans (a.links p),
    fun c hc => (b.conditions c hc).trans (a.conditions c hc)⟩

theorem OthersKept.setCond {c : Condition} (hc : c ∉ otherConditions) (b : Bool) (s : State) :
    OthersKept s (setCond c b s) :=
  ⟨rfl, rfl, fun _ => .rfl, fun d hd => by rw [cond_setCond, if_neg (ne_of_mem_of_not_mem hd hc)]⟩

theorem OthersKept.setTacho (r : Readout) (s : State) : OthersKept s (s.setTacho r) := ⟨rfl, rfl, fun _ => .rfl, fun _ _ => rfl⟩

theorem linkLostCondition_mem (p : Port) : linkLostCondition p ∈ otherConditions := by cases p <;> decide

/-- A condition that is no link's leaves the links' conditions. -/
theorem linkLost_setCond {c : Condition} (hc : ∀ p, linkLostCondition p ≠ c) (b : Bool) (s : State) (p : Port) :
    (setCond c b s).cond (linkLostCondition p) = s.cond (linkLostCondition p) := by
  rw [cond_setCond, if_neg (hc p)]

theorem linkLostCondition_inj {p q : Port} : linkLostCondition p = linkLostCondition q ↔ p = q := by
  cases p <;> cases q <;> decide

theorem ConditionsStand.stale (h : ConditionsStand s) : StaleStands s := h.tachoStale

theorem ConditionsStand.driving (h : ConditionsStand s) : DrivingStands s := fun st hst => ⟨h.tachoPrewarn st hst, h.tachoLimit st hst⟩

/-- An operation of the readout alone: its own conditions are all that is left to judge. -/
theorem ConditionsStand.of_readout (h : ConditionsStand s) (k : OthersKept s t) (hs : StaleStands t) (hd : DrivingStands t) : ConditionsStand t where
  supplyLow := by rw [k.conditions _ (by decide), k.supply, h.supplyLow]
  supplyHigh := by rw [k.conditions _ (by decide), k.supply, h.supplyHigh]
  odoMismatch := by rw [k.conditions _ (by decide), k.mismatch, h.odoMismatch]
  linkLost p := by rw [k.conditions _ (linkLostCondition_mem p), h.linkLost p, Bool.eq_iff_iff, beq_iff_eq, beq_iff_eq, k.links p]
  tachoStale := hs
  tachoPrewarn st hst := (hd st hst).1
  tachoLimit st hst := (hd st hst).2

/-- The judgement of R144 stands while the readout keeps its settings and its figure, and neither enters nor leaves NONE. -/
theorem DrivingStands.congr (h : DrivingStands s) (hst : t.tacho.settings = s.tacho.settings)
    (hn : t.tacho.state = .none ↔ s.tacho.state = .none) (hc : t.tacho.continuous = s.tacho.continuous)
    (hp : t.cond .tachoPrewarn = s.cond .tachoPrewarn) (hl : t.cond .tachoLimit = s.cond .tachoLimit) : DrivingStands t := by
  intro st ht
  rw [hp, hl, hc, Ne, not_congr hn]
  exact h st (hst ▸ ht)

theorem StaleStands.congr (h : StaleStands s) (hs : t.tacho.state = s.tacho.state) (hc : t.cond .tachoStale = s.cond .tachoStale) :
    StaleStands t := by
  rw [StaleStands, hc, hs]
  exact h

theorem ReadoutStands.congr (h : ReadoutStands s) (ht : t.tacho = s.tacho) : ReadoutStands t := by
  obtain ⟨estimating, remaining, none, seconds⟩ := h
  constructor <;> rw [ht] <;> assumption

/-! ## Keeping both -/

theorem OwnersKept.keeps (k : OwnersKept s t) : KeepsStanding s t where
  conditions h := h.of_readout k.toOthersKept (h.stale.congr (by rw [k.tacho]) (k.judged _ (by decide)))
    (h.driving.congr (by rw [k.tacho]) (by rw [k.tacho]) (by rw [k.tacho]) (k.judged _ (by decide)) (k.judged _ (by decide)))
  readout h := h.congr k.tacho

theorem KeepsStanding.refl (s : State) : KeepsStanding s s := ⟨id, id⟩

theorem KeepsStanding.trans (a : KeepsStanding s t) (b : KeepsStanding t u) : KeepsStanding s u :=
  ⟨b.conditions ∘ a.conditions, b.readout ∘ a.readout⟩

theorem PortsTook.link (h : PortsTook s t) (p : Port) : (t.port p).link = (s.port p).link := (h.kept p).link

theorem Steady.owners (h : Steady s t) : OwnersKept s t where
  supply := h.supply
  mismatch := by rw [h.dist]
  links p := by rw [h.ports.link]
  conditions c hc := h.conditions c (ne_of_mem_of_not_mem hc (by decide))
  tacho := h.tacho
  judged c hc := h.conditions c (ne_of_mem_of_not_mem hc (by decide))

theorem Steady.keeps (h : Steady s t) : KeepsStanding s t := h.owners.keeps

/-- A choice between two operations that keep both. -/
theorem keeps_ite {p : Prop} [Decidable p] (ht : p → KeepsStanding s t) (hu : ¬p → KeepsStanding s u) : KeepsStanding s (if p then t else u) := by
  split
  · exact ht ‹_›
  · exact hu ‹_›

/-- A loop whose steps keep both. -/
theorem keeps_foldl {α : Type} (f : State → α → State) (h : ∀ s i, KeepsStanding s (f s i)) (l : List α) (s : State) :
    KeepsStanding s (l.foldl f s) := foldl_rel KeepsStanding.refl (fun _ _ _ => .trans) f h l s

end

section
variable (s : State)

/-- A condition that none of these owners judges. -/
theorem keeps_setCond {c : Condition} (hc : c ∉ otherConditions ++ readoutConditions) (b : Bool) : KeepsStanding s (setCond c b s) := by
  rw [List.mem_append, not_or] at hc
  obtain ⟨notOther, notReadout⟩ := hc
  refine OwnersKept.keeps ⟨.setCond notOther b s, rfl, fun d hd => ?_⟩
  rw [cond_setCond, if_neg (ne_of_mem_of_not_mem hd notReadout)]

theorem keeps_setStore (x : ConfigStore) : KeepsStanding s (s.setStore x) :=
  OwnersKept.keeps ⟨⟨rfl, rfl, fun _ => .rfl, fun _ _ => rfl⟩, rfl, fun _ _ => rfl⟩

theorem keeps_setPending (x : List Instr) : KeepsStanding s (s.setPending x) :=
  OwnersKept.keeps ⟨⟨rfl, rfl, fun _ => .rfl, fun _ _ => rfl⟩, rfl, fun _ _ => rfl⟩

/-- The distance counter replaced by one with the same mismatch mark. -/
theorem keeps_setDist {d : Distance} (h : d.mismatch = s.dist.mismatch) : KeepsStanding s (s.setDist d) :=
  OwnersKept.keeps ⟨⟨rfl, h, fun _ => .rfl, fun _ _ => rfl⟩, rfl, fun _ _ => rfl⟩

/-- The ports replaced by ports of which the same are LOST. -/
theorem keeps_setPorts {l : LinkInterface} (h : ∀ p, (l.port p).link = .lost ↔ (s.port p).link = .lost) : KeepsStanding s (s.setPorts l) :=
  OwnersKept.keeps ⟨⟨rfl, rfl, h, fun _ _ => rfl⟩, rfl, fun _ _ => rfl⟩

theorem keeps_setPort {p : Port} {x : PortState} (h : x.link = .lost ↔ (s.port p).link = .lost) : KeepsStanding s (setPort p x s) := by
  refine keeps_setPorts s fun q => ?_
  change ((setPort p x s).port q).link = .lost ↔ _
  rw [port_setPort]
  split
  · next e => rw [e, h]
  · rfl

theorem keeps_mapPorts {f : PortState → PortState} (h : ∀ x, (f x).link = x.link) : KeepsStanding s (mapPorts f s) := by
  refine keeps_setPorts s fun q => ?_
  change ((mapPorts f s).port q).link = .lost ↔ _
  rw [port_mapPorts, h]

theorem keeps_mapExec (f : FrameExec → FrameExec) (p : Port) : KeepsStanding s (mapExec f p s) := keeps_setPort s .rfl

/-! ## The operations of the owners but the readout -/

@[simp] theorem putDistance_tacho (d : Distance) : (putDistance d s).tacho = s.tacho := by
  unfold putDistance
  dsimp only
  split <;> rfl

/-- The distance counter with its mark and its condition (R53). -/
theorem keeps_putDistance (d : Distance) : KeepsStanding s (putDistance d s) := by
  have marked : KeepsStanding s (setCond .odoMismatch d.mismatch (s.setDist d)) := by
    refine ⟨fun h => ?_, fun h => h.congr rfl⟩
    obtain ⟨low, high, -, lost, stale, prewarn, limit⟩ := h
    constructor
    case odoMismatch => simp
    case linkLost => exact fun p => (linkLost_setCond (by rintro ⟨⟩ <;> decide) ..).trans (lost p)
    all_goals simpa
  exact keeps_ite (fun _ => marked.trans (steady_raiseItem ..).keeps) (fun _ => marked)

/-- The supply state with its conditions and the gauges held or resumed (R74, R103, R104). -/
theorem keeps_changeSupply (new : Supply) (n : Nat) : KeepsStanding s (changeSupply new n s) := by
  have judged : KeepsStanding s
      (setCond .supplyHigh (new == .high) (setCond .supplyLow (new == .low) (s.setConv { s.conv with supply := new, lowCount := n }))) := by
    refine ⟨fun h => ?_, fun h => h.congr rfl⟩
    obtain ⟨-, -, mark, lost, stale, prewarn, limit⟩ := h
    constructor
    case supplyLow | supplyHigh => simp
    case linkLost =>
      exact fun p => (linkLost_setCond (by rintro ⟨⟩ <;> decide) ..).trans ((linkLost_setCond (by rintro ⟨⟩ <;> decide) ..).trans (lost p))
    all_goals simpa
  exact keeps_ite (fun _ => judged.trans (steady_forGauges (fun _ g => g.hold_settings _) _).keeps) fun _ =>
    keeps_ite (fun _ => judged.trans (steady_forGauges (fun v g => g.resume_settings _ v) _).keeps) fun _ => judged

/-- A port whose link the condition follows (R175). -/
theorem keeps_setLink {p : Port} {x : PortState} {b : Bool} (hb : b = (x.link == .lost)) :
    KeepsStanding s (setCond (linkLostCondition p) b (setPort p x s)) := by
  refine ⟨fun h => ?_, fun h => h.congr rfl⟩
  obtain ⟨low, high, mark, lost, stale, prewarn, limit⟩ := h
  have other {c : Condition} (hc : ∀ p, c ≠ linkLostCondition p) : (setCond (linkLostCondition p) b (setPort p x s)).cond c = s.cond c := by
    rw [cond_setCond, if_neg (hc p), cond_setPort]
  constructor
  case linkLost =>
    intro q
    simp only [cond_setCond, linkLostCondition_inj, port_setCond, port_setPort]
    split
    · exact hb
    · exact lost q
  all_goals
    rw [other (fun p => by cases p <;> decide)]
    assumption

end

end Sys2Proof.Machine
end

section
/-! Proofs: the readout's operations (R138 to R143, R147): what each leaves of its figures and timers, and its conditions judged. -/

namespace Sys2Proof.Machine

/-! ## The judgements of R144 and R145 -/

section
variable {s : State} {st : ReadoutSettings}

theorem othersKept_judgeStale (s : State) : OthersKept s (judgeStale s) := .setCond (by decide) ..

theorem othersKept_judgeDriving (st : ReadoutSettings) (s : State) : OthersKept s (judgeDriving st s) :=
  .trans (.setCond (by decide) ..) (.setCond (by decide) ..)

theorem othersKept_judgeRecord (r : TachoRecord) (s : State) : OthersKept s (judgeRecord r s) :=
  .trans (.setCond (by decide) ..) (.setCond (by decide) ..)

theorem staleStands_judgeStale (s : State) : StaleStands (judgeStale s) := by simp [StaleStands, judgeStale]

theorem StaleStands.judgeDriving (h : StaleStands s) (st : ReadoutSettings) : StaleStands (judgeDriving st s) :=
  h.congr rfl (by simp [Machine.judgeDriving])

theorem drivingStands_judgeDriving (h : s.tacho.settings = some st) : DrivingStands (judgeDriving st s) := by
  intro st' hst
  obtain rfl : st = st' := Option.some_inj.mp (h.symm.trans hst)
  simp [judgeDriving]

theorem DrivingStands.judgeStale (h : DrivingStands s) : DrivingStands (judgeStale s) :=
  h.congr rfl .rfl rfl (by simp [Machine.judgeStale]) (by simp [Machine.judgeStale])

theorem DrivingStands.judgeRecord (h : DrivingStands s) (r : TachoRecord) : DrivingStands (judgeRecord r s) :=
  h.congr rfl .rfl rfl (by simp [Machine.judgeRecord]) (by simp [Machine.judgeRecord])

theorem steady_reportTacho (s : State) : Steady s (reportTacho s) := (steady_settleUnits true s).trans (steady_raiseItem ..)

end

/-! ## Records (R138, R139) -/

section
variable {s : State} {st : ReadoutSettings}

/-- Stage 1 of an arrival keeps the conditions; the readout that it leaves in NONE has a record, and stands again at stage 4. -/
theorem storeRecord_conditions (rec : TachoRecord) (h : ConditionsStand s) : ConditionsStand (storeRecord rec s) :=
  h.of_readout (.setTacho ..) (h.stale.congr rfl rfl) (h.driving.congr rfl .rfl rfl rfl rfl)

theorem becomeCurrent_conditions (rec : TachoRecord) (hst : s.tacho.settings = some st) (h : ConditionsStand s) :
    ConditionsStand (becomeCurrent st rec s) := by
  refine h.of_readout ?_ (staleStands_judgeStale _) (.judgeStale (.judgeRecord (drivingStands_judgeDriving ?_) rec))
  · exact .trans (.setTacho ..) (.trans (othersKept_judgeDriving ..) (.trans (othersKept_judgeRecord ..) (othersKept_judgeStale _)))
  · exact hst

/-- Whatever stood before: stages 4 and 5 of an arrival set all that the readout's invariant speaks of. -/
theorem becomeCurrent_readout (rec : TachoRecord) (hst : s.tacho.settings = some st) : ReadoutStands (becomeCurrent st rec s) where
  estimating := ⟨nofun, nofun⟩
  remaining st' hst' := by
    obtain rfl : st = st' := Option.some_inj.mp (hst.symm.trans hst')
    rfl
  none := nofun
  seconds := Nat.zero_lt_succ _

variable (s st)

theorem keeps_recordArrival (rec : TachoRecord) : KeepsStanding s (recordArrival rec s) := by
  unfold recordArrival
  split
  · exact .refl s
  · next st hst =>
    dsimp only
    have delivered := steady_deliverTo (.link .tlink) (.value rec.speed) 2 (storeRecord rec s)
    generalize deliverTo (.link .tlink) (.value rec.speed) 2 (storeRecord rec s) = u at delivered
    have taken := keeps_putDistance u (u.dist.adopt rec.odometer)
    have settings : (putDistance (u.dist.adopt rec.odometer) u).tacho.settings = some st := by
      rw [putDistance_tacho, delivered.tacho]
      exact hst
    have reported := (steady_reportTacho (becomeCurrent st rec (putDistance (u.dist.adopt rec.odometer) u))).trans
      (steady_signalEvent .tachoRecord _)
    exact ⟨fun h => reported.keeps.conditions
        (becomeCurrent_conditions rec settings (taken.conditions (delivered.keeps.conditions (storeRecord_conditions rec h)))),
      fun _ => reported.keeps.readout (becomeCurrent_readout rec settings)⟩

/-- A record's age counts only where there is a record, so not in NONE. -/
theorem keeps_setAge (n : Nat) (running : s.tacho.ageTimer.isRunning = true) : KeepsStanding s (s.setTacho { s.tacho with age := n }) where
  conditions h := h.of_readout (.setTacho ..) (h.stale.congr rfl rfl) (h.driving.congr rfl .rfl rfl rfl rfl)
  readout h := by
    refine ⟨h.estimating, h.remaining, fun hn => ?_, h.seconds⟩
    obtain ⟨-, -, stopped, -, -⟩ := h.none hn
    rw [stopped] at running
    exact absurd running nofun

theorem keeps_enterEstimated (current : s.tacho.state = .current) : KeepsStanding s (enterEstimated s) := by
  refine .trans ⟨fun h => ?_, fun h => ?_⟩ (steady_reportTacho _).keeps
  · refine h.of_readout (.trans (.setTacho ..) (othersKept_judgeStale _)) (staleStands_judgeStale _) (DrivingStands.judgeStale ?_)
    exact h.driving.congr rfl (by simp [current]) rfl rfl rfl
  · refine ⟨⟨fun _ => rfl, fun _ => rfl⟩, fun st hst => ?_, nofun, Nat.zero_lt_succ _⟩
    have remaining := h.remaining st hst
    rwa [if_neg (by simp [current])] at remaining

theorem keeps_recordAgeExpiry : KeepsStanding s (recordAgeExpiry st s) := by
  refine keeps_ite (fun running => ?_) (fun _ => .refl s)
  have aged := keeps_setAge s (min 65535 (s.tacho.age + 1)) running
  exact keeps_ite (fun h => aged.trans (keeps_enterEstimated _ h.1)) (fun _ => aged)

theorem keeps_onRecordAge : KeepsStanding s (onRecordAge s) := by
  unfold onRecordAge
  split
  · exact keeps_recordAgeExpiry ..
  · exact .refl s

end

/-! ## Estimation (R140, R141) -/

section
variable (st : ReadoutSettings) (driving : Bool) (r : Readout)

/-- The driving-second count of one more second of estimation, before it returns to 0 at 60. -/
def Readout.secondsAfter : Nat := r.drivingSeconds + driving.toNat

/-- A second of estimation in one equation: the count carries a minute at 60, and the 1,800th second ends the estimation. -/
theorem Readout.estimate_eq :
    r.estimate st driving =
      { r with
        state := if 1800 ≤ r.estimationTime + 1 then .lost else r.state
        continuous := if 60 ≤ r.secondsAfter driving then min 1440 (r.continuous + 1) else r.continuous
        daily := if 60 ≤ r.secondsAfter driving then min 1440 (r.daily + 1) else r.daily
        remaining :=
          if r.state = .none then 0
          else st.limit - if 60 ≤ r.secondsAfter driving then min 1440 (r.continuous + 1) else r.continuous
        estimation := if 1800 ≤ r.estimationTime + 1 then .stopped else r.estimation
        drivingSeconds := if 60 ≤ r.secondsAfter driving then 0 else r.secondsAfter driving
        estimationTime := r.estimationTime + 1 } := by
  have count : (if driving then r.drivingSeconds + 1 else r.drivingSeconds) = r.secondsAfter driving := by cases driving <;> rfl
  unfold Readout.estimate Readout.remainingTime
  simp only [count]
  by_cases minute : 60 ≤ r.secondsAfter driving <;> by_cases last : 1800 ≤ r.estimationTime + 1 <;> simp [minute, last]

variable {r} {s : State}

theorem readoutStands_estimate (hst : s.tacho.settings = some st) (running : s.tacho.estimation.isRunning = true) (h : ReadoutStands s) :
    ReadoutStands (s.setTacho (s.tacho.estimate st driving)) := by
  have known : s.tacho.state ≠ .none := by
    rw [h.estimating.mp running]
    exact nofun
  have after : (if 1800 ≤ s.tacho.estimationTime + 1 then .lost else s.tacho.state) ≠ ReadoutState.none := by
    split
    · exact nofun
    · exact known
  rw [Readout.estimate_eq]
  constructor
  case estimating =>
    simp only [State.setTacho_tacho]
    split
    · exact ⟨nofun, nofun⟩
    · exact h.estimating
  case remaining =>
    intro st' hst'
    obtain rfl : st = st' := Option.some_inj.mp (hst.symm.trans hst')
    exact (if_neg known).trans (if_neg after).symm
  case none => exact fun hn => absurd hn after
  case seconds =>
    simp only [State.setTacho_tacho]
    split <;> omega

theorem keeps_estimationExpiry (hst : s.tacho.settings = some st) : KeepsStanding s (estimationExpiry st s) := by
  refine keeps_ite (fun running => ?_) (fun _ => .refl s)
  dsimp only
  generalize drivingSecond st _ = driving
  have settings : (s.tacho.estimate st driving).settings = some st := by rw [Readout.estimate_eq, hst]
  have judged : KeepsStanding s (judgeStale (judgeDriving st (s.setTacho (s.tacho.estimate st driving)))) := by
    refine ⟨fun h => ?_, fun h => (readoutStands_estimate st driving hst running h).congr rfl⟩
    exact h.of_readout (.trans (.setTacho ..) (.trans (othersKept_judgeDriving ..) (othersKept_judgeStale _))) (staleStands_judgeStale _)
      (drivingStands_judgeDriving settings).judgeStale
  exact keeps_ite (fun _ => judged.trans (steady_reportTacho _).keeps) (fun _ => judged)

end

section
variable (s : State)

theorem keeps_onEstimation : KeepsStanding s (onEstimation s) := by
  unfold onEstimation
  split
  · next st hst => exact keeps_estimationExpiry st hst
  · exact .refl s

/-! ## The loss of the T-link and new settings (R142, R147) -/

/-- CURRENT and ESTIMATED become LOST alike. -/
theorem keeps_loseRecord (h : s.tacho.state = .current ∨ s.tacho.state = .estimated) :
    KeepsStanding s (reportTacho (judgeStale (s.setTacho { s.tacho with state := .lost, estimation := .stopped }))) := by
  have known : s.tacho.state ≠ .none := by rcases h with h | h <;> rw [h] <;> exact nofun
  refine .trans ⟨fun h => ?_, fun h => ?_⟩ (steady_reportTacho _).keeps
  · refine h.of_readout (.trans (.setTacho ..) (othersKept_judgeStale _)) (staleStands_judgeStale _) (DrivingStands.judgeStale ?_)
    exact h.driving.congr rfl (by simp [known]) rfl rfl rfl
  · refine ⟨⟨nofun, nofun⟩, fun st hst => ?_, nofun, h.seconds⟩
    have remaining := h.remaining st hst
    rwa [if_neg known] at remaining

theorem keeps_readoutLinkLoss : KeepsStanding s (readoutLinkLoss s) := by
  unfold readoutLinkLoss
  split
  · next h => exact keeps_loseRecord s (.inl h)
  · next h => exact keeps_loseRecord s (.inr h)
  · exact .refl s
  · exact .refl s

theorem keeps_takeReadoutSettings (c : Configuration) : KeepsStanding s (takeReadoutSettings c s) := by
  unfold takeReadoutSettings
  dsimp only
  generalize hr : ({ s.tacho with settings := some c.readout, remaining := _ } : Readout) = r
  have judged : KeepsStanding s (judgeDriving c.readout (s.setTacho r)) := by
    subst hr
    refine ⟨fun h => ?_, fun h => ⟨h.estimating, fun st hst => ?_, h.none, h.seconds⟩⟩
    · exact h.of_readout (.trans (.setTacho ..) (othersKept_judgeDriving ..)) (.judgeDriving (h.stale.congr rfl rfl) _)
        (drivingStands_judgeDriving rfl)
    · obtain rfl : c.readout = st := Option.some_inj.mp hst
      rfl
  exact keeps_ite (fun _ => judged) (fun _ => judged.trans (steady_reportTacho _).keeps)

end

end Sys2Proof.Machine
end

section
/-! Proofs: the other operations keep the readout and the conditions standing, and so the step of the part does (R143, R144). -/

namespace Sys2Proof.Machine

section
variable (s : State)

/-! ## Pulse unit -/

theorem keeps_takePulseSettings (c : Fin 4) (st : PulseSettings) : KeepsStanding s (takePulseSettings c st s) := by
  have taken := (steady_setChannel c (s.pulse[c].takeSettings st) s).keeps
  exact keeps_ite (fun _ => taken.trans (keeps_putDistance ..)) (fun _ => taken)

theorem keeps_takeOverPulse (c : Fin 4) : KeepsStanding s (takeOverPulse c s) := by
  unfold takeOverPulse
  split
  · exact keeps_takePulseSettings ..
  · exact .refl s

theorem keeps_firstGateStart (cfg : Configuration) (c : Fin 4) : KeepsStanding s (firstGateStart cfg c s) :=
  (keeps_takePulseSettings ..).trans (steady_startGate ..).keeps

theorem keeps_gateExpiry (c : Fin 4) (st : PulseSettings) : KeepsStanding s (gateExpiry c st s) := by
  have delivered (x : PulseChannel) (u : Update) : KeepsStanding s (deliver (.pulse c) u (setChannel c x s)) :=
    ((steady_setChannel c x s).trans (steady_deliver ..)).keeps
  unfold gateExpiry
  dsimp only
  refine .trans ?_ ((keeps_takeOverPulse _ c).trans (steady_startGate ..).keeps)
  exact keeps_ite (fun _ => (delivered ..).trans (steady_signalEvent ..).keeps) (fun _ => delivered ..)

theorem keeps_onGate (c : Fin 4) : KeepsStanding s (onGate c s) := by
  unfold onGate
  split
  · exact keeps_gateExpiry ..
  · exact .refl s

theorem keeps_capturedEdge (c : Fin 4) (st : PulseSettings) : KeepsStanding s (capturedEdge c st s) := by
  have accepted := (steady_setChannel c s.pulse[c].accept s).keeps
  refine keeps_ite (fun _ => ?_) (fun _ => (steady_setChannel ..).keeps)
  exact keeps_ite (fun _ => accepted.trans (keeps_putDistance ..)) (fun _ => accepted)

theorem keeps_onEdge (c : Fin 4) (edge : EdgeKind) : KeepsStanding s (onEdge c edge s) := by
  unfold onEdge
  split
  · exact keeps_ite (fun _ => keeps_capturedEdge ..) (fun _ => .refl s)
  · exact .refl s

/-! ## Sender converter -/

theorem keeps_onTestsDone (zero full : AdcCode) : KeepsStanding s (onTestsDone zero full s) := by
  have judged (b : Bool) : KeepsStanding s (setCond .adcTestFail b s) := keeps_setCond s (by decide) b
  unfold onTestsDone
  split
  · next p _ =>
    refine keeps_ite (fun _ => keeps_ite (fun _ => ?passed) (fun _ => ?failed)) (fun _ => .refl s)
    case passed => exact (judged false).trans (steady_setPass ..).keeps
    case failed =>
      have delivered := steady_foldl _ (fun s i => steady_deliverTestFail i s) p.todo (setCond .adcTestFail true s)
      exact (judged true).trans (delivered.trans (steady_setPass ..)).keeps
  · exact .refl s

theorem keeps_supplyJudgement (v : Int) : KeepsStanding s (supplyJudgement v s) := keeps_changeSupply ..

theorem keeps_scanResult (st : ConverterSettings) (parked : Bool) (i : Fin 16) (d : ScanSlot) (avg : Nat) :
    KeepsStanding s (scanResult st parked i d avg s) := by
  have fault (c : FaultCause) : KeepsStanding s (deliver (.analog d.channel) (.fault c) (clearRefuel i s)) :=
    ((steady_clearRefuel i s).trans (steady_deliver ..)).keeps
  have value (z : ScanState) (v : Int) : KeepsStanding s (deliver (.analog d.channel) (.value v) (setScanState i z s)) :=
    ((steady_setScanState i z s).trans (steady_deliver ..)).keeps
  refine keeps_ite (fun _ => .refl s) (fun _ => ?_)
  split
  · exact keeps_ite (fun _ => (fault _).trans (steady_addWakeCause ..).keeps) (fun _ => fault _)
  · refine keeps_ite (fun _ => fault .curve) (fun _ => ?_)
    exact keeps_ite (fun _ => (value ..).trans (keeps_supplyJudgement ..)) (fun _ => value ..)

theorem keeps_takeConversion (p : Pass) (i : Fin 16) (code sum taken : Nat) : KeepsStanding s (takeConversion p i code sum taken s) := by
  unfold takeConversion
  split
  · exact keeps_ite (fun _ => (steady_setPass ..).keeps) (fun _ => (keeps_scanResult ..).trans (steady_setPass ..).keeps)
  · exact .refl s
  · exact .refl s

theorem keeps_onConversion (code : AdcCode) : KeepsStanding s (onConversion code s) := by
  unfold onConversion
  split
  · unfold endConversion
    split
    · exact (steady_setPass ..).keeps
    · exact keeps_takeConversion ..
    all_goals exact .refl s
  · exact .refl s

/-! ## Frames and links -/

theorem keeps_acceptFrame (p : Port) (n : Byte) (body : List Byte) : KeepsStanding s (acceptFrame p n body s) := by
  unfold acceptFrame
  dsimp only
  by_cases lost : (s.port p).link = .lost
  · rw [if_pos lost]
    exact keeps_setLink s (p := p) rfl
  · rw [if_neg lost]
    exact keeps_setPort s (iff_of_false nofun lost)

theorem keeps_takeVerdict (p : Port) (v : Verdict) : KeepsStanding s (takeVerdict p v s) := by
  cases v with
  | good n body => exact keeps_acceptFrame ..
  | bad o n => exact keeps_setPort s (by rfl)

theorem keeps_frameArrived (p : Port) (v : Verdict) : KeepsStanding s (frameArrived p v s) :=
  keeps_ite (fun _ => keeps_setPort s (by rfl)) (fun _ => keeps_takeVerdict ..)

theorem keeps_openPeriod (p : Port) : KeepsStanding s (openPeriod p s) := by
  unfold openPeriod
  dsimp only
  split
  · exact keeps_setPort s (by rfl)
  all_goals exact .refl s

theorem keeps_endPeriod (p : Port) (bytes : List Byte) : KeepsStanding s (endPeriod p bytes s) := by
  have closed : KeepsStanding s (setPort p ((s.port p).closePeriod bytes) s) := keeps_setPort s (by rfl)
  refine keeps_ite (fun _ => closed) (fun _ => ?_)
  split
  · exact closed.trans (keeps_frameArrived ..)
  · exact closed

theorem keeps_setReceiver (r : Receiver) : KeepsStanding s (setReceiver r s) := keeps_setPort s (by rfl)

theorem keeps_tlinkFrame (began : Bool) (v : Verdict) (next : Receiver) : KeepsStanding s (tlinkFrame began v next s) :=
  .trans (keeps_ite (fun _ => keeps_setPort s (by rfl)) (fun _ => keeps_takeVerdict ..)) (keeps_setReceiver ..)

theorem keeps_tlinkFrameByte (bs : List Byte) (began : Bool) (b : Byte) (stopBit : Bool) :
    KeepsStanding s (tlinkFrameByte bs began b stopBit s) :=
  keeps_ite (fun _ => keeps_tlinkFrame ..) fun _ => keeps_ite (fun _ => keeps_tlinkFrame ..) fun _ =>
    keeps_ite (fun _ => keeps_tlinkFrame ..) fun _ => keeps_setReceiver ..

theorem keeps_tlinkOpening (b : Byte) (stopBit : Bool) : KeepsStanding s (tlinkOpening b stopBit s) :=
  keeps_ite (fun _ => .refl s) fun _ => keeps_ite (fun _ => keeps_setReceiver ..) fun _ =>
    keeps_ite (fun _ => keeps_tlinkFrame ..) fun _ => .refl s

theorem keeps_tlinkByte (b : Byte) (stopBit : Bool) : KeepsStanding s (tlinkByte b stopBit s) := by
  unfold tlinkByte
  split
  · exact keeps_tlinkOpening ..
  · exact keeps_tlinkFrameByte ..
  · exact .refl s

theorem keeps_tlinkGap : KeepsStanding s (tlinkGap s) := by
  unfold tlinkGap
  split
  · exact .refl s
  · exact keeps_tlinkFrame ..
  · exact keeps_setReceiver ..

/-- The loss of a link, for the T-link with the readout's (R142, R175). -/
theorem keeps_loseLink (p : Port) : KeepsStanding s (loseLink p s) := by
  have lost : KeepsStanding s (clearPortClaims p (forceLost p
      (setCond (linkLostCondition p) true (setPort p { s.port p with link := .lost, linkTimer := .stopped } s)))) :=
    (keeps_setLink s rfl).trans ((steady_forceLost ..).trans (steady_clearPortClaims ..)).keeps
  exact keeps_ite (fun _ => lost.trans (keeps_readoutLinkLoss _)) (fun _ => lost)

theorem keeps_linkExpiry (p : Port) : KeepsStanding s (linkExpiry p s) := keeps_ite (fun _ => keeps_loseLink ..) (fun _ => .refl s)

/-! ## Resets, the configuration load and the end of a commit -/

/-- A restart keeps CONFIG_DEFAULTS and ODO_MISMATCH alone (R53, R189). -/
theorem cond_restart (c : Condition) : (restart s).cond c = ((c == .configDefaults || c == .odoMismatch) && s.cond c) := by
  cases c <;> simp [State.cond, restart, keptConditions, Condition.index]

theorem keeps_restart : KeepsStanding s (restart s) where
  conditions h := by
    constructor
    case odoMismatch => rw [cond_restart, h.odoMismatch]; rfl
    case linkLost => rintro ⟨⟩ <;> rw [cond_restart] <;> rfl
    case tachoPrewarn | tachoLimit => exact nofun
    all_goals rw [cond_restart]; rfl
  readout _ := ⟨⟨nofun, nofun⟩, nofun, fun _ => ⟨rfl, rfl, rfl, rfl, rfl⟩, Nat.zero_lt_succ _⟩

theorem keeps_powerOn (strap : BitRate) : KeepsStanding s (powerOn strap s) where
  conditions _ := ⟨rfl, rfl, rfl, fun p => by cases p <;> rfl, rfl, nofun, nofun⟩
  readout _ := ⟨⟨nofun, nofun⟩, nofun, fun _ => ⟨rfl, rfl, rfl, rfl, rfl⟩, Nat.zero_lt_succ _⟩

theorem keeps_requestRestart : KeepsStanding s (requestRestart s) :=
  keeps_ite (fun _ => (steady_setCycle ..).keeps) (fun _ => keeps_restart s)

theorem keeps_takeTimeouts (c : Configuration) : KeepsStanding s (takeTimeouts c s) := keeps_setPorts s fun p => by cases p <;> rfl

theorem keeps_startLinkTimers : KeepsStanding s (startLinkTimers s) := keeps_mapPorts s fun x => by split <;> rfl

theorem keeps_takeAllSettings (c : Configuration) : KeepsStanding s (takeAllSettings c s) :=
  .trans (steady_setCycle ..).keeps <|
  .trans (keeps_foldl _ (fun s i => keeps_firstGateStart s c i) ..) <|
  .trans ((steady_takeConverterSettings c _).trans (steady_setSwitches ..)).keeps <|
  .trans ((steady_setGauges ..).trans (steady_takeLampSettings c _)).keeps <|
  .trans (keeps_takeReadoutSettings _ c) <|
  .trans (keeps_takeTimeouts _ c) (keeps_startLinkTimers _)

theorem keeps_loadExit : KeepsStanding s (loadExit s) := by
  unfold loadExit
  split
  · next c _ => exact (keeps_takeAllSettings s c).trans ((steady_leaveLoad _).trans (steady_settleUnits false _)).keeps
  · exact .refl s

/-- A distance counter with another tolerance. -/
theorem keeps_setTolerance (n : Nat) : KeepsStanding s (s.setDist { s.dist with tolerance := n }) := keeps_setDist s rfl

theorem keeps_takeLoaded : KeepsStanding s (takeLoaded s) := by
  unfold takeLoaded
  split
  · exact (keeps_setTolerance ..).trans (steady_setSignals ..).keeps
  · exact .refl s

theorem keeps_loadImage : KeepsStanding s (loadImage s) :=
  .trans (keeps_setStore s _) (.trans (keeps_setCond (c := .configDefaults) _ (by decide) _) (keeps_takeLoaded _))

theorem keeps_onLoadComplete : KeepsStanding s (onLoadComplete s) :=
  keeps_ite (fun _ => (keeps_loadImage s).trans (keeps_loadExit _)) (fun _ => .refl s)

theorem keeps_onRestartLoadEnd : KeepsStanding s (onRestartLoadEnd s) := keeps_ite (fun _ => keeps_loadExit s) (fun _ => .refl s)

theorem keeps_handConfiguration (c : Configuration) : KeepsStanding s (handConfiguration c s) := by
  have table : KeepsStanding s (noticeAllEntries (emptyTable c.descriptors s)) :=
    ((steady_setSignals ..).trans (steady_noticeAllEntries _)).keeps
  have consumers (u : State) : KeepsStanding u (commitGauges c (settleUnits true (commitLampSettings c (commitSwitches c u)))) :=
    (((steady_commitSwitches c u).trans (steady_commitLampSettings c _)).trans
      ((steady_settleUnits true _).trans (steady_commitGauges c _))).keeps
  have timing (u : State) : KeepsStanding u (setTakeOvers (takeWindowLength c (takeTimeouts c u))) :=
    (keeps_takeTimeouts u c).trans ((steady_setCycle ..).trans (steady_setTakeOvers _)).keeps
  unfold handConfiguration
  exact table.trans ((keeps_setTolerance ..).trans ((consumers _).trans ((keeps_takeReadoutSettings _ c).trans (timing _))))

theorem keeps_closeCommit : KeepsStanding s (closeCommit s) :=
  .trans (keeps_setStore s _) (.trans (keeps_setCond (c := .configDefaults) _ (by decide) _) (steady_setCycle ..).keeps)

theorem keeps_afterCommit : KeepsStanding s (afterCommit s) :=
  keeps_ite (fun _ => keeps_restart s) fun _ => keeps_ite (fun _ => (steady_enterStarting s).keeps) (fun _ => .refl s)

theorem keeps_onCommitEnd : KeepsStanding s (onCommitEnd s) := by
  refine keeps_ite (fun _ => ?_) (fun _ => .refl s)
  unfold commitEnd
  split
  · exact .trans (keeps_setStore s _) (.trans (keeps_handConfiguration ..) (.trans (keeps_closeCommit _) (keeps_afterCommit _)))
  · exact .refl s

/-! ## Requests -/

theorem keeps_pushResult (p : Port) (o : RequestOutcome) (n : Nat) (data : List Byte) : KeepsStanding s (pushResult p o n data s) :=
  keeps_ite (fun _ => (keeps_mapExec ..).trans (keeps_setPort _ (by rfl))) (fun _ => keeps_mapExec ..)

theorem keeps_setCursor (p : Port) (r : Region) (i : Nat) : KeepsStanding s (setCursor p r i s) := keeps_setPort s (by rfl)

theorem keeps_runControl (p : Port) (i : Nat) : KeepsStanding s (runControl p i s) := by
  refine keeps_ite (fun _ => ?commit) fun _ => keeps_ite (fun _ => keeps_requestRestart s) (fun _ => (steady_setCycle ..).keeps)
  case commit => exact .trans (keeps_setStore s _) (.trans (steady_setCycle ..).keeps (keeps_mapExec ..))

theorem PortState.setWatch_link (j bits : Nat) (x : PortState) : (x.setWatch j bits).link = x.link := by simp [PortState.setWatch]

theorem keeps_writeElement (r : Region) (p : Port) (i : Nat) (data : List Byte) : KeepsStanding s (writeElement r p i data s) := by
  cases r with
  | signals =>
    simp only [writeElement]
    cases finOf 64 i with
    | none => exact .refl s
    | some e => exact (steady_deliverTo ..).keeps
  | telltales =>
    simp only [writeElement]
    cases finOf 40 i with
    | none => exact .refl s
    | some t => exact (steady_setLamps ..).keeps
  | chimes =>
    simp only [writeElement]
    cases finOf 8 i with
    | none => exact .refl s
    | some k => exact (steady_setLamps ..).keeps
  | tacho => exact keeps_recordArrival ..
  | distance => exact keeps_putDistance ..
  | watch =>
    simp only [writeElement]
    exact keeps_setPort s (by rw [PortState.setWatch_link])
  | config => exact keeps_setStore ..
  | control => exact keeps_runControl ..
  | directory | signalDetail | gauges | links | cycleState => exact .refl s

theorem keeps_applyWrite (p : Port) (r : Region) (first count : Nat) (items : List (Nat × List Byte)) :
    KeepsStanding s (applyWrite p r first count items s) :=
  .trans (keeps_setCursor ..) <|
  .trans (keeps_foldl _ (fun s (it : Nat × List Byte) => keeps_writeElement s r p it.1 it.2) ..) (keeps_pushResult ..)

theorem keeps_runWrite (p : Port) (r : Region) (index count : Nat) (data : List Byte) : KeepsStanding s (runWrite p r index count data s) := by
  refine keeps_ite (fun _ => keeps_pushResult ..) fun _ => keeps_ite (fun _ => keeps_pushResult ..) fun _ => ?_
  dsimp only
  split
  · exact keeps_pushResult ..
  · exact keeps_applyWrite ..

theorem keeps_runRead (p : Port) (region index count : Nat) : KeepsStanding s (runRead p region index count s) := by
  unfold runRead
  split
  · exact keeps_pushResult ..
  · refine keeps_ite (fun _ => keeps_pushResult ..) fun _ => keeps_ite (fun _ => keeps_pushResult ..) fun _ => ?_
    exact .trans (keeps_ite (fun _ => .refl s) (fun _ => keeps_setCursor ..)) (keeps_pushResult ..)

theorem keeps_runWait (p : Port) (index count : Nat) : KeepsStanding s (runWait p index count s) := by
  unfold runWait
  split
  · exact keeps_pushResult ..
  · exact keeps_ite (fun _ => keeps_pushResult ..) fun _ => keeps_ite (fun _ => keeps_pushResult ..) fun _ =>
      (keeps_mapExec ..).trans (keeps_setPort _ (by rfl))

theorem keeps_runChanges (p : Port) (count : Nat) : KeepsStanding s (runChanges p count s) :=
  keeps_ite (fun _ => keeps_pushResult ..) (fun _ => (keeps_setPort s (by rfl)).trans (keeps_pushResult ..))

theorem keeps_runRequest (p : Port) (q : Request) : KeepsStanding s (runRequest p q s) := by
  cases q with
  | read region index count => exact keeps_runRead ..
  | write r index count data => exact keeps_runWrite ..
  | wait index count => exact keeps_runWait ..
  | changes count => exact keeps_runChanges ..
  | faulty o => exact keeps_pushResult ..

/-! ## Frames, commands and the step -/

theorem keeps_finishFrame (p : Port) (f : FrameExec) : KeepsStanding s (finishFrame p f s) := by
  have resumed (inLoad : Bool) (x : PortState) : (resumeLinkTimer inLoad x).link = x.link := by
    unfold resumeLinkTimer
    split <;> rfl
  have ended := keeps_setPort s (p := p) (x := resumeLinkTimer s.inLoad
    { s.port p with exec := none, reply := some (replyFrame f.sequence .ok f.results) }) (by rw [resumed])
  exact keeps_ite (fun _ => ended.trans (keeps_setStore ..)) (fun _ => ended)

theorem keeps_advanceFrame (p : Port) : KeepsStanding s (advanceFrame p s) := by
  unfold advanceFrame
  split
  · exact .refl s
  · split
    · exact keeps_finishFrame ..
    · exact .trans (keeps_setPort s (by rfl)) (.trans (keeps_runRequest ..) (steady_finishEvent ..).keeps)

/-- The end of an event and the frames that run behind it. -/
theorem keeps_complete {s u : State} (before : State) (h : KeepsStanding s u) : KeepsStanding s (complete before u) :=
  complete_keeps (P := KeepsStanding s) (fun _ _ ht => ht.trans (steady_finishEvent ..).keeps)
    (fun p t _ ht => ht.trans (keeps_advanceFrame t p)) before u h

/-- Every command answers a state in which both invariants stand where they stood before. -/
theorem exec_keeps (c : Instr) : ∃ t, exec c s = .next t ∧ KeepsStanding s t := by
  have ends {u : State} (he : exec c s = .next (complete s u)) (h : KeepsStanding s u) : ∃ t, exec c s = .next t ∧ KeepsStanding s t :=
    ⟨_, he, keeps_complete s h⟩
  cases c with
  | powerOnReset strap => exact ⟨_, rfl, keeps_powerOn s strap⟩
  | configLoadComplete => exact ends rfl (keeps_onLoadComplete s)
  | restartLoadEnd => exact ends rfl (keeps_onRestartLoadEnd s)
  | agingTimerExpiry => exact ends rfl (steady_ageTable s).keeps
  | reclaimTimerExpiry => exact ends rfl (steady_reclaimExpiry ..).keeps
  | disagreementTimerExpiry => exact ends rfl (steady_disagreementExpiry ..).keeps
  | pulseEdge => exact ends rfl ((steady_advanceCounter ..).keeps.trans (keeps_onEdge ..))
  | gateExpiry => exact ends rfl ((steady_advanceCounter ..).keeps.trans (keeps_onGate ..))
  | scanTimerExpiry => exact ends rfl (steady_onScanTimer s).keeps
  | parkedTimerExpiry => exact ends rfl (steady_onParkedTimer s).keeps
  | testConversionsDone => exact ends rfl (keeps_onTestsDone ..)
  | settleTimeExpiry => exact ends rfl (steady_onSettled s).keeps
  | conversionDone => exact ends rfl (keeps_onConversion ..)
  | rawLevelChange => exact ends rfl (steady_onRawLevel ..).keeps
  | debounceTimerExpiry => exact ends rfl (steady_onDebounce ..).keeps
  | motionTimerExpiry => exact ends rfl (steady_putGauge ..).keeps
  | homingTimerExpiry => exact ends rfl (steady_putGauge ..).keeps
  | flasherPhaseChange => exact ends rfl (steady_onFlasher ..).keeps
  | openCheckTimerExpiry => exact ends rfl (steady_onOpenCheck ..).keeps
  | lampShort => exact ends rfl (steady_onShort ..).keeps
  | retryTimerExpiry => exact ends rfl (steady_onRetry ..).keeps
  | chimeOnTimeExpiry => exact ends rfl (steady_changePlaying ..).keeps
  | chimeOffTimeExpiry => exact ends rfl (steady_changePlaying ..).keeps
  | recordAgeTimerExpiry => exact ends rfl (keeps_onRecordAge s)
  | estimationTimerExpiry => exact ends rfl (keeps_onEstimation s)
  | bulbCheckExpiry => exact ends rfl (steady_onBulbCheck s).keeps
  | commitEnd => exact ends rfl (keeps_onCommitEnd s)
  | spiPeriodEnd => exact ends rfl (keeps_endPeriod ..)
  | tlinkByteReceived => exact ends rfl (keeps_tlinkByte ..)
  | tlinkGapTimeout => exact ends rfl (keeps_tlinkGap s)
  | tlinkReplySent => exact ends rfl (keeps_setPort s (by rfl))
  | waitTimerExpiry => exact ends rfl (keeps_mapExec ..)
  | linkTimerExpiry => exact ends rfl (keeps_linkExpiry ..)
  | chipSelectActive => exact ends rfl (keeps_openPeriod ..)

theorem step_keeps {s t : State} (h : step s = .next t) : KeepsStanding s t := by
  obtain rfl | ⟨c, rest, -, hx⟩ := step_cases h
  · exact .refl _
  · obtain ⟨u, hu, k⟩ := exec_keeps (s.setPending rest) c
    cases hu.symm.trans hx
    exact (keeps_setPending s rest).trans k

end

/-- Settles O4: every command keeps the conditions as their owners give them, by `step_keeps`. -/
theorem conditionsStandKept : Obligations.ConditionsStandKept := by
  unfold Obligations.ConditionsStandKept
  exact fun s t stands h => (step_keeps h).conditions stands

/-- Settles O6: every command keeps the readout's figures and timers, by `step_keeps`. -/
theorem readoutStandsKept : Obligations.ReadoutStandsKept := by
  unfold Obligations.ReadoutStandsKept
  exact fun s t stands h => (step_keeps h).readout stands

end Sys2Proof.Machine
end

section
/-! Proofs: the change list and the watch set of one port: a WATCH element written and read, a notice, and what keeps the list legal (R175, R176). -/

namespace Sys2Proof.Machine

/-! ## The bits of a byte -/

theorem bitOf_eq_testBit (n k : Nat) : bitOf n k = n.testBit k := by
  rw [bitOf, Nat.testBit_eq_decide_div_mod_eq, beq_eq_decide]

theorem flagsOf_testBit : ∀ (l : List Bool) (k : Nat), (flagsOf l).testBit k = l.getD k false
  | [], k => Nat.zero_testBit k
  | b :: l, 0 => by cases b <;> simp [flagsOf, Nat.testBit_zero, Nat.add_mod]
  | b :: l, k + 1 => by
    have rest : ((if b then 1 else 0) + 2 * flagsOf l) / 2 = flagsOf l := by split <;> omega
    rw [flagsOf, Nat.testBit_succ, rest, flagsOf_testBit l k, List.getD_cons_succ]

theorem byte_testBit {k : Nat} (h : k < 8) (n : Nat) : (byte n).toNat.testBit k = n.testBit k := by
  rw [byte, BitVec.toNat_ofNat, Nat.testBit_mod_two_pow, decide_eq_true h, Bool.true_and]

/-! ## WATCH elements (R176) -/

section
variable (x : PortState)

theorem PortState.setWatch_watch (j bits : Nat) (i : Fin 113) :
    (x.setWatch j bits).watch[i] = if (i : Nat) / 8 = j then bitOf bits (i % 8) else x.watch[i] := by
  simp [PortState.setWatch]

theorem PortState.setWatch_changes (j bits : Nat) :
    (x.setWatch j bits).changes = x.changes.filter fun i => (x.setWatch j bits).watch[i] := by
  simp only [PortState.setWatch]

/-- Items 113 to 119, the last seven of element 14, do not exist. -/
theorem judgeWatch_eq (j : Nat) (b : Byte) : judgeWatch j [b] = if j = 14 ∧ 1 < b.toNat then some .range else none := by
  simp [judgeWatch, refuseIf, byteAt]

/-- A WATCH element read shows the membership of its eight items. -/
theorem watchByte_bits (w : Vector Bool 113) (j : Nat) :
    ∃ b, watchByte w j = [b] ∧ ∀ i : Fin 113, (i : Nat) / 8 = j → bitOf b.toNat (i % 8) = w[i] := by
  refine ⟨_, rfl, fun i hi => ?_⟩
  have bit : (i : Nat) % 8 < 8 := Nat.mod_lt _ (by decide)
  have item : 8 * j + (i : Nat) % 8 = i := hi ▸ Nat.div_add_mod (i : Nat) 8
  rw [bitOf_eq_testBit, byte_testBit bit, flagsOf_testBit, List.getD_eq_getElem _ _ (by simpa using bit)]
  simp [item]

/-! ## The change list -/

/-- A notice puts a watched item that is not listed at the tail (R176). -/
theorem PortState.notice_changes (i : Fin 113) :
    (x.notice i).changes = if x.watch[i] = true ∧ i ∉ x.changes then x.changes ++ [i] else x.changes := by
  unfold PortState.notice
  by_cases h : x.watch[i] = true ∧ i ∉ x.changes
  · rw [if_pos h, if_pos (by simpa using h), PortState.signal_changes]
  · rw [if_neg h, if_neg (by simpa using h)]

variable {x}

theorem PortState.listLegal_of_nil (h : x.changes = []) : x.listLegal := by simp [PortState.listLegal, h]

/-- A legal list holds no more items than there are. -/
theorem PortState.listLegal.length_le (h : x.listLegal) : x.changes.length ≤ 113 := by
  simpa using h.1.length_le_card

theorem PortState.listLegal.setWatch (h : x.listLegal) (j bits : Nat) : (x.setWatch j bits).listLegal := by
  obtain ⟨nodup, -⟩ := h
  rw [PortState.listLegal, PortState.setWatch_changes]
  exact ⟨nodup.filter _, fun i hi => (List.mem_filter.mp hi).2⟩

/-- A CHANGES request takes items from the head (R177). -/
theorem PortState.listLegal.drop (h : x.listLegal) (n : Nat) : ({ x with changes := x.changes.drop n } : PortState).listLegal := by
  obtain ⟨nodup, watched⟩ := h
  exact ⟨nodup.sublist (List.drop_sublist ..), fun i hi => watched i (List.mem_of_mem_drop hi)⟩

/-- The watched items, listed afresh as a link recovers (R175). -/
theorem PortState.listLegal.recover (h : x.listLegal) : x.recover.listLegal := by
  unfold PortState.recover
  split
  · have nodup : (watchedItems x.watch).Nodup := (List.nodup_finRange 113).filter _
    exact ⟨nodup, fun i hi => (List.mem_filter.mp hi).2⟩
  · exact h

end

end Sys2Proof.Machine
end

section
/-! Proofs: every operation, request and command keeps the change lists legal, and so the step of the part does (R176). -/

namespace Sys2Proof.Machine

/-- From `s` to `t` every port's change list stays legal. -/
structure ListsKept (s t : State) : Prop where
  port : ∀ p, (s.port p).listLegal → (t.port p).listLegal

section
variable {s t u : State}

theorem ListsKept.lists (h : ListsKept s t) (legal : ListsLegal s) : ListsLegal t := fun p => h.port p (legal p)

theorem ListsKept.refl (s : State) : ListsKept s s := ⟨fun _ => id⟩

theorem ListsKept.trans (a : ListsKept s t) (b : ListsKept t u) : ListsKept s u := ⟨fun p => b.port p ∘ a.port p⟩

theorem ListsKept.of_ports (h : t.ports = s.ports) : ListsKept s t := ⟨fun p => by rw [State.port, State.port, h]; exact id⟩

/-- Notices and events keep the lists legal (`PortKept`), and with them all that reports and signals alone. -/
theorem PortsTook.lists (h : PortsTook s t) : ListsKept s t := ⟨fun p => (h.kept p).legal⟩

theorem Steady.lists (h : Steady s t) : ListsKept s t := h.ports.lists

/-- A choice between two operations that keep the lists legal. -/
theorem lists_ite {p : Prop} [Decidable p] (ht : p → ListsKept s t) (hu : ¬p → ListsKept s u) : ListsKept s (if p then t else u) := by
  split
  · exact ht ‹_›
  · exact hu ‹_›

theorem lists_foldl {α : Type} (f : State → α → State) (h : ∀ s i, ListsKept s (f s i)) (l : List α) (s : State) : ListsKept s (l.foldl f s) :=
  foldl_rel ListsKept.refl (fun _ _ _ => .trans) f h l s

end

section
variable (s : State)

theorem lists_setDist (d : Distance) : ListsKept s (s.setDist d) := .of_ports rfl
theorem lists_setTacho (r : Readout) : ListsKept s (s.setTacho r) := .of_ports rfl
theorem lists_setStore (x : ConfigStore) : ListsKept s (s.setStore x) := .of_ports rfl
theorem lists_setPending (x : List Instr) : ListsKept s (s.setPending x) := .of_ports rfl
theorem lists_setCond (c : Condition) (b : Bool) : ListsKept s (setCond c b s) := .of_ports rfl

theorem lists_setPort {p : Port} {x : PortState} (h : (s.port p).listLegal → x.listLegal) : ListsKept s (setPort p x s) := by
  refine ⟨fun q => ?_⟩
  rw [port_setPort]
  split
  · next e => exact e ▸ h
  · exact id

theorem lists_mapPorts {f : PortState → PortState} (h : ∀ x, x.listLegal → (f x).listLegal) : ListsKept s (mapPorts f s) :=
  ⟨fun q => by rw [port_mapPorts]; exact h _⟩

theorem lists_mapExec (f : FrameExec → FrameExec) (p : Port) : ListsKept s (mapExec f p s) := lists_setPort s id

/-! ## Distance counter and pulse unit -/

theorem lists_putDistance (d : Distance) : ListsKept s (putDistance d s) :=
  have marked : ListsKept s (setCond .odoMismatch d.mismatch (s.setDist d)) := (lists_setDist ..).trans (lists_setCond ..)
  lists_ite (fun _ => marked.trans (steady_raiseItem ..).lists) (fun _ => marked)

theorem lists_takePulseSettings (c : Fin 4) (st : PulseSettings) : ListsKept s (takePulseSettings c st s) :=
  have taken := (steady_setChannel c (s.pulse[c].takeSettings st) s).lists
  lists_ite (fun _ => taken.trans (lists_putDistance ..)) (fun _ => taken)

theorem lists_takeOverPulse (c : Fin 4) : ListsKept s (takeOverPulse c s) := by
  unfold takeOverPulse
  split
  · exact lists_takePulseSettings ..
  · exact .refl s

theorem lists_onGate (c : Fin 4) : ListsKept s (onGate c s) := by
  have delivered (x : PulseChannel) (v : Update) : ListsKept s (deliver (.pulse c) v (setChannel c x s)) :=
    ((steady_setChannel c x s).trans (steady_deliver ..)).lists
  unfold onGate
  split
  · refine .trans ?_ ((lists_takeOverPulse _ c).trans (steady_startGate ..).lists)
    exact lists_ite (fun _ => (delivered ..).trans (steady_signalEvent ..).lists) (fun _ => delivered ..)
  · exact .refl s

theorem lists_capturedEdge (c : Fin 4) (st : PulseSettings) : ListsKept s (capturedEdge c st s) :=
  have accepted := (steady_setChannel c s.pulse[c].accept s).lists
  lists_ite (fun _ => lists_ite (fun _ => accepted.trans (lists_putDistance ..)) (fun _ => accepted)) (fun _ => (steady_setChannel ..).lists)

theorem lists_onEdge (c : Fin 4) (edge : EdgeKind) : ListsKept s (onEdge c edge s) := by
  unfold onEdge
  split
  · exact lists_ite (fun _ => lists_capturedEdge ..) (fun _ => .refl s)
  · exact .refl s

/-! ## Sender converter -/

theorem lists_onTestsDone (zero full : AdcCode) : ListsKept s (onTestsDone zero full s) := by
  unfold onTestsDone
  split
  · next p _ =>
    refine lists_ite (fun _ => lists_ite (fun _ => ?passed) (fun _ => ?failed)) (fun _ => .refl s)
    case passed => exact (lists_setCond ..).trans (steady_setPass ..).lists
    case failed =>
      have delivered := steady_foldl _ (fun s i => steady_deliverTestFail i s) p.todo (setCond .adcTestFail true s)
      exact (lists_setCond ..).trans (delivered.trans (steady_setPass ..)).lists
  · exact .refl s

theorem lists_changeSupply (new : Supply) (n : Nat) : ListsKept s (changeSupply new n s) :=
  have replaced (x : Converter) : ListsKept s (s.setConv x) := .of_ports rfl
  have judged := (replaced { s.conv with supply := new, lowCount := n }).trans
    ((lists_setCond _ .supplyLow (new == .low)).trans (lists_setCond _ .supplyHigh (new == .high)))
  lists_ite (fun _ => judged.trans (steady_forGauges (fun _ g => g.hold_settings _) _).lists) fun _ =>
    lists_ite (fun _ => judged.trans (steady_forGauges (fun v g => g.resume_settings _ v) _).lists) fun _ => judged

theorem lists_supplyJudgement (v : Int) : ListsKept s (supplyJudgement v s) := lists_changeSupply ..

theorem lists_scanResult (st : ConverterSettings) (parked : Bool) (i : Fin 16) (d : ScanSlot) (avg : Nat) :
    ListsKept s (scanResult st parked i d avg s) := by
  have fault (c : FaultCause) : ListsKept s (deliver (.analog d.channel) (.fault c) (clearRefuel i s)) :=
    ((steady_clearRefuel i s).trans (steady_deliver ..)).lists
  have value (z : ScanState) (v : Int) : ListsKept s (deliver (.analog d.channel) (.value v) (setScanState i z s)) :=
    ((steady_setScanState i z s).trans (steady_deliver ..)).lists
  refine lists_ite (fun _ => .refl s) (fun _ => ?_)
  split
  · exact lists_ite (fun _ => (fault _).trans (steady_addWakeCause ..).lists) (fun _ => fault _)
  · refine lists_ite (fun _ => fault .curve) (fun _ => ?_)
    exact lists_ite (fun _ => (value ..).trans (lists_supplyJudgement ..)) (fun _ => value ..)

theorem lists_takeConversion (p : Pass) (i : Fin 16) (code sum taken : Nat) : ListsKept s (takeConversion p i code sum taken s) := by
  unfold takeConversion
  split
  · exact lists_ite (fun _ => (steady_setPass ..).lists) (fun _ => (lists_scanResult ..).trans (steady_setPass ..).lists)
  all_goals exact .refl s

theorem lists_onConversion (code : AdcCode) : ListsKept s (onConversion code s) := by
  unfold onConversion
  split
  · unfold endConversion
    split
    · exact (steady_setPass ..).lists
    · exact lists_takeConversion ..
    all_goals exact .refl s
  · exact .refl s

/-! ## Tachograph readout -/

theorem lists_judgeDriving (st : ReadoutSettings) : ListsKept s (judgeDriving st s) := (lists_setCond ..).trans (lists_setCond ..)

theorem lists_judgeStale : ListsKept s (judgeStale s) := lists_setCond ..

theorem lists_reportTacho : ListsKept s (reportTacho s) := (steady_reportTacho s).lists

/-- The readout replaced, TACHO_STALE judged and item 110 reported. -/
theorem lists_reportState (r : Readout) : ListsKept s (reportTacho (judgeStale (s.setTacho r))) :=
  (lists_setTacho ..).trans ((lists_judgeStale _).trans (lists_reportTacho _))

theorem lists_becomeCurrent (st : ReadoutSettings) (rec : TachoRecord) : ListsKept s (becomeCurrent st rec s) :=
  .trans (lists_setTacho ..) <| .trans (lists_judgeDriving ..) <| .trans (lists_setCond ..) <| .trans (lists_setCond ..) (lists_judgeStale _)

theorem lists_recordArrival (rec : TachoRecord) : ListsKept s (recordArrival rec s) := by
  unfold recordArrival
  split
  · exact .refl s
  · exact .trans (lists_setTacho ..) <| .trans (steady_deliverTo ..).lists <| .trans (lists_putDistance ..) <|
      .trans (lists_becomeCurrent ..) <| .trans (lists_reportTacho _) (steady_signalEvent ..).lists

theorem lists_onRecordAge : ListsKept s (onRecordAge s) := by
  unfold onRecordAge
  split
  · refine lists_ite (fun _ => ?_) (fun _ => .refl s)
    exact lists_ite (fun _ => (lists_setTacho ..).trans (lists_reportState ..)) (fun _ => lists_setTacho ..)
  · exact .refl s

theorem lists_onEstimation : ListsKept s (onEstimation s) := by
  unfold onEstimation
  split
  · next st _ =>
    have judged (r : Readout) : ListsKept s (judgeStale (judgeDriving st (s.setTacho r))) :=
      (lists_setTacho ..).trans ((lists_judgeDriving ..).trans (lists_judgeStale _))
    exact lists_ite (fun _ => lists_ite (fun _ => (judged _).trans (lists_reportTacho _)) (fun _ => judged _)) (fun _ => .refl s)
  · exact .refl s

theorem lists_readoutLinkLoss : ListsKept s (readoutLinkLoss s) := by
  unfold readoutLinkLoss
  split
  · exact lists_reportState ..
  · exact lists_reportState ..
  all_goals exact .refl s

theorem lists_takeReadoutSettings (c : Configuration) : ListsKept s (takeReadoutSettings c s) :=
  have judged (r : Readout) : ListsKept s (judgeDriving c.readout (s.setTacho r)) := (lists_setTacho ..).trans (lists_judgeDriving ..)
  lists_ite (fun _ => judged _) (fun _ => (judged _).trans (lists_reportTacho _))

/-! ## Frames and links -/

/-- A good frame, with which a LOST link's list is written afresh. -/
theorem lists_acceptFrame (p : Port) (n : Byte) (body : List Byte) : ListsKept s (acceptFrame p n body s) := by
  have recovered (u : State) (hu : u.ports = s.ports) (x : PortState) (hx : (s.port p).listLegal → x.listLegal) :
      ListsKept s (setPort p x u) :=
    (ListsKept.of_ports hu).trans (lists_setPort u (by rw [State.port, hu]; exact hx))
  refine recovered _ (by split <;> rfl) _ fun h => ?_
  exact PortState.listLegal.recover (x := { s.port p with counters := _ }) h

theorem lists_takeVerdict (p : Port) (v : Verdict) : ListsKept s (takeVerdict p v s) := by
  cases v with
  | good n body => exact lists_acceptFrame ..
  | bad o n => exact lists_setPort s id

theorem lists_busyFrame (p : Port) : ListsKept s (busyFrame p s) := lists_setPort s id

theorem lists_endPeriod (p : Port) (bytes : List Byte) : ListsKept s (endPeriod p bytes s) := by
  have closed : ListsKept s (setPort p ((s.port p).closePeriod bytes) s) := lists_setPort s id
  refine lists_ite (fun _ => closed) (fun _ => ?_)
  split
  · exact closed.trans (lists_ite (fun _ => lists_busyFrame ..) (fun _ => lists_takeVerdict ..))
  · exact closed

theorem lists_openPeriod (p : Port) : ListsKept s (openPeriod p s) := by
  unfold openPeriod
  dsimp only
  split
  · exact lists_setPort s id
  all_goals exact .refl s

theorem lists_setReceiver (r : Receiver) : ListsKept s (setReceiver r s) := lists_setPort s id

theorem lists_tlinkFrame (began : Bool) (v : Verdict) (next : Receiver) : ListsKept s (tlinkFrame began v next s) :=
  .trans (lists_ite (fun _ => lists_busyFrame ..) (fun _ => lists_takeVerdict ..)) (lists_setReceiver ..)

theorem lists_tlinkFrameByte (bs : List Byte) (began : Bool) (b : Byte) (stopBit : Bool) :
    ListsKept s (tlinkFrameByte bs began b stopBit s) :=
  lists_ite (fun _ => lists_tlinkFrame ..) fun _ => lists_ite (fun _ => lists_tlinkFrame ..) fun _ =>
    lists_ite (fun _ => lists_tlinkFrame ..) fun _ => lists_setReceiver ..

theorem lists_tlinkOpening (b : Byte) (stopBit : Bool) : ListsKept s (tlinkOpening b stopBit s) :=
  lists_ite (fun _ => .refl s) fun _ => lists_ite (fun _ => lists_setReceiver ..) fun _ =>
    lists_ite (fun _ => lists_tlinkFrame ..) fun _ => .refl s

theorem lists_tlinkByte (b : Byte) (stopBit : Bool) : ListsKept s (tlinkByte b stopBit s) := by
  unfold tlinkByte
  split
  · exact lists_tlinkOpening ..
  · exact lists_tlinkFrameByte ..
  · exact .refl s

theorem lists_tlinkGap : ListsKept s (tlinkGap s) := by
  unfold tlinkGap
  split
  · exact .refl s
  · exact lists_tlinkFrame ..
  · exact lists_setReceiver ..

theorem lists_linkExpiry (p : Port) : ListsKept s (linkExpiry p s) := by
  have lost : ListsKept s (setPort p { s.port p with link := .lost, linkTimer := .stopped } s) := lists_setPort s id
  have cleared (u : State) : ListsKept u (clearPortClaims p (forceLost p (setCond (linkLostCondition p) true u))) :=
    .trans (lists_setCond ..) ((steady_forceLost ..).trans (steady_clearPortClaims ..)).lists
  refine lists_ite (fun _ => ?_) (fun _ => .refl s)
  exact lists_ite (fun _ => lost.trans ((cleared _).trans (lists_readoutLinkLoss _))) (fun _ => lost.trans (cleared _))

/-! ## Resets, the configuration load and the end of a commit -/

/-- A reset empties the lists with the watch sets (R180). -/
theorem lists_restart : ListsKept s (restart s) := ⟨fun p _ => PortState.listLegal_of_nil (by cases p <;> rfl)⟩

theorem lists_powerOn (strap : BitRate) : ListsKept s (powerOn strap s) := ⟨fun p _ => PortState.listLegal_of_nil (by cases p <;> rfl)⟩

theorem lists_requestRestart : ListsKept s (requestRestart s) :=
  lists_ite (fun _ => (steady_setCycle ..).lists) (fun _ => lists_restart s)

theorem lists_takeTimeouts (c : Configuration) : ListsKept s (takeTimeouts c s) := ⟨fun p => by cases p <;> exact id⟩

theorem lists_startLinkTimers : ListsKept s (startLinkTimers s) := lists_mapPorts s fun x h => by split <;> exact h

theorem lists_takeAllSettings (c : Configuration) : ListsKept s (takeAllSettings c s) :=
  .trans (steady_setCycle ..).lists <|
  .trans (lists_foldl _ (fun s i => (lists_takePulseSettings s i c.pulse[i]).trans (steady_startGate ..).lists) ..) <|
  .trans ((steady_takeConverterSettings c _).trans (steady_setSwitches ..)).lists <|
  .trans ((steady_setGauges ..).trans (steady_takeLampSettings c _)).lists <|
  .trans (lists_takeReadoutSettings _ c) <|
  .trans (lists_takeTimeouts _ c) (lists_startLinkTimers _)

theorem lists_loadExit : ListsKept s (loadExit s) := by
  unfold loadExit
  split
  · next c _ => exact (lists_takeAllSettings s c).trans ((steady_leaveLoad _).trans (steady_settleUnits false _)).lists
  · exact .refl s

theorem lists_takeLoaded : ListsKept s (takeLoaded s) := by
  unfold takeLoaded
  split
  · exact (lists_setDist ..).trans (steady_setSignals ..).lists
  · exact .refl s

theorem lists_loadImage : ListsKept s (loadImage s) :=
  .trans (lists_setStore s _) (.trans (lists_setCond ..) (lists_takeLoaded _))

theorem lists_onLoadComplete : ListsKept s (onLoadComplete s) :=
  lists_ite (fun _ => (lists_loadImage s).trans (lists_loadExit _)) (fun _ => .refl s)

theorem lists_onRestartLoadEnd : ListsKept s (onRestartLoadEnd s) := lists_ite (fun _ => lists_loadExit s) (fun _ => .refl s)

theorem lists_handConfiguration (c : Configuration) : ListsKept s (handConfiguration c s) := by
  have table : ListsKept s (noticeAllEntries (emptyTable c.descriptors s)) :=
    ((steady_setSignals ..).trans (steady_noticeAllEntries _)).lists
  have consumers (u : State) : ListsKept u (commitGauges c (settleUnits true (commitLampSettings c (commitSwitches c u)))) :=
    (((steady_commitSwitches c u).trans (steady_commitLampSettings c _)).trans
      ((steady_settleUnits true _).trans (steady_commitGauges c _))).lists
  have timing (u : State) : ListsKept u (setTakeOvers (takeWindowLength c (takeTimeouts c u))) :=
    (lists_takeTimeouts u c).trans ((steady_setCycle ..).trans (steady_setTakeOvers _)).lists
  unfold handConfiguration
  exact table.trans (.trans (lists_setDist ..) ((consumers _).trans ((lists_takeReadoutSettings _ c).trans (timing _))))

theorem lists_closeCommit : ListsKept s (closeCommit s) :=
  .trans (lists_setStore s _) (.trans (lists_setCond ..) (steady_setCycle ..).lists)

theorem lists_afterCommit : ListsKept s (afterCommit s) :=
  lists_ite (fun _ => lists_restart s) fun _ => lists_ite (fun _ => (steady_enterStarting s).lists) (fun _ => .refl s)

theorem lists_onCommitEnd : ListsKept s (onCommitEnd s) := by
  refine lists_ite (fun _ => ?_) (fun _ => .refl s)
  unfold commitEnd
  split
  · exact (lists_setStore s _).trans ((lists_handConfiguration ..).trans ((lists_closeCommit _).trans (lists_afterCommit _)))
  · exact .refl s

/-! ## Requests -/

theorem lists_pushResult (p : Port) (o : RequestOutcome) (n : Nat) (data : List Byte) : ListsKept s (pushResult p o n data s) :=
  lists_ite (fun _ => (lists_mapExec ..).trans (lists_setPort _ id)) (fun _ => lists_mapExec ..)

theorem lists_setCursor (p : Port) (r : Region) (i : Nat) : ListsKept s (setCursor p r i s) := lists_setPort s id

theorem lists_runControl (p : Port) (i : Nat) : ListsKept s (runControl p i s) := by
  refine lists_ite (fun _ => ?commit) fun _ => lists_ite (fun _ => lists_requestRestart s) (fun _ => (steady_setCycle ..).lists)
  case commit => exact .trans (lists_setStore s _) (.trans (steady_setCycle ..).lists (lists_mapExec ..))

/-- One element of a WRITE: of all of them WATCH alone touches a list. -/
theorem lists_writeElement (r : Region) (p : Port) (i : Nat) (data : List Byte) : ListsKept s (writeElement r p i data s) := by
  cases r with
  | signals =>
    simp only [writeElement]
    cases finOf 64 i with
    | none => exact .refl s
    | some e => exact (steady_deliverTo ..).lists
  | telltales =>
    simp only [writeElement]
    cases finOf 40 i with
    | none => exact .refl s
    | some t => exact (steady_setLamps ..).lists
  | chimes =>
    simp only [writeElement]
    cases finOf 8 i with
    | none => exact .refl s
    | some k => exact (steady_setLamps ..).lists
  | tacho => exact lists_recordArrival ..
  | distance => exact lists_putDistance ..
  | watch => exact lists_setPort s fun h => h.setWatch i (byteAt data 0)
  | config => exact lists_setStore ..
  | control => exact lists_runControl ..
  | directory | signalDetail | gauges | links | cycleState => exact .refl s

theorem lists_runWrite (p : Port) (r : Region) (index count : Nat) (data : List Byte) : ListsKept s (runWrite p r index count data s) := by
  refine lists_ite (fun _ => lists_pushResult ..) fun _ => lists_ite (fun _ => lists_pushResult ..) fun _ => ?_
  dsimp only
  split
  · exact lists_pushResult ..
  · have written (items : List (Nat × List Byte)) (u : State) : ListsKept u (items.foldl (fun s it => writeElement r p it.1 it.2 s) u) :=
      lists_foldl _ (fun s it => lists_writeElement s r p it.1 it.2) items u
    exact (lists_setCursor ..).trans ((written ..).trans (lists_pushResult ..))

theorem lists_runRead (p : Port) (region index count : Nat) : ListsKept s (runRead p region index count s) := by
  unfold runRead
  split
  · exact lists_pushResult ..
  · refine lists_ite (fun _ => lists_pushResult ..) fun _ => lists_ite (fun _ => lists_pushResult ..) fun _ => ?_
    exact .trans (lists_ite (fun _ => .refl s) (fun _ => lists_setCursor ..)) (lists_pushResult ..)

theorem lists_runWait (p : Port) (index count : Nat) : ListsKept s (runWait p index count s) := by
  unfold runWait
  split
  · exact lists_pushResult ..
  · exact lists_ite (fun _ => lists_pushResult ..) fun _ => lists_ite (fun _ => lists_pushResult ..) fun _ =>
      (lists_mapExec ..).trans (lists_setPort _ id)

theorem lists_runChanges (p : Port) (count : Nat) : ListsKept s (runChanges p count s) :=
  lists_ite (fun _ => lists_pushResult ..) (fun _ => (lists_setPort s fun h => h.drop _).trans (lists_pushResult ..))

theorem lists_runRequest (p : Port) (q : Request) : ListsKept s (runRequest p q s) := by
  cases q with
  | read region index count => exact lists_runRead ..
  | write r index count data => exact lists_runWrite ..
  | wait index count => exact lists_runWait ..
  | changes count => exact lists_runChanges ..
  | faulty o => exact lists_pushResult ..

/-! ## Frames, commands and the step -/

theorem lists_finishFrame (p : Port) (f : FrameExec) : ListsKept s (finishFrame p f s) := by
  have resumed (inLoad : Bool) (x : PortState) (h : x.listLegal) : (resumeLinkTimer inLoad x).listLegal := by
    unfold resumeLinkTimer
    split <;> exact h
  have ended := lists_setPort s (p := p) (x := resumeLinkTimer s.inLoad
    { s.port p with exec := none, reply := some (replyFrame f.sequence .ok f.results) }) (fun h => resumed _ _ h)
  exact lists_ite (fun _ => ended.trans (lists_setStore ..)) (fun _ => ended)

theorem lists_frameRequest (p : Port) (f : FrameExec) (q : Request) (rest : List Request) : ListsKept s (frameRequest p f q rest s) :=
  have opened : ListsKept s (setPort p { s.port p with exec := some { f with rest := rest } } s) := lists_setPort s id
  opened.trans ((lists_runRequest ..).trans (steady_finishEvent ..).lists)

theorem lists_advanceFrame (p : Port) : ListsKept s (advanceFrame p s) := by
  unfold advanceFrame
  split
  · exact .refl s
  · split
    · exact lists_finishFrame ..
    · exact lists_frameRequest ..

/-- The end of an event and the frames that run behind it. -/
theorem lists_complete {s u : State} (before : State) (h : ListsKept s u) : ListsKept s (complete before u) :=
  complete_keeps (P := ListsKept s) (fun _ _ ht => ht.trans (steady_finishEvent ..).lists)
    (fun p t _ ht => ht.trans (lists_advanceFrame t p)) before u h

/-- Every command answers a state whose change lists are legal where they were legal before. -/
theorem exec_lists (c : Instr) : ∃ t, exec c s = .next t ∧ ListsKept s t := by
  have ends {u : State} (he : exec c s = .next (complete s u)) (h : ListsKept s u) : ∃ t, exec c s = .next t ∧ ListsKept s t :=
    ⟨_, he, lists_complete s h⟩
  cases c with
  | powerOnReset strap => exact ⟨_, rfl, lists_powerOn s strap⟩
  | configLoadComplete => exact ends rfl (lists_onLoadComplete s)
  | restartLoadEnd => exact ends rfl (lists_onRestartLoadEnd s)
  | agingTimerExpiry => exact ends rfl (steady_ageTable s).lists
  | reclaimTimerExpiry => exact ends rfl (steady_reclaimExpiry ..).lists
  | disagreementTimerExpiry => exact ends rfl (steady_disagreementExpiry ..).lists
  | pulseEdge => exact ends rfl ((steady_advanceCounter ..).lists.trans (lists_onEdge ..))
  | gateExpiry => exact ends rfl ((steady_advanceCounter ..).lists.trans (lists_onGate ..))
  | scanTimerExpiry => exact ends rfl (steady_onScanTimer s).lists
  | parkedTimerExpiry => exact ends rfl (steady_onParkedTimer s).lists
  | testConversionsDone => exact ends rfl (lists_onTestsDone ..)
  | settleTimeExpiry => exact ends rfl (steady_onSettled s).lists
  | conversionDone => exact ends rfl (lists_onConversion ..)
  | rawLevelChange => exact ends rfl (steady_onRawLevel ..).lists
  | debounceTimerExpiry => exact ends rfl (steady_onDebounce ..).lists
  | motionTimerExpiry => exact ends rfl (steady_putGauge ..).lists
  | homingTimerExpiry => exact ends rfl (steady_putGauge ..).lists
  | flasherPhaseChange => exact ends rfl (steady_onFlasher ..).lists
  | openCheckTimerExpiry => exact ends rfl (steady_onOpenCheck ..).lists
  | lampShort => exact ends rfl (steady_onShort ..).lists
  | retryTimerExpiry => exact ends rfl (steady_onRetry ..).lists
  | chimeOnTimeExpiry => exact ends rfl (steady_changePlaying ..).lists
  | chimeOffTimeExpiry => exact ends rfl (steady_changePlaying ..).lists
  | recordAgeTimerExpiry => exact ends rfl (lists_onRecordAge s)
  | estimationTimerExpiry => exact ends rfl (lists_onEstimation s)
  | bulbCheckExpiry => exact ends rfl (steady_onBulbCheck s).lists
  | commitEnd => exact ends rfl (lists_onCommitEnd s)
  | spiPeriodEnd => exact ends rfl (lists_endPeriod ..)
  | tlinkByteReceived => exact ends rfl (lists_tlinkByte ..)
  | tlinkGapTimeout => exact ends rfl (lists_tlinkGap s)
  | tlinkReplySent => exact ends rfl (lists_setPort s id)
  | waitTimerExpiry => exact ends rfl (lists_mapExec ..)
  | linkTimerExpiry => exact ends rfl (lists_linkExpiry ..)
  | chipSelectActive => exact ends rfl (lists_openPeriod ..)

theorem step_lists {s t : State} (h : step s = .next t) : ListsKept s t := by
  obtain rfl | ⟨c, rest, -, hx⟩ := step_cases h
  · exact .refl _
  · obtain ⟨u, hu, k⟩ := exec_lists (s.setPending rest) c
    cases hu.symm.trans hx
    exact (lists_setPending s rest).trans k

end

/-- Settles O3: the watch set and the list of one port by their equations, and the invariant by `step_lists`, command by command. -/
theorem watchSetsAndChangeLists : Obligations.WatchSetsAndChangeLists := by
  unfold Obligations.WatchSetsAndChangeLists
  refine ⟨fun x j bits => ⟨x.setWatch_watch j bits, x.setWatch_changes j bits⟩, fun p j b s => ⟨?judged, rfl⟩,
    fun p j s => watchByte_bits (s.port p).watch j, fun i s p => ?notice, fun s t legal h => (step_lists h).lists legal,
    fun s p legal => (legal p).length_le⟩
  case judged => exact judgeWatch_eq j b
  case notice =>
    rw [port_raiseItem]
    exact ⟨(PortState.notice_kept i (s.port p)).watch, PortState.notice_changes _ i⟩

end Sys2Proof.Machine
end

section
/-! Proofs: a CHANGES request: the items from the head, the room of the reply, the refusal of a count of 0, and a WAIT for CHANGE before it
(R173, R176, R177). -/

namespace Sys2Proof.Machine

/-! ## A result in the port (R179, R190) -/

theorem setPort_setPort (p : Port) (x y : PortState) (s : State) : setPort p y (setPort p x s) = setPort p y s := by cases p <;> rfl

section
variable {s : State} {p : Port} {f : FrameExec} {o : RequestOutcome} (n : Nat) (data : List Byte)

/-- The result of a request that is not refused: it joins the reply, and its data takes of the room. -/
theorem pushResult_accepted (h : (s.port p).exec = some f) (ho : o.isRefusal = false) :
    pushResult p o n data s =
      setPort p
        { s.port p with
          exec := some { f with results := f.results ++ resultBytes o n data, room := f.room - data.length } } s := by
  simp [pushResult, mapExec, h, ho]

/-- The result of a refused request, which counts. -/
theorem pushResult_refused (h : (s.port p).exec = some f) (ho : o.isRefusal = true) :
    pushResult p o 0 [] s =
      setPort p
        { s.port p with
          exec := some { f with results := f.results ++ resultBytes o 0 [] }
          counters := { (s.port p).counters with refused := (s.port p).counters.refused + 1 } } s := by
  simp [pushResult, mapExec, h, ho, setPort_setPort]

end

/-! ## The division of a body (R167) -/

theorem requestsOf_changes {k : Byte} (h : k.toNat / 16 = 4) (i c : Byte) : requestsOf [k, i, c] = [.changes c.toNat] := by
  simp [requestsOf, divideBody, h]

/-! ## CHANGES (R177) -/

/-- The bytes of a result that name items. -/
def itemBytes (l : List (Fin 113)) : List Byte := l.map fun i => byte i

theorem itemBytes_length (l : List (Fin 113)) : (itemBytes l).length = l.length := by simp [itemBytes]

theorem itemBytes_cons (i : Fin 113) (l : List (Fin 113)) : itemBytes (i :: l) = byte i :: itemBytes l := rfl

/-- How many items a CHANGES request takes: as many as it asks for, as there are, and as the reply has room for. -/
def PortState.changesTaken (count : Nat) (f : FrameExec) (x : PortState) : Nat := min (min count x.changes.length) f.room

/-- The port behind a CHANGES request of its frame `f`, with the outcome SHORT where the reply has no room for all that are there. -/
def PortState.takeChanges (count : Nat) (f : FrameExec) (x : PortState) : PortState :=
  let n := x.changesTaken count f
  { x with
    changes := x.changes.drop n
    exec := some
      { f with
        results := f.results ++ resultBytes (if n < min count x.changes.length then .short else .ok) n (itemBytes (x.changes.take n))
        room := f.room - n } }

section
variable {s : State} {p : Port} {x : PortState} {f : FrameExec} {count : Nat}

theorem runChanges_zero (h : (s.port p).exec = some f) :
    runChanges p 0 s =
      setPort p
        { s.port p with
          exec := some { f with results := f.results ++ resultBytes .range 0 [] }
          counters := { (s.port p).counters with refused := (s.port p).counters.refused + 1 } } s := by
  rw [runChanges, if_pos rfl, pushResult_refused h rfl]

/-- A count other than 0: the head leaves the list, and the result names it. -/
theorem runChanges_eq_pushResult (h : (s.port p).exec = some f) (hc : count ≠ 0) :
    let n := (s.port p).changesTaken count f
    runChanges p count s =
      pushResult p (if n < min count (s.port p).changes.length then .short else .ok) n (itemBytes ((s.port p).changes.take n))
        (setPort p { s.port p with changes := (s.port p).changes.drop n } s) := by
  have room : (s.port p).room = f.room := by rw [PortState.room, h, Option.elim_some]
  simp only [runChanges, if_neg hc, room]
  rfl

theorem PortState.changesTaken_le : x.changesTaken count f ≤ x.changes.length := (min_le_left ..).trans (min_le_right ..)

theorem runChanges_eq_takeChanges (h : (s.port p).exec = some f) (hc : count ≠ 0) :
    runChanges p count s = setPort p ((s.port p).takeChanges count f) s := by
  have left (n : Nat) : ((setPort p { s.port p with changes := (s.port p).changes.drop n } s).port p).exec = some f := by
    rw [port_setPort, if_pos rfl]
    exact h
  rw [runChanges_eq_pushResult h hc, pushResult_accepted _ _ (left _) (by split <;> rfl), setPort_setPort, port_setPort, if_pos rfl,
    itemBytes_length, List.length_take_of_le PortState.changesTaken_le]
  rfl

/-- Of a legal list, an item that was taken joins the tail again as it changes. -/
theorem PortState.listLegal.notice_takeChanges (h : x.listLegal) {i : Fin 113} (hi : i ∈ x.changes.take (x.changesTaken count f)) :
    ((x.takeChanges count f).notice i).changes = x.changes.drop (x.changesTaken count f) ++ [i] := by
  obtain ⟨nodup, watched⟩ := h
  have gone : i ∉ x.changes.drop (x.changesTaken count f) := List.disjoint_take_drop nodup le_rfl hi
  rw [PortState.notice_changes]
  exact if_pos ⟨watched i (List.mem_of_mem_take hi), gone⟩

/-- A request for an item, with one on the list and room for it, names the head first. -/
theorem PortState.takeChanges_head {i : Fin 113} {rest : List (Fin 113)} (hx : x.changes = i :: rest) (hc : 1 ≤ count) (hr : 1 ≤ f.room) :
    ∃ o n data g, (x.takeChanges count f).exec = some g ∧ g.results = f.results ++ resultBytes o n (byte i :: data) := by
  have taken : 1 ≤ x.changesTaken count f := by
    rw [PortState.changesTaken, hx, List.length_cons]
    omega
  obtain ⟨m, hm⟩ := Nat.exists_eq_add_of_le' taken
  have named : itemBytes (x.changes.take (x.changesTaken count f)) = byte i :: itemBytes (rest.take m) := by
    rw [hm, hx, List.take_succ_cons, itemBytes_cons]
  exact ⟨_, _, _, _, rfl, by rw [← named]⟩

/-- A notice of a watched item ends a WAIT for CHANGE with OK (R173, R176). -/
theorem PortState.notice_ends_wait {tm : Timer} {i : Fin 113} (hx : x.exec = some f) (hf : f.hold = some (.change, tm)) (hc : x.changes = [])
    (hw : x.watch[i] = true) :
    x.notice i = { x with changes := [i], exec := some { f with hold := none, results := f.results ++ resultBytes .ok 0 [] } } := by
  rw [PortState.notice, if_pos (by rw [hc, hw]; rfl)]
  simp [PortState.signal, hx, hf, hc, FrameExec.endHold]

end

/-- Settles O59: a CHANGES request by its equations for a count of 0 and for any other, and the notices before and behind it. -/
theorem changesTakesFromHead : Obligations.ChangesTakesFromHead := by
  unfold Obligations.ChangesTakesFromHead
  refine ⟨fun k i c h => requestsOf_changes h i c, fun p count f s hx => ⟨?refused, fun hc => runChanges_eq_takeChanges hx hc, ?rejoined⟩,
    fun p i f tm s hx hf hc hw => ?waited, fun p i rest count f s hx hc h1 hr => ?first⟩
  case refused =>
    rintro rfl
    exact runChanges_zero hx
  case rejoined => exact fun legal _ i hi => legal.notice_takeChanges hi
  case waited =>
    rw [port_raiseItem]
    exact PortState.notice_ends_wait hx hf hc hw
  case first =>
    rw [runRequest, runChanges_eq_takeChanges hx (by omega), port_setPort, if_pos rfl]
    exact PortState.takeChanges_head hc h1 hr

end Sys2Proof.Machine
end

section
/-! Proofs: the image, the staging buffer and the telltale unit's settings: the operations that leave the store and these settings as they are, and the
few that write a memory or take settings (R110, R133, R183 to R188). -/

namespace Sys2Proof.Machine

/-! ## What almost every operation leaves -/

/-- From `s` to `t` the store and the telltale unit's settings stand as before. -/
structure SettingsKept (s t : State) : Prop where
  store : t.store = s.store
  lamps : t.lamps.settings = s.lamps.settings

section
variable {s t u : State}

theorem SettingsKept.refl (s : State) : SettingsKept s s := ⟨rfl, rfl⟩

theorem SettingsKept.trans (a : SettingsKept s t) (b : SettingsKept t u) : SettingsKept s u := ⟨b.store.trans a.store, b.lamps.trans a.lamps⟩

theorem TableEvent.settingsKept (h : TableEvent s t) : SettingsKept s t := ⟨h.store, h.lampSettings⟩

theorem EventEnd.settingsKept (h : EventEnd s t) : SettingsKept s t := h.table.settingsKept

/-- An operation that replaces other parts of the state. -/
theorem SettingsKept.of_lamps (hs : Steady s t) (hl : t.lamps.settings = s.lamps.settings) : SettingsKept s t := ⟨hs.store, hl⟩

theorem settingsKept_ite {p : Prop} [Decidable p] (ht : p → SettingsKept s t) (hu : ¬p → SettingsKept s u) :
    SettingsKept s (if p then t else u) := by
  split
  · exact ht ‹_›
  · exact hu ‹_›

theorem settingsKept_foldl {α : Type} (f : State → α → State) (h : ∀ s i, SettingsKept s (f s i)) (l : List α) (s : State) :
    SettingsKept s (l.foldl f s) := foldl_rel SettingsKept.refl (fun _ _ _ => .trans) f h l s

theorem settingsKept_forAll {n : Nat} (f : Fin n → State → State) (h : ∀ i s, SettingsKept s (f i s)) (s : State) :
    SettingsKept s (forAll n f s) := settingsKept_foldl _ (fun s i => h i s) _ s

end

section
variable (s : State)

theorem settingsKept_raiseItem (i : Fin 113) : SettingsKept s (raiseItem i s) := ⟨rfl, rfl⟩

theorem settingsKept_signalEvent (ev : WaitEvent) : SettingsKept s (signalEvent ev s) := ⟨rfl, rfl⟩

theorem settingsKept_setPass (p : Option Pass) : SettingsKept s (setPass p s) := ⟨rfl, rfl⟩

theorem settingsKept_nextSlot (p : Pass) : SettingsKept s (nextSlot p s) := ⟨rfl, rfl⟩

theorem settingsKept_setReceiver (r : Receiver) : SettingsKept s (setReceiver r s) := ⟨rfl, rfl⟩

/-! ### Gauges, drivers and the ignition cycle -/

theorem settingsKept_putGauge (i : Fin 6) (g : Gauge) : SettingsKept s (putGauge i g s) :=
  ⟨(steady_putGauge i g s).store, by rw [putGauge_lamps]⟩

theorem settingsKept_putTelltale (i : Fin 40) (t : Telltale) : SettingsKept s (putTelltale i t s) :=
  ⟨(steady_putTelltale i t s).store, by unfold putTelltale; dsimp only; split <;> rfl⟩

theorem settingsKept_newLampCycle : SettingsKept s (newLampCycle s) := settingsKept_forAll _ (fun _ s => settingsKept_putTelltale s _ _) s

theorem settingsKept_openCycle : SettingsKept s (openCycle s) := ⟨rfl, rfl⟩

theorem settingsKept_startConverter : SettingsKept s (startConverter s) := ⟨rfl, rfl⟩

theorem settingsKept_enterStarting : SettingsKept s (enterStarting s) :=
  (settingsKept_openCycle s).trans <| (afterView_startGauges ..).table.settingsKept.trans <|
    (settingsKept_startConverter _).trans (settingsKept_newLampCycle _)

theorem settingsKept_enterStopping : SettingsKept s (enterStopping s) := by
  have opened : SettingsKept s (changeCycle .stopping (s.setCycle { s.cycle with window := .stopped })) := ⟨rfl, rfl⟩
  exact opened.trans <| (afterView_forGauges (fun _ g => g.ignitionOff_settings) _).table.settingsKept.trans
    (afterView_judgePassage _).table.settingsKept

theorem settingsKept_addWakeCause (c : WakeCause) : SettingsKept s (addWakeCause c s) :=
  settingsKept_ite (fun _ => by cases c <;> exact ⟨rfl, rfl⟩) (fun _ => .refl s)

theorem settingsKept_onBulbCheck : SettingsKept s (onBulbCheck s) := by
  have stopped : SettingsKept s (s.setCycle { s.cycle with window := .stopped }) := ⟨rfl, rfl⟩
  exact settingsKept_ite (fun _ => stopped.trans (afterView_judgePassage _).table.settingsKept) (fun _ => .refl s)

theorem settingsKept_ignitionEvent (on : Bool) : SettingsKept s (ignitionEvent on s) := by
  refine .trans (t := s.setCycle { s.cycle with ignition := on }) ⟨rfl, rfl⟩ ?_
  unfold ignitionEvent
  dsimp only
  split
  · exact settingsKept_ite (fun _ => settingsKept_enterStarting _) (fun _ => .refl _)
  · exact settingsKept_ite (fun _ => .refl _) (fun _ => settingsKept_enterStopping _)
  · exact settingsKept_ite (fun _ => .refl _) (fun _ => settingsKept_enterStopping _)
  · exact settingsKept_ite (fun _ => settingsKept_enterStarting _) (fun _ => .refl _)
  · exact .refl _

/-! ### Switch bank -/

theorem settingsKept_deliver (src : Source) (u : Update) : SettingsKept s (deliver src u s) := (deliver_table src u s).settingsKept

theorem settingsKept_settleUnits (notify : Bool) : SettingsKept s (settleUnits notify s) := (settleUnits_eventEnd notify s).settingsKept

theorem settingsKept_ignitionOf (i : Fin 24) (b : Option Bool) (a : Bool) : SettingsKept s (ignitionOf i b a s) :=
  settingsKept_ite (fun _ => settingsKept_ignitionEvent ..) (fun _ => .refl s)

theorem settingsKept_wakeOf (w : Bool) (b : Option Bool) (a : Bool) : SettingsKept s (wakeOf w b a s) :=
  settingsKept_ite (fun _ => settingsKept_addWakeCause ..) (fun _ => .refl s)

theorem settingsKept_debounceExpiry (st : SwitchSettings) (i : Fin 24) : SettingsKept s (debounceExpiry st i s) := by
  have presented (x : SwitchInput) (u : State) : SettingsKept u (presentLevel i x u) :=
    .trans (t := setInput i x u) ⟨rfl, rfl⟩ (settingsKept_settleUnits ..)
  refine settingsKept_ite (fun _ => ⟨rfl, rfl⟩) (fun _ => ?_)
  unfold acceptLevel deliverLevel
  exact ((settingsKept_deliver ..).trans (settingsKept_settleUnits ..)).trans <|
    (presented ..).trans <| (settingsKept_ignitionOf ..).trans (settingsKept_wakeOf ..)

theorem settingsKept_onRawLevel (i : Fin 24) (l : Level) : SettingsKept s (onRawLevel i l s) :=
  settingsKept_ite (fun _ => .refl s) (fun _ => by split <;> exact ⟨rfl, rfl⟩)

theorem settingsKept_onDebounce (i : Fin 24) : SettingsKept s (onDebounce i s) := by
  unfold onDebounce
  split
  · exact settingsKept_ite (fun _ => settingsKept_debounceExpiry ..) (fun _ => .refl s)
  · exact .refl s

theorem settingsKept_commitInput (old new : SwitchSettings) (i : Fin 24) : SettingsKept s (commitInput old new i s) := by
  unfold commitInput
  dsimp only
  have sampled : SettingsKept s (if s.switches.inputs[i].debounce.isRunning = true then
      setInput i { s.switches.inputs[i] with debounce := .running new.debounceMs[i] } s else s) :=
    settingsKept_ite (fun _ => ⟨rfl, rfl⟩) (fun _ => .refl s)
  split
  · exact sampled
  · refine sampled.trans (.trans ?_ (settingsKept_deliver ..))
    exact settingsKept_ite (fun _ => .refl _) (fun _ => (settingsKept_ignitionOf ..).trans (settingsKept_wakeOf ..))

theorem settingsKept_commitSwitches (c : Configuration) : SettingsKept s (commitSwitches c s) := by
  have taken : SettingsKept s (s.setSwitches { s.switches with settings := some c.switches }) := ⟨rfl, rfl⟩
  exact taken.trans (settingsKept_forAll _ (fun i s => settingsKept_commitInput s _ _ i) _)

/-! ### Pulse unit, distance counter and converter -/

theorem settingsKept_putDistance (d : Distance) : SettingsKept s (putDistance d s) :=
  settingsKept_ite (fun _ => ⟨rfl, rfl⟩) (fun _ => ⟨rfl, rfl⟩)

theorem settingsKept_takePulseSettings (c : Fin 4) (st : PulseSettings) : SettingsKept s (takePulseSettings c st s) :=
  settingsKept_ite (fun _ => .trans (t := setChannel c _ s) ⟨rfl, rfl⟩ (settingsKept_putDistance ..)) (fun _ => ⟨rfl, rfl⟩)

theorem settingsKept_startGate (c : Fin 4) : SettingsKept s (startGate c s) := by
  unfold startGate
  split <;> exact ⟨rfl, rfl⟩

theorem settingsKept_takeOverPulse (c : Fin 4) : SettingsKept s (takeOverPulse c s) := by
  unfold takeOverPulse
  split
  · exact settingsKept_takePulseSettings ..
  · exact .refl s

theorem settingsKept_onGate (c : Fin 4) : SettingsKept s (onGate c s) := by
  have delivered (x : PulseChannel) (u : Update) : SettingsKept s (deliver (.pulse c) u (setChannel c x s)) :=
    .trans (t := setChannel c x s) ⟨rfl, rfl⟩ (settingsKept_deliver ..)
  unfold onGate
  split
  · unfold gateExpiry
    dsimp only
    refine .trans ?_ ((settingsKept_takeOverPulse _ c).trans (settingsKept_startGate ..))
    exact settingsKept_ite (fun _ => (delivered ..).trans (settingsKept_signalEvent ..)) (fun _ => delivered ..)
  · exact .refl s

theorem settingsKept_advanceCounter (c : Fin 4) (n : Nat) : SettingsKept s (advanceCounter c n s) := ⟨rfl, rfl⟩

theorem settingsKept_onEdge (c : Fin 4) (edge : EdgeKind) : SettingsKept s (onEdge c edge s) := by
  unfold onEdge
  split
  · refine settingsKept_ite (fun _ => ?_) (fun _ => .refl s)
    refine settingsKept_ite (fun _ => ?_) (fun _ => ⟨rfl, rfl⟩)
    exact settingsKept_ite (fun _ => .trans (t := setChannel c _ s) ⟨rfl, rfl⟩ (settingsKept_putDistance ..)) (fun _ => ⟨rfl, rfl⟩)
  · exact .refl s

theorem settingsKept_beginPass (parked : Bool) : SettingsKept s (beginPass parked s) := by
  have overtaken : SettingsKept s (takeOverConverter s) := by
    unfold takeOverConverter
    split <;> exact ⟨rfl, rfl⟩
  unfold beginPass
  split
  · exact ⟨rfl, rfl⟩
  · dsimp only
    split
    · exact overtaken.trans ⟨rfl, rfl⟩
    · exact overtaken

theorem settingsKept_onParkedTimer : SettingsKept s (onParkedTimer s) := by
  refine settingsKept_ite (fun _ => (settingsKept_beginPass s true).trans ?_) (fun _ => .refl s)
  unfold renewParkedTimer
  split <;> exact ⟨rfl, rfl⟩

theorem settingsKept_deliverTestFail (i : Fin 16) : SettingsKept s (deliverTestFail i s) := by
  unfold deliverTestFail
  split
  · exact settingsKept_ite (fun _ => .refl s) (fun _ => settingsKept_deliver ..)
  · exact .refl s

theorem settingsKept_onTestsDone (zero full : AdcCode) : SettingsKept s (onTestsDone zero full s) := by
  unfold onTestsDone
  split
  · refine settingsKept_ite (fun _ => settingsKept_ite (fun _ => ⟨rfl, rfl⟩) (fun _ => ?_)) (fun _ => .refl s)
    exact .trans (t := setCond .adcTestFail true s) ⟨rfl, rfl⟩
      ((settingsKept_foldl _ (fun s i => settingsKept_deliverTestFail s i) _ _).trans (settingsKept_setPass ..))
  · exact .refl s

theorem settingsKept_onSettled : SettingsKept s (onSettled s) := by
  unfold onSettled
  split
  · exact settingsKept_ite (fun _ => ⟨rfl, rfl⟩) (fun _ => .refl s)
  · exact .refl s

theorem settingsKept_changeSupply (new : Supply) (n : Nat) : SettingsKept s (changeSupply new n s) := by
  have judged : SettingsKept s
      (setCond .supplyHigh (new == .high) (setCond .supplyLow (new == .low) (s.setConv { s.conv with supply := new, lowCount := n }))) := ⟨rfl, rfl⟩
  refine settingsKept_ite (fun _ => judged.trans ?_) fun _ => settingsKept_ite (fun _ => judged.trans ?_) fun _ => judged
  · exact (afterView_forGauges (fun _ g => g.hold_settings _) _).table.settingsKept
  · exact (afterView_forGauges (fun v g => g.resume_settings _ v) _).table.settingsKept

theorem settingsKept_supplyJudgement (v : Int) : SettingsKept s (supplyJudgement v s) := settingsKept_changeSupply ..

theorem settingsKept_scanResult (st : ConverterSettings) (parked : Bool) (i : Fin 16) (d : ScanSlot) (avg : Nat) :
    SettingsKept s (scanResult st parked i d avg s) := by
  have fault (c : FaultCause) : SettingsKept s (deliver (.analog d.channel) (.fault c) (clearRefuel i s)) :=
    .trans (t := clearRefuel i s) ⟨rfl, rfl⟩ (settingsKept_deliver ..)
  have value (z : ScanState) (v : Int) : SettingsKept s (deliver (.analog d.channel) (.value v) (setScanState i z s)) :=
    .trans (t := setScanState i z s) ⟨rfl, rfl⟩ (settingsKept_deliver ..)
  refine settingsKept_ite (fun _ => .refl s) (fun _ => ?_)
  split
  · exact settingsKept_ite (fun _ => (fault _).trans (settingsKept_addWakeCause ..)) (fun _ => fault _)
  · refine settingsKept_ite (fun _ => fault .curve) (fun _ => ?_)
    exact settingsKept_ite (fun _ => (value ..).trans (settingsKept_supplyJudgement ..)) (fun _ => value ..)

theorem settingsKept_onConversion (code : AdcCode) : SettingsKept s (onConversion code s) := by
  unfold onConversion
  split
  · unfold endConversion
    split
    · exact settingsKept_setPass ..
    · unfold takeConversion
      split
      · exact settingsKept_ite (fun _ => settingsKept_setPass ..) (fun _ => (settingsKept_scanResult ..).trans (settingsKept_nextSlot ..))
      · exact .refl s
      · exact .refl s
    all_goals exact .refl s
  · exact .refl s

/-! ### Telltale unit -/

theorem settingsKept_onFlasher (which : Flasher) : SettingsKept s (onFlasher which s) := by cases which <;> exact ⟨rfl, rfl⟩

theorem settingsKept_onOpenCheck (i : Fin 40) (current : Nat) : SettingsKept s (onOpenCheck i current s) :=
  settingsKept_ite (fun _ => settingsKept_putTelltale ..) (fun _ => .refl s)

theorem settingsKept_onShort (i : Fin 40) : SettingsKept s (onShort i s) :=
  settingsKept_ite (fun _ => settingsKept_putTelltale ..) (fun _ => .refl s)

theorem settingsKept_onRetry (i : Fin 40) (shorted : Bool) : SettingsKept s (onRetry i shorted s) :=
  settingsKept_ite (fun _ => (settingsKept_putTelltale ..).trans (settingsKept_raiseItem ..)) (fun _ => .refl s)

theorem settingsKept_changePlaying (phase : ChimePhase) (f : ChimeDesc → Chime → Chime) : SettingsKept s (changePlaying phase f s) := by
  unfold changePlaying
  split
  · exact settingsKept_ite (fun _ => ⟨rfl, rfl⟩) (fun _ => .refl s)
  all_goals exact .refl s

/-! ### Readout -/

theorem settingsKept_reportTacho : SettingsKept s (reportTacho s) := (settingsKept_settleUnits s true).trans (settingsKept_raiseItem ..)

/-- A readout with its conditions, reported. -/
theorem settingsKept_reportState (r : Readout) : SettingsKept s (reportTacho (judgeStale (s.setTacho r))) :=
  .trans (t := judgeStale (s.setTacho r)) ⟨rfl, rfl⟩ (settingsKept_reportTacho _)

theorem settingsKept_becomeCurrent (st : ReadoutSettings) (rec : TachoRecord) : SettingsKept s (becomeCurrent st rec s) := by
  constructor <;> simp [becomeCurrent, judgeStale, judgeRecord, judgeDriving]

theorem settingsKept_recordArrival (rec : TachoRecord) : SettingsKept s (recordArrival rec s) := by
  unfold recordArrival
  split
  · exact .refl s
  · have stored : SettingsKept s (storeRecord rec s) := ⟨rfl, rfl⟩
    dsimp only
    exact stored.trans <| (deliverTo_table ..).settingsKept.trans <| (settingsKept_putDistance ..).trans <|
      (settingsKept_becomeCurrent ..).trans <| (settingsKept_reportTacho _).trans (settingsKept_signalEvent ..)

theorem settingsKept_onRecordAge : SettingsKept s (onRecordAge s) := by
  unfold onRecordAge
  split
  · refine settingsKept_ite (fun _ => ?_) (fun _ => .refl s)
    have aged : SettingsKept s (s.setTacho { s.tacho with age := min 65535 (s.tacho.age + 1) }) := ⟨rfl, rfl⟩
    exact settingsKept_ite (fun _ => aged.trans (settingsKept_reportState ..)) (fun _ => aged)
  · exact .refl s

theorem settingsKept_onEstimation : SettingsKept s (onEstimation s) := by
  unfold onEstimation
  split
  · refine settingsKept_ite (fun _ => ?_) (fun _ => .refl s)
    have judged (st : ReadoutSettings) (r : Readout) : SettingsKept s (judgeStale (judgeDriving st (s.setTacho r))) := ⟨rfl, rfl⟩
    exact settingsKept_ite (fun _ => (judged ..).trans (settingsKept_reportTacho _)) (fun _ => judged ..)
  · exact .refl s

theorem settingsKept_readoutLinkLoss : SettingsKept s (readoutLinkLoss s) := by
  unfold readoutLinkLoss
  split
  · exact settingsKept_reportState ..
  · exact settingsKept_reportState ..
  · exact .refl s
  · exact .refl s

theorem settingsKept_takeReadoutSettings (c : Configuration) : SettingsKept s (takeReadoutSettings c s) := by
  have judged (r : Readout) : SettingsKept s (judgeDriving c.readout (s.setTacho r)) := ⟨rfl, rfl⟩
  exact settingsKept_ite (fun _ => judged _) (fun _ => (judged _).trans (settingsKept_reportTacho _))

/-! ### Links -/

theorem settingsKept_takeVerdict (p : Port) (v : Verdict) : SettingsKept s (takeVerdict p v s) := by
  cases v with
  | good n body =>
    refine .trans (t := if (s.port p).link = .lost then setCond (linkLostCondition p) false s else s) ?_ ⟨rfl, rfl⟩
    exact settingsKept_ite (fun _ => ⟨rfl, rfl⟩) (fun _ => .refl s)
  | bad o n => exact ⟨rfl, rfl⟩

theorem settingsKept_endPeriod (p : Port) (bytes : List Byte) : SettingsKept s (endPeriod p bytes s) := by
  have closed : SettingsKept s (setPort p ((s.port p).closePeriod bytes) s) := ⟨rfl, rfl⟩
  refine settingsKept_ite (fun _ => closed) (fun _ => ?_)
  split
  · exact closed.trans (settingsKept_ite (fun _ => ⟨rfl, rfl⟩) (fun _ => settingsKept_takeVerdict ..))
  · exact closed

theorem settingsKept_openPeriod (p : Port) : SettingsKept s (openPeriod p s) := by
  unfold openPeriod
  dsimp only
  split <;> exact ⟨rfl, rfl⟩

theorem settingsKept_busyFrame (p : Port) : SettingsKept s (busyFrame p s) := ⟨rfl, rfl⟩

theorem settingsKept_tlinkFrame (began : Bool) (v : Verdict) (next : Receiver) : SettingsKept s (tlinkFrame began v next s) := by
  refine .trans ?_ (settingsKept_setReceiver ..)
  exact settingsKept_ite (fun _ => settingsKept_busyFrame ..) (fun _ => settingsKept_takeVerdict ..)

theorem settingsKept_tlinkByte (b : Byte) (stopBit : Bool) : SettingsKept s (tlinkByte b stopBit s) := by
  unfold tlinkByte
  split
  · exact settingsKept_ite (fun _ => .refl s) fun _ => settingsKept_ite (fun _ => ⟨rfl, rfl⟩) fun _ =>
      settingsKept_ite (fun _ => settingsKept_tlinkFrame ..) fun _ => .refl s
  · exact settingsKept_ite (fun _ => settingsKept_tlinkFrame ..) fun _ => settingsKept_ite (fun _ => settingsKept_tlinkFrame ..) fun _ =>
      settingsKept_ite (fun _ => settingsKept_tlinkFrame ..) fun _ => ⟨rfl, rfl⟩
  · exact .refl s

theorem settingsKept_tlinkGap : SettingsKept s (tlinkGap s) := by
  unfold tlinkGap
  split
  · exact .refl s
  · exact settingsKept_tlinkFrame ..
  · exact ⟨rfl, rfl⟩

theorem settingsKept_clearPortClaims (p : Port) : SettingsKept s (clearPortClaims p s) := ⟨rfl, rfl⟩

theorem settingsKept_linkExpiry (p : Port) : SettingsKept s (linkExpiry p s) := by
  refine settingsKept_ite (fun _ => ?_) (fun _ => .refl s)
  have lost : SettingsKept s (clearPortClaims p (forceLost p
      (setCond (linkLostCondition p) true (setPort p { s.port p with link := .lost, linkTimer := .stopped } s)))) :=
    .trans (t := setCond _ true (setPort p _ s)) ⟨rfl, rfl⟩ ((forceLost_spec ..).1.settingsKept.trans (settingsKept_clearPortClaims ..))
  exact settingsKept_ite (fun _ => lost.trans (settingsKept_readoutLinkLoss _)) (fun _ => lost)

end

/-! ## The memories and the settings of the telltale unit -/

/-- From `s` to `t` the memories keep the canonical form, and the telltale unit's settings the normal form. -/
structure FormsKept (s t : State) : Prop where
  memories : MemoriesWf s → MemoriesWf t
  lamps : LampsNormal s → LampsNormal t

section
variable {s t u : State}

theorem FormsKept.refl (s : State) : FormsKept s s := ⟨id, id⟩

theorem FormsKept.trans (a : FormsKept s t) (b : FormsKept t u) : FormsKept s u := ⟨b.memories ∘ a.memories, b.lamps ∘ a.lamps⟩

theorem SettingsKept.forms (h : SettingsKept s t) : FormsKept s t where
  memories wf := by rwa [MemoriesWf, h.store]
  lamps normal := by rwa [LampsNormal, h.lamps]

theorem EventEnd.forms (h : EventEnd s t) : FormsKept s t := h.settingsKept.forms

theorem formsKept_ite {p : Prop} [Decidable p] (ht : p → FormsKept s t) (hu : ¬p → FormsKept s u) : FormsKept s (if p then t else u) := by
  split
  · exact ht ‹_›
  · exact hu ‹_›

theorem formsKept_foldl {α : Type} (f : State → α → State) (h : ∀ s i, FormsKept s (f s i)) (l : List α) (s : State) :
    FormsKept s (l.foldl f s) := foldl_rel FormsKept.refl (fun _ _ _ => .trans) f h l s

/-- A store whose memories are canonical where the store's before were. -/
theorem formsKept_setStore {x : ConfigStore}
    (h : MemoriesWf s → Memory.wf x.image ∧ Memory.wf x.staging) : FormsKept s (s.setStore x) := ⟨h, id⟩

end

section
variable (s : State)

/-! ### Resets -/

theorem formsKept_restart : FormsKept s (restart s) := ⟨id, fun _ => nofun⟩

theorem Memory.nil_wf : Memory.wf [] := ⟨.nil, nofun⟩

theorem formsKept_powerOn (strap : BitRate) : FormsKept s (powerOn strap s) := ⟨fun h => ⟨h.1, Memory.nil_wf⟩, fun _ => nofun⟩

/-! ### The configuration load -/

theorem formsKept_loadImage : FormsKept s (loadImage s) := by
  have loaded : FormsKept s (s.setStore s.store.load) := by
    refine formsKept_setStore fun ⟨image, _⟩ => ?_
    unfold ConfigStore.load
    split
    · exact ⟨image, image⟩
    · exact ⟨image, Memory.ofBytes_wf _⟩
  have marked (b : Bool) (u : State) : FormsKept u (setCond .configDefaults b u) := ⟨id, id⟩
  have taken (u : State) : FormsKept u (takeLoaded u) := by
    unfold takeLoaded
    split <;> exact ⟨id, id⟩
  exact loaded.trans ((marked ..).trans (taken _))

theorem settingsKept_firstGates (c : Configuration) : SettingsKept s (forAll 4 (firstGateStart c) s) :=
  settingsKept_forAll _ (fun i s => (settingsKept_takePulseSettings s i _).trans (settingsKept_startGate ..)) s

theorem settingsKept_leaveLoad : SettingsKept s (leaveLoad s) :=
  settingsKept_ite (fun _ => settingsKept_enterStarting s) (fun _ => ⟨rfl, rfl⟩)

theorem formsKept_takeLampSettings (c : Configuration) : FormsKept s (takeLampSettings c.normal s) :=
  ⟨id, fun _ _ hst => ⟨c, (Option.some_inj.mp hst).symm⟩⟩

/-- The blocks take a normalised configuration (R150): the telltale unit's settings are its own, whatever they were. -/
theorem formsKept_takeAllSettings (c : Configuration) : FormsKept s (takeAllSettings c.normal s) := by
  have window : FormsKept s (takeWindowLength c.normal s) := ⟨id, id⟩
  have blocks (u : State) : FormsKept u (takeGaugeSettings c.normal (takeSwitchSettings c.normal (takeConverterSettings c.normal u))) :=
    ⟨id, id⟩
  have links (u : State) : FormsKept u (startLinkTimers (takeTimeouts c.normal u)) := ⟨id, id⟩
  exact window.trans <| (settingsKept_firstGates _ c.normal).forms.trans <| (blocks _).trans <|
    (formsKept_takeLampSettings _ c).trans <| (settingsKept_takeReadoutSettings ..).forms.trans (links _)

theorem formsKept_loadExit : FormsKept s (loadExit s) := by
  unfold loadExit State.config
  cases s.store.inForce with
  | none => exact .refl s
  | some c =>
    exact (formsKept_takeAllSettings s c).trans ((settingsKept_leaveLoad _).trans (settingsKept_settleUnits ..)).forms

/-! ### The end of a commit -/

theorem settingsKept_commitGauges (c : Configuration) : SettingsKept s (commitGauges c s) :=
  settingsKept_forAll _ (fun _ s => settingsKept_putGauge s _ _) s

theorem settingsKept_noticeAllEntries : SettingsKept s (noticeAllEntries s) :=
  settingsKept_forAll _ (fun _ s => settingsKept_raiseItem s _) s

theorem formsKept_commitLampSettings (c : Configuration) : FormsKept s (commitLampSettings c.normal s) := by
  refine .trans ?_ (telltaleNotices_eventEnd ..).forms
  exact ⟨id, fun _ st hst => ⟨c, (Option.some_inj.mp hst).symm⟩⟩

theorem formsKept_handConfiguration (c : Configuration) : FormsKept s (handConfiguration c.normal s) := by
  have emptied : FormsKept s (emptyTable c.normal.descriptors s) := ⟨id, id⟩
  have dist (u : State) (d : Distance) : FormsKept u (u.setDist d) := ⟨id, id⟩
  have timing (u : State) : FormsKept u (setTakeOvers (takeWindowLength c.normal (takeTimeouts c.normal u))) := ⟨id, id⟩
  exact emptied.trans <| (settingsKept_noticeAllEntries _).forms.trans <| (dist ..).trans <|
    (settingsKept_commitSwitches _ c.normal).forms.trans <| (formsKept_commitLampSettings _ c).trans <|
    ((settingsKept_settleUnits ..).trans (settingsKept_commitGauges _ c.normal)).forms.trans <|
    (settingsKept_takeReadoutSettings _ c.normal).forms.trans (timing _)

theorem formsKept_putInForce (c : Configuration) : FormsKept s (putInForce c s) :=
  formsKept_setStore fun ⟨_, staging⟩ => ⟨staging, staging⟩

theorem formsKept_closeCommit : FormsKept s (closeCommit s) := ⟨id, id⟩

theorem formsKept_afterCommit : FormsKept s (afterCommit s) :=
  formsKept_ite (fun _ => formsKept_restart s) fun _ =>
    formsKept_ite (fun _ => (settingsKept_enterStarting s).forms) fun _ => .refl s

theorem formsKept_onCommitEnd : FormsKept s (onCommitEnd s) := by
  refine formsKept_ite (fun _ => ?_) (fun _ => .refl s)
  unfold commitEnd
  split
  · next c _ =>
    exact (formsKept_putInForce s c).trans <| (formsKept_handConfiguration _ c).trans <|
      (formsKept_closeCommit _).trans (formsKept_afterCommit _)
  · exact .refl s

/-! ### Requests -/

theorem settingsKept_pushResult (p : Port) (o : RequestOutcome) (n : Nat) (data : List Byte) : SettingsKept s (pushResult p o n data s) :=
  settingsKept_ite (fun _ => ⟨rfl, rfl⟩) (fun _ => ⟨rfl, rfl⟩)

theorem formsKept_runControl (p : Port) (i : Nat) : FormsKept s (runControl p i s) := by
  refine formsKept_ite (fun _ => ⟨id, id⟩) fun _ => formsKept_ite (fun _ => ?_) (fun _ => ⟨id, id⟩)
  exact formsKept_ite (fun _ => ⟨id, id⟩) (fun _ => formsKept_restart s)

theorem formsKept_writeElement (r : Region) (p : Port) (i : Nat) (data : List Byte) : FormsKept s (writeElement r p i data s) := by
  cases r with
  | signals =>
    simp only [writeElement]
    cases finOf 64 i with
    | none => exact .refl s
    | some e => exact (deliverTo_table ..).settingsKept.forms
  | telltales =>
    simp only [writeElement]
    cases finOf 40 i <;> exact ⟨id, id⟩
  | chimes =>
    simp only [writeElement]
    cases finOf 8 i <;> exact ⟨id, id⟩
  | tacho => exact (settingsKept_recordArrival ..).forms
  | distance => exact (settingsKept_putDistance ..).forms
  | config => exact formsKept_setStore fun ⟨image, staging⟩ => ⟨image, Memory.writeBlock_wf _ staging i data⟩
  | control => exact formsKept_runControl ..
  | watch | directory | signalDetail | gauges | links | cycleState => exact ⟨id, id⟩

theorem settingsKept_setCursor (p : Port) (r : Region) (i : Nat) : SettingsKept s (setCursor p r i s) := ⟨rfl, rfl⟩

theorem formsKept_applyWrite (p : Port) (r : Region) (first count : Nat) (items : List (Nat × List Byte)) :
    FormsKept s (applyWrite p r first count items s) :=
  (settingsKept_setCursor s p r ((first + count) % r.elements)).forms.trans <|
    (formsKept_foldl _ (fun s (it : Nat × List Byte) => formsKept_writeElement s r p it.1 it.2) items _).trans
      (settingsKept_pushResult ..).forms

theorem formsKept_runWrite (p : Port) (r : Region) (index count : Nat) (data : List Byte) : FormsKept s (runWrite p r index count data s) := by
  have refused (o : RequestOutcome) : FormsKept s (pushResult p o 0 [] s) := (settingsKept_pushResult ..).forms
  refine formsKept_ite (fun _ => refused _) fun _ => formsKept_ite (fun _ => refused _) fun _ => ?_
  dsimp only
  split
  · exact refused _
  · exact formsKept_applyWrite ..

theorem settingsKept_runRead (p : Port) (region index count : Nat) : SettingsKept s (runRead p region index count s) := by
  unfold runRead
  split
  · exact settingsKept_pushResult ..
  · refine settingsKept_ite (fun _ => settingsKept_pushResult ..) fun _ => settingsKept_ite (fun _ => settingsKept_pushResult ..) fun _ => ?_
    unfold readElements
    dsimp only
    refine .trans ?_ (settingsKept_pushResult ..)
    exact settingsKept_ite (fun _ => .refl s) (fun _ => settingsKept_setCursor ..)

theorem settingsKept_runWait (p : Port) (index count : Nat) : SettingsKept s (runWait p index count s) := by
  unfold runWait
  split
  · exact settingsKept_pushResult ..
  · exact settingsKept_ite (fun _ => settingsKept_pushResult ..) fun _ =>
      settingsKept_ite (fun _ => settingsKept_pushResult ..) fun _ => ⟨rfl, rfl⟩

theorem settingsKept_runChanges (p : Port) (count : Nat) : SettingsKept s (runChanges p count s) :=
  settingsKept_ite (fun _ => settingsKept_pushResult ..)
    (fun _ => .trans (t := setPort p _ s) ⟨rfl, rfl⟩ (settingsKept_pushResult ..))

theorem formsKept_runRequest (p : Port) (q : Request) : FormsKept s (runRequest p q s) := by
  cases q with
  | read region index count => exact (settingsKept_runRead ..).forms
  | write r index count data => exact formsKept_runWrite ..
  | wait index count => exact (settingsKept_runWait ..).forms
  | changes count => exact (settingsKept_runChanges ..).forms
  | faulty o => exact (settingsKept_pushResult ..).forms

/-! ### Frames, commands and the step -/

theorem formsKept_finishFrame (p : Port) (f : FrameExec) : FormsKept s (finishFrame p f s) := by
  have ended (x : PortState) : FormsKept s (setPort p x s) := ⟨id, id⟩
  have programming (u : State) : FormsKept u (startProgramming u) := by
    refine formsKept_setStore fun ⟨image, staging⟩ => ⟨?_, staging⟩
    exact Memory.eraseLastBlock_wf u.store.image image
  exact formsKept_ite (fun _ => (ended _).trans (programming _)) (fun _ => ended _)

theorem formsKept_advanceFrame (p : Port) : FormsKept s (advanceFrame p s) := by
  unfold advanceFrame
  split
  · exact .refl s
  · split
    · exact formsKept_finishFrame ..
    · have taken (x : PortState) : FormsKept s (setPort p x s) := ⟨id, id⟩
      exact (taken _).trans ((formsKept_runRequest ..).trans (finishEvent_eventEnd ..).forms)

theorem formsKept_complete {s u : State} (before : State) (h : FormsKept s u) : FormsKept s (complete before u) :=
  complete_keeps (P := FormsKept s) (fun b t ht => ht.trans (finishEvent_eventEnd b t).forms)
    (fun p t _ ht => ht.trans (formsKept_advanceFrame t p)) before u h

/-- The part's reset, or an event: every command but POWER_ON_RESET ends as an event does, with the frames that run behind it; what it makes of the
state before keeps the forms. -/
theorem exec_forms (c : Instr) :
    (∃ strap, c = .powerOnReset strap ∧ exec c s = .next (powerOn strap s)) ∨ ∃ u, exec c s = .next (complete s u) ∧ FormsKept s u := by
  cases c with
  | powerOnReset strap => exact .inl ⟨strap, rfl, rfl⟩
  | configLoadComplete =>
    exact .inr ⟨_, rfl, formsKept_ite (fun _ => (formsKept_loadImage s).trans (formsKept_loadExit _)) (fun _ => .refl s)⟩
  | restartLoadEnd => exact .inr ⟨_, rfl, formsKept_ite (fun _ => formsKept_loadExit s) (fun _ => .refl s)⟩
  | agingTimerExpiry => exact .inr ⟨_, rfl, (ageTable_spec s).1.settingsKept.forms⟩
  | reclaimTimerExpiry i =>
    refine .inr ⟨_, rfl, (settingsKept_ite (fun _ => ?_) (fun _ => .refl s)).forms⟩
    exact .trans (t := setEntry i _ s) ⟨rfl, rfl⟩ (recompute_spec ..).table.settingsKept
  | disagreementTimerExpiry i =>
    refine .inr ⟨_, rfl, SettingsKept.forms ?_⟩
    unfold disagreementExpiry
    dsimp only
    split
    · exact .trans (t := setEntry i _ s) ⟨rfl, rfl⟩ (recompute_spec ..).table.settingsKept
    · exact .refl s
    · exact .refl s
  | pulseEdge i edge us => exact .inr ⟨_, rfl, ((settingsKept_advanceCounter s i us).trans (settingsKept_onEdge _ i edge)).forms⟩
  | gateExpiry i us => exact .inr ⟨_, rfl, ((settingsKept_advanceCounter s i us).trans (settingsKept_onGate _ i)).forms⟩
  | scanTimerExpiry => exact .inr ⟨_, rfl, (settingsKept_ite (fun _ => settingsKept_beginPass ..) (fun _ => .refl s)).forms⟩
  | parkedTimerExpiry => exact .inr ⟨_, rfl, (settingsKept_onParkedTimer s).forms⟩
  | testConversionsDone => exact .inr ⟨_, rfl, (settingsKept_onTestsDone ..).forms⟩
  | settleTimeExpiry => exact .inr ⟨_, rfl, (settingsKept_onSettled s).forms⟩
  | conversionDone => exact .inr ⟨_, rfl, (settingsKept_onConversion ..).forms⟩
  | rawLevelChange => exact .inr ⟨_, rfl, (settingsKept_onRawLevel ..).forms⟩
  | debounceTimerExpiry => exact .inr ⟨_, rfl, (settingsKept_onDebounce ..).forms⟩
  | motionTimerExpiry => exact .inr ⟨_, rfl, (settingsKept_putGauge ..).forms⟩
  | homingTimerExpiry => exact .inr ⟨_, rfl, (settingsKept_putGauge ..).forms⟩
  | flasherPhaseChange => exact .inr ⟨_, rfl, (settingsKept_onFlasher ..).forms⟩
  | openCheckTimerExpiry => exact .inr ⟨_, rfl, (settingsKept_onOpenCheck ..).forms⟩
  | lampShort => exact .inr ⟨_, rfl, (settingsKept_onShort ..).forms⟩
  | retryTimerExpiry => exact .inr ⟨_, rfl, (settingsKept_onRetry ..).forms⟩
  | chimeOnTimeExpiry => exact .inr ⟨_, rfl, (settingsKept_changePlaying ..).forms⟩
  | chimeOffTimeExpiry => exact .inr ⟨_, rfl, (settingsKept_changePlaying ..).forms⟩
  | recordAgeTimerExpiry => exact .inr ⟨_, rfl, (settingsKept_onRecordAge s).forms⟩
  | estimationTimerExpiry => exact .inr ⟨_, rfl, (settingsKept_onEstimation s).forms⟩
  | bulbCheckExpiry => exact .inr ⟨_, rfl, (settingsKept_onBulbCheck s).forms⟩
  | commitEnd => exact .inr ⟨_, rfl, formsKept_onCommitEnd s⟩
  | spiPeriodEnd => exact .inr ⟨_, rfl, (settingsKept_endPeriod ..).forms⟩
  | tlinkByteReceived => exact .inr ⟨_, rfl, (settingsKept_tlinkByte ..).forms⟩
  | tlinkGapTimeout => exact .inr ⟨_, rfl, (settingsKept_tlinkGap s).forms⟩
  | tlinkReplySent => exact .inr ⟨_, rfl, ⟨id, id⟩⟩
  | waitTimerExpiry => exact .inr ⟨_, rfl, ⟨id, id⟩⟩
  | linkTimerExpiry => exact .inr ⟨_, rfl, (settingsKept_linkExpiry ..).forms⟩
  | chipSelectActive => exact .inr ⟨_, rfl, (settingsKept_openPeriod ..).forms⟩

theorem step_forms {s t : State} (h : step s = .next t) : FormsKept s t := by
  obtain rfl | ⟨c, rest, -, hx⟩ := step_cases h
  · exact .refl _
  · refine .trans (t := s.setPending rest) ⟨id, id⟩ ?_
    obtain ⟨strap, -, hu⟩ | ⟨u, hu, k⟩ := exec_forms (s.setPending rest) c
    · cases hu.symm.trans hx
      exact formsKept_powerOn ..
    · cases hu.symm.trans hx
      exact formsKept_complete _ k

end

/-- Settles O8: every command keeps the canonical form of both memories, by `step_forms`. -/
theorem memoriesKept : Obligations.MemoriesKept := by
  unfold Obligations.MemoriesKept
  exact fun s t wf h => (step_forms h).memories wf

end Sys2Proof.Machine
end

section
/-! Proofs: the step, the resets, the supply judgement and the commands of timers that do not run. -/

namespace Sys2Proof.Machine

/-- Settles O1, by the two equations of `step`. -/
theorem stepRunsFrontCommand : Obligations.StepRunsFrontCommand := by
  refine ⟨fun c rest s => rfl, fun s h => ?_⟩
  unfold step
  rw [h]

/-! ## Resets -/

theorem Period.afterReset_eq (p : Period) : p.afterReset = if p = .idle then .idle else .discarded := by
  cases p <;> rfl

theorem vector_replicate_get {α : Type} {n : Nat} (x : α) (i : Fin n) : (Vector.replicate n x)[i] = x :=
  Vector.getElem_replicate i.isLt

/-- Settles O14, by the fields of `powerOn`. -/
theorem powerOnReset : Obligations.PowerOnReset := by
  intro strap s
  refine ⟨powerOn strap s, rfl, fun i => ?_, vector_replicate_get _, ⟨rfl, rfl, rfl, rfl, rfl, rfl, rfl, rfl⟩, rfl, ⟨rfl, fun i => ?_⟩,
    vector_replicate_get _, ⟨rfl, rfl, rfl, vector_replicate_get _, vector_replicate_get _⟩, rfl, ⟨rfl, rfl, rfl, rfl, rfl, rfl, rfl⟩, fun p => ?_,
    rfl, ⟨rfl, rfl, rfl, rfl⟩, fun c => ?_, rfl⟩
  · have h : (powerOn strap s).signals[i] = .emptied .unallocated := vector_replicate_get _ i
    rw [h]
    exact ⟨rfl, rfl, rfl, rfl, rfl⟩
  · simp [powerOn, resetInputs, SwitchInput.reset]
  · cases p <;> simp only [← Period.afterReset_eq] <;> rfl
  · exact vector_replicate_get false c.index

theorem requestRestart_idle {s : State} (h : s.cycle.commitInFlight = false) : requestRestart s = restart s := by
  simp [requestRestart, h]

theorem cond_restart_eq (s : State) (c : Condition) :
    (restart s).cond c = (decide (c = .configDefaults ∨ c = .odoMismatch) && s.cond c) := by
  have h (d : Condition) : (c.index == d.index) = decide (c = d) := by
    rw [Bool.eq_iff_iff]
    simpa using ⟨Condition.index_inj, fun h => h ▸ rfl⟩
  simp only [State.cond, restart, keptConditions, Fin.getElem_fin, Vector.getElem_ofFn, Fin.eta, h, Bool.decide_or]

/-- Settles O15, by the fields of `restart`. -/
theorem restartKeeps : Obligations.RestartKeeps := by
  refine ⟨fun s h => by simp [requestRestart, h], fun s h => ?_⟩
  rw [requestRestart_idle h]
  refine ⟨fun i => ?_, rfl, rfl, rfl, ⟨rfl, fun i => ?_⟩, rfl, rfl, rfl, rfl, fun p => ?_, rfl, rfl, cond_restart_eq s, rfl⟩
  · simp [restart, Entry.emptied]; rfl
  · simp [restart, resetInputs, SwitchInput.reset]
  · cases p <;> simp only [← Period.afterReset_eq] <;> rfl

/-- Settles O12: at reset no block holds settings, no frame is in execution and no list holds an item. -/
theorem resetMeetsInvariants : Obligations.ResetMeetsInvariants := by
  have list (p : Port) : (State.reset.port p).changes = [] := by cases p <;> rfl
  have lamps {P : LampSettings → Prop} (st : LampSettings) (h : State.reset.lamps.settings = some st) : P st := by cases h
  have gauge (i : Fin 6) : State.reset.gauges[i] = .reset := vector_replicate_get _ i
  have cond (c : Condition) : State.reset.cond c = false := vector_replicate_get false c.index
  refine ⟨rfl, fun p => ?_, ?_, ⟨Nat.zero_le _, fun _ => ⟨rfl, rfl⟩⟩, ?_, ?_, ?_, lamps, lamps, lamps, lamps, lamps⟩
  · simp [PortState.listLegal, list]
  · exact ⟨cond _, cond _, cond _, fun p => by rw [cond]; cases p <;> rfl, cond _, (by rintro _ ⟨⟩), (by rintro _ ⟨⟩)⟩
  · exact ⟨by decide, (by rintro _ ⟨⟩), fun _ => ⟨rfl, rfl, rfl, rfl, rfl⟩, by decide⟩
  · refine ⟨fun i gs h => ?_, fun i gs h => ?_, (by rintro ⟨⟩), fun _ i => ?_, (by rintro ⟨⟩)⟩
    · rw [gauge] at h; cases h
    · rw [gauge] at h; cases h
    · rw [gauge]; rfl
  · exact ⟨⟨.nil, by simp [State.reset, ConfigStore.reset]⟩, .nil, by simp [State.reset, ConfigStore.reset]⟩

/-! ## The supply judgement -/

/-- Settles O31, by the ranges of each row of the table. -/
theorem supplyJudgement_table : Obligations.SupplyJudgement := by
  refine ⟨fun V n h => ?_, fun V n h k => ?_, fun V n h => ?_, fun V n h => ?_, fun V n h k => ?_, fun V n h => ?_, fun V n h => ?_,
    fun V n h k => ?_, fun V n h => ?_⟩ <;> grind [judgeSupply]

/-! ## Commands without an event -/

theorem completes_idle {c : Instr} {s u : State} (hc : exec c s = .next (complete s u)) (hu : u = s) : Completes c s (EventEnd s) :=
  completes_of_eventEnd hc (hu ▸ .refl s) fun _ h => h

theorem putGauge_self (i : Fin 6) (s : State) : putGauge i s.gauges[i] s = s := by
  have kept : gaugeNotice s.gauges[i] s.gauges[i] = false := by
    simp [-Fin.getElem_fin, gaugeNotice]
  simp only [putGauge, kept]
  simp [State.setGauges]

theorem Gauge.motionExpiry_idle {v : View} {g : Gauge} (h : (g.state.moves && !g.atRest) = false) : g.motionExpiry v = g := by
  unfold Gauge.motionExpiry
  split
  next => simp [-Fin.getElem_fin, h]
  next => rfl

theorem Gauge.homingExpiry_idle {c : CycleState} {v : View} {g : Gauge} (h : g.state ≠ .homing) : g.homingExpiry c v = g := by
  unfold Gauge.homingExpiry
  split
  next => simp [-Fin.getElem_fin, h]
  next => rfl

theorem playingChime_eq_none {s : State} (h : ∀ i : Fin 8, s.lamps.chimes[i].state ≠ .playing) : playingChime s = none := by
  simp [-Fin.getElem_fin, playingChime, h]

theorem changePlaying_idle {phase : ChimePhase} {f : ChimeDesc → Chime → Chime} {s : State} (h : playingChime s = none) :
    changePlaying phase f s = s := by
  unfold changePlaying
  rw [h]
  split <;> simp_all

theorem mapExec_self {f : FrameExec → FrameExec} {p : Port} {s : State} (h : ∀ x, (s.port p).exec = some x → f x = x) : mapExec f p s = s := by
  have same : { s.port p with exec := (s.port p).exec.map f } = s.port p := by
    have : (s.port p).exec.map f = (s.port p).exec := by
      cases hx : (s.port p).exec with
      | none => rfl
      | some x => exact congrArg some (h x hx)
    rw [this]
  unfold mapExec
  rw [same]
  cases p <;> rfl

/-- Settles O55: in each case the command's own part leaves the state as it was, and the event ends. -/
theorem stoppedTimersChangeNothing : Obligations.StoppedTimersChangeNothing := by
  intro s
  refine ⟨fun h => ?_, fun h => ?_, fun i h => ?_, fun i h => ?_, fun h => ?_, fun h => ?_, fun h => ⟨?_, fun zero full code => ⟨?_, ?_⟩⟩,
    fun i h => ?_, fun k h h' => ?_, fun k h => ?_, fun k h => ?_, fun i mA h => ?_, fun i h => ?_, fun i b h => ?_, fun h => ⟨?_, ?_⟩,
    fun h => ?_, fun h => ?_, fun h => ?_, fun h => ?_, fun p h => ?_, fun p h => ?_⟩ <;> refine completes_idle rfl ?_
  · exact if_neg fun ⟨hc, hs⟩ => h.elim (· hc) (· hs)
  · exact if_neg fun ⟨hc, hs⟩ => h.elim (· hc) (hs ·)
  · simp [-Fin.getElem_fin, reclaimExpiry, h, Timer.isRunning]
  · rcases h with h | h <;> simp [-Fin.getElem_fin, disagreementExpiry, h]
  · simp [-Fin.getElem_fin, onScanTimer, h, Timer.isRunning]
  · simp [-Fin.getElem_fin, onParkedTimer, h, Timer.isRunning]
  · simp [-Fin.getElem_fin, onSettled, h]
  · simp [-Fin.getElem_fin, onTestsDone, h]
  · simp [-Fin.getElem_fin, onConversion, h]
  · unfold onDebounce
    split <;> simp [-Fin.getElem_fin, h, Timer.isRunning]
  · have rest : (s.gauges[k].state.moves && !s.gauges[k].atRest) = false := by simp [-Fin.getElem_fin, Gauge.atRest, h, h']
    simp only [onMotion, Gauge.motionExpiry_idle rest, putGauge_self]
  · have rest : (s.gauges[k].state.moves && !s.gauges[k].atRest) = false := by rcases h with h | h | h <;> simp [-Fin.getElem_fin, h, GaugeState.moves]
    simp only [onMotion, Gauge.motionExpiry_idle rest, putGauge_self]
  · simp only [onHoming, Gauge.homingExpiry_idle h, putGauge_self]
  · simp [-Fin.getElem_fin, onOpenCheck, h, Timer.isRunning]
  · simp [-Fin.getElem_fin, onShort, h]
  · simp [-Fin.getElem_fin, onRetry, h, Timer.isRunning]
  · exact changePlaying_idle (playingChime_eq_none h)
  · exact changePlaying_idle (playingChime_eq_none h)
  · unfold onRecordAge
    split <;> simp [-Fin.getElem_fin, recordAgeExpiry, h, Timer.isRunning]
  · unfold onEstimation
    split <;> simp [-Fin.getElem_fin, estimationExpiry, h, Timer.isRunning]
  · simp [-Fin.getElem_fin, onBulbCheck, h, Timer.isRunning]
  · refine if_neg fun ⟨hc, hp⟩ => ?_
    rcases h with h | h
    · exact h hc
    · simp [-Fin.getElem_fin, h] at hp
  · exact mapExec_self fun f hf => by simp [-Fin.getElem_fin, h f hf]
  · refine if_neg fun ⟨hc, hp⟩ => ?_
    rcases h with h | h
    · exact h hc
    · simp [-Fin.getElem_fin, h, Timer.isRunning] at hp

end Sys2Proof.Machine
end

section
/-! Proofs: the timers of the signal table (R6 to R8, R15 to R19) and the change of a raw level (R81). -/

namespace Sys2Proof.Machine

/-! ## A command's own part, and the end of its event -/

theorem completes_finish {c : Instr} {s u : State} {P : State → Prop} (hc : exec c s = .next (complete s u)) (h : P (finishEvent s u)) :
    Completes c s P := ⟨finishEvent s u, hc, h⟩

theorem completes_end {c : Instr} {s u v : State} (hc : exec c s = .next (complete s u)) (hu : u = v) : Completes c s (EventEnd v) :=
  completes_finish hc (hu ▸ finishEvent_eventEnd s u)

/-! ## Aging -/

theorem Slot.ageBy_aged {d : Descriptor} {src : Source} {supply : Supply} {x : Slot} (he : x.state ≠ .empty)
    (ha : ¬ ((∃ a, src = .analog a) ∧ supply = .low)) :
    x.ageBy d src supply =
      { x with
        age := if x.age < 65535 then x.age + 1 else 65535
        state := if src.isSwitch then x.state else ageState d (if x.age < 65535 then x.age + 1 else 65535) x.state } := by
  have age : min 65535 (x.age + 1) = if x.age < 65535 then x.age + 1 else 65535 := by split <;> omega
  have analog : ¬ (src.isAnalog = true ∧ supply = .low) := fun ⟨hs, hl⟩ => ha ⟨by cases src <;> simp_all [Source.isAnalog], hl⟩
  simp [Slot.ageBy, he, analog, age]

/-- Settles O17: the table's law for every entry, and the ages and states of one slot by its state and its source. -/
theorem agingExpiry : Obligations.AgingExpiry := by
  refine ⟨fun s => completes_finish rfl ?_, fun d src supply x => ⟨fun h => ?_, ?_, fun he ha => ?_⟩⟩
  · have ended := finishEvent_eventEnd s (ageTable s)
    obtain ⟨table, entries⟩ := ageTable_spec s
    exact ⟨table.trans ended.table, fun i => (entries i).trans (ended.afterView.entries i), (ageTable_followed s).ended ended⟩
  · simp [Slot.ageBy, h]
  · rintro ⟨a, rfl⟩ hl
    simp [Slot.ageBy, Source.isAnalog, hl]
  · rw [Slot.ageBy_aged he ha]
    refine ⟨rfl, rfl, rfl, rfl, ?_, fun hs => ?_⟩
    · rintro ⟨i, rfl⟩
      rfl
    · have hs' : src.isSwitch = false := by cases src <;> simp_all [Source.isSwitch]
      simp only [hs']
      exact ⟨by rintro (h | h) <;> simp [h, ageState], fun h => by simp [h, ageState], fun h => by simp [h, ageState]⟩

/-! ## The reclaim timer -/

theorem Entry.startsReclaim_iff (u : Update) (e : Entry) :
    e.startsReclaim u = true ↔
      (∃ v, u = .value v) ∧ (e.primary.state = .empty ∨ e.primary.state = .lost ∨ e.primary.state = .fault) ∧
        e.view.source = .alternate := by
  cases u with
  | fault c => simp [Entry.startsReclaim]
  | value v => cases h : e.primary.state <;> simp [Entry.startsReclaim, Slot.serves, h]

theorem Entry.select_source_of_held {e : Entry} (h : e.held = true) : e.select.view.source = .alternate := by
  rw [Entry.select_view_alternate e (e.held_iff.1 h).2.1 (.inl h)]
  rfl

theorem Entry.select_view_of_stopped {e : Entry} (hp : e.primary.serves = true) (hr : e.reclaim = .stopped) :
    e.select.view = e.primary.view .primary :=
  Entry.select_view_primary e hp fun h => (e.held_iff.1 h).2.2.2 hr

/-- An entry whose alternate serves, with its primary slot given a value: both slots serve. -/
theorem Entry.afterUpdate_primary {src : Source} {v : Int} {e : Entry} (hp : e.desc.primary = src) (ha : e.alternateServes = true) :
    (e.afterUpdate src (.value v)).reclaim = (if e.startsReclaim (.value v) then .running 500 else e.reclaim) ∧
    (e.startsReclaim (.value v) = true → (e.afterUpdate src (.value v)).view.source = .alternate) := by
  simp only [Entry.afterUpdate, hp, if_true]
  have serves : (e.primary.take e.desc (.value v)).serves = true := rfl
  constructor
  · rw [Entry.select_reclaim]
    exact Entry.keptReclaim_of_both _ (And.intro serves ha)
  · intro h
    have held : Entry.held { e with
        primary := e.primary.take e.desc (.value v), reclaim := if e.startsReclaim (.value v) then .running 500 else e.reclaim } = true := by
      rw [Entry.held_iff]
      exact ⟨((e.startsReclaim_iff _).1 h).2.2, ha, serves, by simp [h]⟩
    exact Entry.select_source_of_held held

/-- Settles O18: the timer's start by the update's kind, its expiry by the law of one recomputed entry. -/
theorem reclaimExpiry_runs : Obligations.ReclaimExpiry := by
  refine ⟨Entry.startsReclaim_iff, fun src v e hp hn ha => ?_, fun i s ms h => completes_finish rfl ?_⟩
  · obtain ⟨reclaim, view⟩ := Entry.afterUpdate_primary (v := v) hp ((Entry.alternateServes_iff e).2 ⟨hn, (Slot.serves_iff _).2 ha⟩)
    exact ⟨fun hs => ⟨by rw [reclaim, if_pos hs], view hs⟩, fun hs => by rw [reclaim, if_neg (by simp [hs])]⟩
  · have running : s.signals[i].reclaim.isRunning = true := by rw [h]; rfl
    have ended := finishEvent_eventEnd s (reclaimExpiry i s)
    obtain ⟨table, here, others⟩ := (reclaimExpiry_spec i s running).after ended.afterView
    refine ⟨table, here, fun hp => ?_, others, (reclaimExpiry_followed i s running).ended ended⟩
    rw [here.view]
    exact Entry.select_view_of_stopped (e := { s.signals[i] with reclaim := .stopped }) ((Slot.serves_iff _).2 hp) rfl

/-! ## The disagreement timer -/

theorem Entry.judgePair_cases (isUpdate : Bool) (a b : Entry) :
    (¬ (a.view.state = .live ∧ b.view.state = .live) → Entry.judgePair isUpdate b a = { a with disagreement := .idle }) ∧
    (a.view.state = .live ∧ b.view.state = .live → Entry.judgePair isUpdate b a =
      if isUpdate = false then a
      else if (a.desc.tolerance : Int) < |a.view.value - b.view.value| then
        { a with disagreement := if a.disagreement = .idle then .running a.desc.persistenceMs else a.disagreement }
      else { a with disagreement := .idle, disagree := false }) := by
  have apart : a.desc.tolerance < (a.view.value - b.view.value).natAbs ↔ (a.desc.tolerance : Int) < |a.view.value - b.view.value| := by
    rw [Int.abs_eq_natAbs]
    omega
  constructor
  · intro h
    rw [Entry.judgePair, if_neg h]
  · intro h
    rw [Entry.judgePair, if_pos h]
    simp only [apart]
    cases isUpdate
    · rfl
    · simp only [Bool.not_true, Bool.false_eq_true, if_false, Bool.true_eq_false]
      split <;> [split <;> simp_all; rfl]

theorem disagreementExpiry_running {i : Fin 64} {s : State} {ms : Nat} (h : s.signals[i].disagreement = .running ms) :
    disagreementExpiry i s =
      recompute s.signals[i] false i (setEntry i { s.signals[i] with disagreement := .expired, disagree := true } s) := by
  simp only [disagreementExpiry, h]

theorem Entry.judgePair_disagreement (b : Bool) (p e : Entry) (hb : b = false) :
    (Entry.judgePair b p e).disagreement = e.disagreement ∨ (Entry.judgePair b p e).disagreement = .idle := by
  subst hb
  unfold Entry.judgePair
  simp only [Bool.not_false, if_true]
  split
  · exact .inl rfl
  · exact .inr rfl

theorem judgePairs_disagreement (i e : Fin 64) (s : State) :
    (judgePairs false i s).signals[e].disagreement = s.signals[e].disagreement ∨ (judgePairs false i s).signals[e].disagreement = .idle := by
  refine forAll_rel (R := fun s t => t.signals[e].disagreement = s.signals[e].disagreement ∨ t.signals[e].disagreement = .idle)
    (fun _ => .inl rfl) (fun _ _ _ a b => b.elim (fun h => h ▸ a) .inr) _ (fun a s => ?_) s
  split
  · unfold judgePairOf
    split
    · exact .inl rfl
    · by_cases h : e = a
      · subst h
        rw [setEntry_here]
        exact Entry.judgePair_disagreement _ _ _ rfl
      · rw [setEntry_other _ s h]
        exact .inl rfl
  · exact .inl rfl

/-- A recomputation without an update keeps the entry's mark, keeps its disagreement timer or returns it to IDLE, and reports a mark that
differs from the one before the event (R18, R19, R20). -/
theorem recompute_marks (before : Entry) (i : Fin 64) (s : State) :
    let t := recompute before false i s
    t.signals[i].disagree = s.signals[i].disagree ∧
    (t.signals[i].disagreement = s.signals[i].disagreement ∨ t.signals[i].disagreement = .idle) ∧
    (before.disagree ≠ s.signals[i].disagree → noticed (signalItem i) t) := by
  unfold recompute
  dsimp only
  have selected := setEntry_here i s.signals[i].select s
  generalize setEntry i s.signals[i].select s = s1 at selected ⊢
  have mark := judgePairs_marks i s1 i
  have timer := judgePairs_disagreement i i s1
  rw [selected, Entry.select_disagree] at mark
  rw [selected, Entry.select_disagreement] at timer
  generalize judgePairs false i s1 = s2 at mark timer ⊢
  obtain ⟨here, -, noticed'⟩ := noticeEntry_here before i s2
  generalize noticeEntry before i s2 = s3 at here noticed' ⊢
  have handed := (handEffective_took i s3).1
  have handedPorts := (afterView_handEffective i s3).table.ports
  generalize handEffective i s3 = s4 at handed handedPorts ⊢
  have partners := reportPartners_spec s.signals i s4
  rw [partners.untouched i (.inr (.inl rfl)), handed, here, mark]
  refine ⟨rfl, timer, fun h => ((noticed' ?_).took handedPorts).took partners.ports⟩
  simp [-Fin.getElem_fin, entryChanged, mark, h]

theorem setEntry_self (i : Fin 64) (s : State) : setEntry i s.signals[i] s = s := by
  unfold setEntry
  rw [vector_set_self]
  rfl

/-- Settles O19: the judgement of a pair by its cases, the expiry by the law of one recomputed entry. -/
theorem disagreementExpiry_runs : Obligations.DisagreementExpiry := by
  refine ⟨fun isUpdate a b => ?_, fun i s ms h => completes_finish rfl ?_⟩
  · obtain ⟨lost, live⟩ := Entry.judgePair_cases isUpdate a b
    exact ⟨lost, fun h hu => by rw [live h, if_pos hu], fun h hu ha => by rw [live h, if_neg (by simp [hu]), if_pos ha],
      fun h hu ha => by rw [live h, if_neg (by simp [hu]), if_neg ha]⟩
  · rw [disagreementExpiry_running h]
    have raised := entryBecomes_setEntry (s := s) (i := i) (e := { s.signals[i] with disagreement := .expired, disagree := true }) rfl
    have marked := setEntry_here i { s.signals[i] with disagreement := .expired, disagree := true } s
    have base : setEntry i { s.signals[i] with disagreement := .expired, disagree := true } s =
      s.setSignals (s.signals.set i { s.signals[i] with disagree := true, disagreement := .expired }) := rfl
    rw [← base]
    generalize setEntry i { s.signals[i] with disagreement := .expired, disagree := true } s = m at raised marked ⊢
    obtain ⟨mark, timer, reported⟩ := recompute_marks s.signals[i] i m
    have becomes := raised.recompute s.signals[i] false
    have stepped : Stepped false i True m (recompute s.signals[i] false i m) := by
      have := recompute_stepped (s := m) (i := i) (e := m.signals[i]) s.signals[i] false trivial rfl rfl rfl (by rw [marked]) (.inr rfl)
      rwa [setEntry_self] at this
    have followed := stepped.followed (recompute_spec _ _ _ _).table
    have ended := finishEvent_eventEnd s (recompute s.signals[i] false i m)
    rw [marked] at mark timer reported
    obtain ⟨table, here, others⟩ := becomes.after ended.afterView
    refine ⟨table, ?_, ?_, ?_, others, followed.ended ended, fun hd => (reported (by simp [-Fin.getElem_fin, hd])).took ended.ports⟩
    · rw [ended.signals, mark]
    · rw [ended.signals]
      exact timer
    · have marksOnly : EntryKept s.signals[i] { s.signals[i] with disagreement := .expired, disagree := true } := ⟨rfl, rfl, rfl, rfl, rfl⟩
      exact marksOnly.select.trans here

/-! ## A raw level -/

/-- Settles O33, by the two tests of `onRawLevel`. -/
theorem rawLevelChange : Obligations.RawLevelChange := by
  refine fun i l s => ⟨fun h => completes_end rfl ?_, fun h hs => completes_end rfl ?_, fun st h hs => completes_end rfl ?_⟩
  · simp only [onRawLevel, if_pos h]
  · simp only [onRawLevel, if_neg h, hs]
    simp [setInput, hs]
  · simp only [onRawLevel, if_neg h, hs]
    simp [setInput, SwitchInput.change, hs]

end Sys2Proof.Machine
end

section
/-! Proofs: the edges and the gates of the pulse unit (R27 to R32, R42, R43). -/

namespace Sys2Proof.Machine

/-! ## A table event under other blocks -/

theorem TableEvent.setPulse {u t : State} (h : TableEvent u t) (x : Vector PulseChannel 4) : TableEvent (u.setPulse x) (t.setPulse x) :=
  { h with pulse := rfl }

theorem TableEvent.setDist {u t : State} (h : TableEvent u t) (x : Distance) : TableEvent (u.setDist x) (t.setDist x) := { h with dist := rfl }

theorem TableEvent.signalEvent {u t : State} (h : TableEvent u t) (ev : WaitEvent) : TableEvent u (signalEvent ev t) :=
  h.trans (EventEnd.signalEvent ev t).table

theorem SameTable.setPulse (x : Vector PulseChannel 4) (s : State) : SameTable s (s.setPulse x) := .of_eq rfl rfl rfl

theorem SameTable.setDist (x : Distance) (s : State) : SameTable s (s.setDist x) := .of_eq rfl rfl rfl

theorem SameTable.signalEvent (ev : WaitEvent) (s : State) : SameTable s (signalEvent ev s) := (EventEnd.signalEvent ev s).sameTable

/-! ## Released frames -/

theorem Released.took {ev : WaitEvent} {s t : State} (h : Released ev s) (k : PortsTook s t) : Released ev t := by
  intro p g tm hg
  have kept := k.kept p
  cases hf : (s.port p).exec with
  | none =>
    have := kept.isSome
    simp [hf, hg] at this
  | some f =>
    obtain ⟨g', hg', fk⟩ := kept.exec f hf
    obtain rfl : g = g' := Option.some.inj (hg.symm.trans hg')
    rcases fk.hold with hh | hh <;> rw [hh]
    · exact h p f tm hf
    · simp

theorem released_signalEvent (ev : WaitEvent) (s : State) : Released ev (signalEvent ev s) := by
  intro p f tm hf
  rw [port_signalEvent] at hf
  unfold PortState.signal at hf
  split at hf
  next g hg =>
    split at hf
    next w tm' hw =>
      split at hf
      · obtain rfl : g.endHold .ok = f := Option.some.inj hf
        simp [FrameExec.endHold]
      next hne =>
        obtain rfl : g = f := Option.some.inj (hg.symm.trans hf)
        simp [hw, hne]
    next hw =>
      obtain rfl : g = f := Option.some.inj (hg.symm.trans hf)
      simp [hw]
  next hg => simp [hg] at hf

/-! ## One channel -/

theorem setChannel_here (i : Fin 4) (x : PulseChannel) (s : State) : (setChannel i x s).pulse[i] = x := Vector.getElem_set_self ..



theorem setChannel_setChannel (i : Fin 4) (x y : PulseChannel) (s : State) : setChannel i y (setChannel i x s) = setChannel i y s := by
  simp [setChannel, State.setPulse]

theorem PulseChannel.gated_eq_some {x : PulseChannel} {ms : Nat} {st : PulseSettings} (hg : x.gate = .running ms) (hs : x.settings = some st) :
    x.gated = some st := by
  simp [PulseChannel.gated, hg, hs, Timer.isRunning]

/-! ## Edges -/

theorem setCond_self {c : Condition} {b : Bool} {s : State} (h : s.cond c = b) : setCond c b s = s := by
  subst h
  unfold setCond State.cond
  rw [vector_set_self]
  rfl

theorem putDistance_eventEnd {d : Distance} {s : State} (h : s.cond .odoMismatch = d.mismatch) : EventEnd (s.setDist d) (putDistance d s) := by
  unfold putDistance
  dsimp only
  rw [setCond_self (show (s.setDist d).cond .odoMismatch = d.mismatch from h)]
  split
  · exact .raiseItem not_ofTable_distance _
  · exact .refl _

theorem putDistance_noticed {d : Distance} {s : State} (h : distanceChanged s.dist d = true) : noticed distanceItem (putDistance d s) := by
  unfold putDistance
  rw [if_pos h]
  exact noticed_raiseItem _ _

theorem EdgeSelect.captures_iff (e : EdgeSelect) (k : EdgeKind) :
    e.captures k = true ↔ e = .both ∨ (e = .rising ∧ k = .rising) ∨ (e = .falling ∧ k = .falling) := by
  cases e <;> cases k <;> decide

theorem PulseChannel.spaced_iff (st : PulseSettings) (x : PulseChannel) :
    x.spaced st = true ↔ ∀ ref, x.spacingRef = some ref → st.spacingUs ≤ (x.counter - ref).toNat := by
  cases h : x.spacingRef <;> simp only [PulseChannel.spaced, h, since, Option.all] <;> grind

theorem onEdge_uncaptured {i : Fin 4} {edge : EdgeKind} {s : State}
    (h : s.pulse[i].gate = .stopped ∨ s.pulse[i].settings = none ∨ ∃ st, s.pulse[i].settings = some st ∧ st.edges.captures edge = false) :
    onEdge i edge s = s := by
  unfold onEdge
  split
  next st hst =>
    unfold PulseChannel.gated at hst
    split at hst
    next hr =>
      rcases h with h | h | ⟨st', h, hc⟩
      · simp [-Fin.getElem_fin, h, Timer.isRunning] at hr
      · simp [-Fin.getElem_fin, h] at hst
      · obtain rfl : st' = st := Option.some.inj (h.symm.trans hst)
        simp [hc]
    next => cases hst
  next => rfl

theorem onEdge_captured {i : Fin 4} {edge : EdgeKind} {s : State} {st : PulseSettings} (h : s.pulse[i].gated = some st)
    (hc : st.edges.captures edge = true) : onEdge i edge s = capturedEdge i st s := by
  unfold onEdge
  rw [h]
  exact if_pos hc

/-- A captured edge by the test of its spacing; the channel's counter is read as the edge finds it. -/
theorem capturedEdge_eq {i : Fin 4} {st : PulseSettings} {x : PulseChannel} {s : State} :
    capturedEdge i st (setChannel i x s) =
      if x.spaced st then
        if i = 0 then putDistance (s.dist.edge (st.edges == .both)) (setChannel i x.accept s) else setChannel i x.accept s
      else setChannel i { x with rejected := x.rejected + 1 } s := by
  simp only [capturedEdge, setChannel_here, setChannel_setChannel]
  rfl

/-- Settles O21: the channel with its counter moved on, by the tests of a captured edge. -/
theorem pulseEdges : Obligations.PulseEdges := by
  refine ⟨fun i edge us s h => completes_end rfl ?_, fun i edge us ms st s hg hs hc => ?_⟩
  · have here := setChannel_here i { s.pulse[i] with counter := s.pulse[i].counter + BitVec.ofNat 24 us } s
    refine onEdge_uncaptured (s := advanceCounter i us s) ?_
    unfold advanceCounter
    simp only [here]
    refine h.imp id (.imp id ?_)
    rintro ⟨st, hst, hne⟩
    exact ⟨st, hst, by rcases hne with ⟨a, b⟩ | ⟨a, b⟩ <;> simp [a, b, EdgeSelect.captures]⟩
  · intro now accepted
    have here := setChannel_here i { s.pulse[i] with counter := now } s
    have gated : (advanceCounter i us s).pulse[i].gated = some st := by
      unfold advanceCounter
      rw [here]
      exact PulseChannel.gated_eq_some hg hs
    have captured : onEdge i edge (advanceCounter i us s) = capturedEdge i st (setChannel i { s.pulse[i] with counter := now } s) :=
      onEdge_captured gated ((EdgeSelect.captures_iff ..).2 hc)
    rw [capturedEdge_eq] at captured
    refine ⟨fun ref hr hlt => completes_end rfl ?_, fun hsp => ?_⟩
    · have close : ¬ PulseChannel.spaced st { s.pulse[i] with counter := now } = true := fun k =>
        absurd ((PulseChannel.spaced_iff ..).1 k ref hr) (Nat.not_le.2 hlt)
      rw [captured, if_neg close]
      rfl
    rw [if_pos ((PulseChannel.spaced_iff ..).2 hsp)] at captured
    refine ⟨fun hi => completes_end rfl ?_, fun hi hm => completes_finish rfl ?_⟩
    · rw [captured, if_neg hi]
      rfl
    · have handed : onEdge i edge (advanceCounter i us s) = putDistance (s.dist.edge (st.edges == .both)) (setChannel i accepted s) := by
        rw [captured, if_pos hi]
        rfl
      rw [handed]
      have mark : (setChannel i accepted s).cond .odoMismatch = (s.dist.edge (st.edges == .both)).mismatch := by
        rw [Distance.edge_mismatch]
        exact hm
      have put := putDistance_eventEnd mark
      have ended := finishEvent_eventEnd s (putDistance (s.dist.edge (st.edges == .both)) (setChannel i accepted s))
      refine ⟨put.trans ended, fun hd => (putDistance_noticed ?_).took ended.ports⟩
      rwa [ended.dist, putDistance_dist] at hd

/-! ## Gates -/

theorem PulseChannel.expire_counter (st : PulseSettings) (now : Stamp) (x : PulseChannel) (n : Stamp) :
    PulseChannel.expire st now { x with counter := n } = x.expire st now := rfl

/-- The channel behind the stages of an expiry that form its result (R32 to R40). -/
def PulseChannel.expired (st : PulseSettings) (now : Stamp) (x : PulseChannel) : PulseChannel :=
  { x with
    counter := now, current := (x.expire st now).current, tPrev := (x.expire st now).tPrev, spacingRef := (x.expire st now).spacingRef }

/-- The state in which an expired window's update has been delivered, with GATE0 signalled at PC0 (R41, R42). -/
def gateDelivered (i : Fin 4) (u : Update) (s : State) : State :=
  let s := deliver (.pulse i) u s
  if i = 0 then signalEvent .gate0 s else s

/-- An expiry of a running gate: the result, the delivery, the settings that a pending take-over takes, and the next window. -/
theorem onGate_eq {i : Fin 4} {us ms : Nat} {st : PulseSettings} {s : State} (hg : s.pulse[i].gate = .running ms)
    (hs : s.pulse[i].settings = some st) :
    let now := s.pulse[i].counter + BitVec.ofNat 24 us
    onGate i (advanceCounter i us s) =
      startGate i (takeOverPulse i (gateDelivered i (overtaken (pendingPulseSettings i s) (s.pulse[i].expire st now).update)
        (setChannel i (s.pulse[i].expired st now) s))) := by
  intro now
  have here := setChannel_here i { s.pulse[i] with counter := now } s
  have counted : advanceCounter i us s = setChannel i { s.pulse[i] with counter := now } s := rfl
  have gated : PulseChannel.gated { s.pulse[i] with counter := now } = some st := PulseChannel.gated_eq_some hg hs
  have pending : pendingPulseSettings i (setChannel i { s.pulse[i] with counter := now } s) = pendingPulseSettings i s := by
    unfold pendingPulseSettings
    rw [here]
    rfl
  rw [counted, onGate, here]
  simp only [gated, gateExpiry, here, pending, setChannel_setChannel, PulseChannel.expire_counter]
  rfl

theorem gateDelivered_spec {i : Fin 4} {u : Update} {s : State} (h : s.cycle.state ≠ .load) :
    Delivered (.pulse i) u s (gateDelivered i u s) ∧ (i = 0 → Released .gate0 (gateDelivered i u s)) := by
  unfold gateDelivered
  split
  · exact ⟨(deliver_spec _ _ _ h).ended (.signalEvent _ _), fun _ => released_signalEvent _ _⟩
  next hi => exact ⟨deliver_spec _ _ _ h, fun h => absurd h hi⟩

theorem startGate_eq {i : Fin 4} {st : PulseSettings} {x : PulseChannel} {s : State} (hx : s.pulse[i] = x) (hs : x.settings = some st) :
    startGate i s = setChannel i (x.startWindow st.gateMs) s := by
  subst hx
  simp only [startGate, hs]

theorem setChannel_after {i : Fin 4} {x y : PulseChannel} {s m : State} (h : m.pulse = (setChannel i x s).pulse) :
    setChannel i y m = m.setPulse (s.pulse.set i y) := by
  unfold setChannel
  rw [h]
  simp [setChannel]

/-- The step size taken where the counter stands on it, as the mismatch mark gives its condition: nothing is to report (R56, R57). -/
theorem putDistance_stepSize {k : Nat} {s : State} (h : s.cond .odoMismatch = s.dist.mismatch) :
    putDistance (s.dist.takeStepSize k) s = s.setDist (s.dist.takeStepSize k) := by
  have same : distanceChanged s.dist (s.dist.takeStepSize k) = false := by simp [distanceChanged, Distance.takeStepSize]
  unfold putDistance
  dsimp only
  rw [same, setCond_self (show (s.setDist (s.dist.takeStepSize k)).cond .odoMismatch = (s.dist.takeStepSize k).mismatch from h)]
  rfl

theorem takeOverPulse_eq {i : Fin 4} {new : PulseSettings} {s m : State} {x : PulseChannel} (h : m.pulse = (setChannel i x s).pulse)
    (hp : pendingPulseSettings i m = some new) (hm : m.cond .odoMismatch = m.dist.mismatch) :
    takeOverPulse i m =
      (m.setPulse (s.pulse.set i (x.takeSettings new))).setDist (if i = 0 then m.dist.takeStepSize new.scale else m.dist) := by
  have here : m.pulse[i] = x := by rw [h, setChannel_here]
  unfold takeOverPulse
  rw [hp]
  simp only [takePulseSettings, here, setChannel_after h]
  split
  · exact putDistance_stepSize hm
  · rfl

theorem Delivered.setPulse {src : Source} {x : Update} {s t : State} (h : Delivered src x s t) (p : Vector PulseChannel 4) :
    Delivered src x (s.setPulse p) (t.setPulse p) :=
  h.congr (h.table.setPulse p) (.of_eq rfl rfl rfl) rfl rfl (.of_eq rfl rfl rfl) (.of_ports rfl)

theorem Delivered.setDist {src : Source} {x : Update} {s t : State} (h : Delivered src x s t) (d : Distance) :
    Delivered src x (s.setDist d) (t.setDist d) :=
  h.congr (h.table.setDist d) (.of_eq rfl rfl rfl) rfl rfl (.of_eq rfl rfl rfl) (.of_ports rfl)

/-- Settles O24: the delivery, in the states with the next window begun. -/
theorem gateExpiry_delivers : Obligations.GateExpiry := by
  intro i us ms st s hg hs ht hl now r
  have pending : pendingPulseSettings i s = none := by
    unfold pendingPulseSettings
    rw [ht]
    rfl
  refine completes_finish rfl ?_
  rw [onGate_eq hg hs, pending]
  obtain ⟨delivered, released⟩ := gateDelivered_spec (i := i) (u := overtaken none r.update) (s := setChannel i (s.pulse[i].expired st now) s) hl
  generalize gateDelivered i (overtaken none r.update) (setChannel i (s.pulse[i].expired st now) s) = m at *
  have pulse := delivered.table.pulse
  have here : m.pulse[i] = s.pulse[i].expired st now := by rw [pulse, setChannel_here]
  have kept : takeOverPulse i m = m := by
    simp only [takeOverPulse, pendingPulseSettings, here, PulseChannel.expired, ht]
    rfl
  rw [kept, startGate_eq here hs, setChannel_after pulse]
  have ended := finishEvent_eventEnd s (m.setPulse (s.pulse.set i ((s.pulse[i].expired st now).startWindow st.gateMs)))
  exact ⟨(delivered.setPulse _).ended ended, fun hi => (released hi).took (.trans (.of_ports rfl) ended.ports)⟩

/-- Settles O25: the delivery, in the states with the new settings taken and the next window begun. -/
theorem gateTakeOver : Obligations.GateTakeOver := by
  intro i us ms st cfg s hg hs ht hc hl hm now r new update
  have pending : pendingPulseSettings i s = some new := by
    unfold pendingPulseSettings
    rw [ht, hc]
    rfl
  have overtaken_eq : overtaken (some new) r.update = update := by cases h : r.update <;> simp only [update, overtaken, h]
  refine completes_finish rfl ?_
  rw [onGate_eq hg hs, pending, overtaken_eq]
  obtain ⟨delivered, released⟩ := gateDelivered_spec (i := i) (u := update) (s := setChannel i (s.pulse[i].expired st now) s) hl
  generalize gateDelivered i update (setChannel i (s.pulse[i].expired st now) s) = m at *
  have pulse := delivered.table.pulse
  have dist : m.dist = s.dist := delivered.table.dist
  have here : m.pulse[i] = s.pulse[i].expired st now := by rw [pulse, setChannel_here]
  have still : pendingPulseSettings i m = some new := by
    have config : m.config = s.config := congrArg (fun st : ConfigStore => st.inForce.map Configuration.normal) delivered.table.store
    rw [pendingPulseSettings, here, config]
    simp only [PulseChannel.expired, ht, hc]
    rfl
  have mark : m.cond .odoMismatch = m.dist.mismatch := by
    rw [delivered.table.conditions _ (by decide), dist]
    exact hm
  rw [takeOverPulse_eq pulse still mark, dist]
  generalize hd : (if i = 0 then s.dist.takeStepSize new.scale else s.dist) = d
  have counted : (if i = 0 then
      { s.dist with stepSize := new.scale, residue := if new.scale = s.dist.stepSize then s.dist.residue else 0, parityOdd := false }
    else s.dist) = d := hd
  rw [counted]
  have taken : ((m.setPulse (s.pulse.set i ((s.pulse[i].expired st now).takeSettings new))).setDist d).pulse[i] =
    (s.pulse[i].expired st now).takeSettings new := setChannel_here i _ s
  have begun : startGate i ((m.setPulse (s.pulse.set i ((s.pulse[i].expired st now).takeSettings new))).setDist d) =
      (m.setPulse (s.pulse.set i (((s.pulse[i].expired st now).takeSettings new).startWindow new.gateMs))).setDist d :=
    (startGate_eq taken rfl).trans (setChannel_after rfl)
  rw [begun]
  have ended := finishEvent_eventEnd s
    ((m.setPulse (s.pulse.set i (((s.pulse[i].expired st now).takeSettings new).startWindow new.gateMs))).setDist d)
  exact ⟨((delivered.setPulse _).setDist d).ended ended, fun hi => (released hi).took (.trans (.of_ports rfl) ended.ports)⟩

end Sys2Proof.Machine
end

section
/-! Proofs: the passes of the sender converter (R60 to R64, R75, R77). -/

namespace Sys2Proof.Machine

/-! ## The beginning of a pass -/

theorem renewParkedTimer_eq (s : State) :
    renewParkedTimer s =
      s.setConv { s.conv with parkedTimer := s.config.elim s.conv.parkedTimer fun cfg => .running (1000 * cfg.timing.parkedS) } := by
  unfold renewParkedTimer
  split <;> simp_all [State.setConv]

theorem beginPass_overrun {s : State} {p : Pass} (parked : Bool) (h : s.conv.pass = some p) :
    beginPass parked s = s.setConv { s.conv with overruns := (s.conv.overruns + 1) % 65536 } := by
  simp only [beginPass, h]

theorem beginPass_settled {s : State} {st : ConverterSettings} (parked : Bool) (hp : s.conv.pass = none) (ht : s.conv.takeOver = false)
    (hs : s.conv.settings = some st) :
    beginPass parked s = s.setConv { s.conv with pass := some { parked := parked, todo := st.positions parked, stage := .testing } } := by
  simp only [beginPass, hp, takeOverConverter, ht, hs]
  simp only [setPass, hs, ht]

theorem beginPass_takeOver {s : State} {cfg : Configuration} (parked : Bool) (hp : s.conv.pass = none) (ht : s.conv.takeOver = true)
    (hc : s.config = some cfg) :
    let st := converterSettings s.store.senderMarks cfg
    beginPass parked s =
      s.setConv { s.conv with
        settings := some st, slots := .replicate 16 .reset, takeOver := false
        pass := some { parked := parked, todo := st.positions parked, stage := .testing } } := by
  simp only [beginPass, hp, takeOverConverter, ht, hc]
  rfl

/-- The state behind the expiry of a running pass timer. -/
def passTimerExpired (parked : Bool) (s : State) : State := if parked then renewParkedTimer (beginPass parked s) else beginPass parked s

theorem exec_passTimer {parked : Bool} {s : State} {ms : Nat}
    (h : (if parked then s.conv.parkedTimer else s.conv.scanTimer) = .running ms) :
    exec (if parked then .parkedTimerExpiry else .scanTimerExpiry) s = .next (complete s (passTimerExpired parked s)) := by
  cases parked
  · have running : s.conv.scanTimer.isRunning = true := by rw [show s.conv.scanTimer = .running ms from h]; rfl
    have begun : onScanTimer s = passTimerExpired false s := if_pos running
    rw [← begun]
    rfl
  · have running : s.conv.parkedTimer.isRunning = true := by rw [show s.conv.parkedTimer = .running ms from h]; rfl
    have begun : onParkedTimer s = passTimerExpired true s := if_pos running
    rw [← begun]
    rfl

theorem mem_positions (st : ConverterSettings) (parked : Bool) (i : Fin 16) :
    i ∈ st.positions parked ↔ ∃ d, st.slots[(i : Nat)]? = some d ∧ (parked = true → d.parked = true) := by
  cases h : st.slots[(i : Nat)]? <;> cases parked <;> simp [ConverterSettings.positions, h]

/-- Settles O26: an overrun, a pass, or a pass behind a take-over, with the parked timer renewed in a parked one. -/
theorem passBegins : Obligations.PassBegins := by
  refine ⟨fun s parked ms h => ?_, fun st parked => ⟨(List.pairwise_lt_finRange 16).filter _, mem_positions st parked⟩⟩
  have run := exec_passTimer h
  refine ⟨fun p hp => completes_end run ?_, fun st hp ht hs => completes_end run ?_, fun cfg hp ht hc => completes_end run ?_⟩ <;>
    unfold passTimerExpired
  · rw [renewParkedTimer_eq, beginPass_overrun parked hp]
    cases parked <;> rfl
  · rw [renewParkedTimer_eq, beginPass_settled parked hp ht hs]
    cases parked <;> rfl
  · rw [renewParkedTimer_eq, beginPass_takeOver parked hp ht hc]
    cases parked <;> rfl

/-! ## The conversions -/

theorem excitationOn_iff (s : State) (channel : Fin 16) (x : Excitation) :
    excitationOn s = some (channel, x) ↔
      ∃ p i rest d, s.conv.pass = some p ∧ p.todo = i :: rest ∧ s.conv.scanSlot i = some d ∧
        (p.stage = .settling ∨ ∃ discarded sum taken, p.stage = .converting discarded sum taken) ∧
        channel = d.channel ∧ x = d.excitation := by
  unfold excitationOn
  cases hp : s.conv.pass with
  | none => simp
  | some p =>
    obtain ⟨parked, todo, stage⟩ := p
    cases todo with
    | nil => cases stage <;> simp
    | cons i rest =>
      have shown : (s.conv.scanSlot i).map (fun d => (d.channel, d.excitation)) = some (channel, x) ↔
          ∃ d, s.conv.scanSlot i = some d ∧ channel = d.channel ∧ x = d.excitation := by
        cases s.conv.scanSlot i <;> simp [eq_comm]
      cases stage <;> simp [shown]

theorem endConversion_counted {p : Pass} {i : Fin 16} {rest : List (Fin 16)} {code sum taken : Nat} {s : State}
    (hs : p.stage = .converting true sum taken) (ht : p.todo = i :: rest) : endConversion p code s = takeConversion p i code sum taken s := by
  simp only [endConversion, hs, ht]

/-- Settles O28, by the stage of the pass. -/
theorem conversionsAddUp : Obligations.ConversionsAddUp := by
  refine ⟨excitationOn_iff, fun s p hp => ⟨fun hs => completes_end rfl ?_, fun code sum taken hs => completes_end rfl ?_,
    fun code sum taken i rest st d hs ht hst hd hlt => completes_end rfl ?_⟩⟩
  · simp only [onSettled, hp, hs]
    rfl
  · simp only [onConversion, hp, endConversion, hs]
    rfl
  · have taken' : takeConversion p i code.toNat sum taken s =
        setPass (some { p with stage := .converting true (sum + code.toNat) (taken + 1) }) s := by
      simp only [takeConversion, hst, hd, if_pos hlt]
    simp only [onConversion, hp, endConversion_counted hs ht]
    exact taken'

/-! ## Failed tests -/

/-- The updates that failed tests deliver (R63). -/
def testFails (v : Converter) (todo : List (Fin 16)) : List (Source × Update) :=
  todo.filterMap fun k => (v.scanSlot k).bind fun d =>
    if v.supply = .low ∧ d.channel ≠ 15 then none else some (.analog d.channel, .fault .testFail)

/-- Updates delivered one after another. -/
def deliverAll (l : List (Source × Update)) (s : State) : State := l.foldl (fun s p => deliver p.1 p.2 s) s

theorem deliverAll_cons (p : Source × Update) (l : List (Source × Update)) (s : State) :
    deliverAll (p :: l) s = deliverAll l (deliver p.1 p.2 s) := by
  rw [deliverAll, List.foldl_cons, deliverAll]

/-- What failed tests read of the converter. -/
def SameSlots (s t : State) : Prop := t.conv.settings = s.conv.settings ∧ t.conv.supply = s.conv.supply

theorem TableEvent.sameSlots {s t : State} (h : TableEvent s t) : SameSlots s t := ⟨h.convSettings, h.supply⟩

theorem SameSlots.testFails {s t : State} (h : SameSlots s t) (todo : List (Fin 16)) : testFails t.conv todo = testFails s.conv todo := by
  obtain ⟨settings, supply⟩ := h
  simp only [Machine.testFails, Converter.scanSlot, settings, supply]

theorem foldl_deliverTestFail : ∀ (todo : List (Fin 16)) (s : State),
    todo.foldl (fun s i => deliverTestFail i s) s = deliverAll (testFails s.conv todo) s
  | [], s => rfl
  | k :: todo, s => by
    rw [List.foldl_cons, foldl_deliverTestFail todo]
    have head : SameSlots s (deliverTestFail k s) := by
      unfold deliverTestFail
      split
      · split
        · exact ⟨rfl, rfl⟩
        · exact (deliver_table _ _ _).sameSlots
      · exact ⟨rfl, rfl⟩
    rw [head.testFails]
    unfold deliverTestFail
    cases hd : s.conv.scanSlot k with
    | none => simp [testFails, hd]
    | some d =>
      by_cases hl : s.conv.supply = .low ∧ d.channel ≠ 15
      · simp [testFails, hd, hl]
      · simp [testFails, hd, hl, deliverAll]

theorem Delivered.setPass {src : Source} {x : Update} {s t : State} (h : Delivered src x s t) (p : Option Pass) :
    Delivered src x (setPass p s) (setPass p t) :=
  h.congr { h.table with convPass := rfl } (.of_eq rfl rfl rfl) rfl rfl (.of_eq rfl rfl rfl) (.of_ports rfl)

/-- Deliveries one after another, with the pass replaced before the first or behind the last. -/
theorem deliveredInTurn_deliverAll (p : Option Pass) {l : List (Source × Update)} {s t : State} (hl : s.cycle.state ≠ .load)
    (h : EventEnd (setPass p (deliverAll l s)) t) : DeliveredInTurn l (setPass p s) t := by
  induction l generalizing s with
  | nil => exact h
  | cons u l ih =>
    have delivered := deliver_spec u.1 u.2 s hl
    have reported := deliver_reported u.1 u.2 s
    rw [deliverAll_cons] at h
    have rest := ih (s := deliver u.1 u.2 s) (fun k => hl (delivered.table.inLoad.1 k)) h
    generalize deliver u.1 u.2 s = m at delivered reported rest
    exact ⟨setPass p m, delivered.setPass p, reported.congr rfl rfl rfl rfl, rest⟩

theorem deliverAll_entries {i : Fin 64} {l : List (Source × Update)} {s : State} {e : Entry} (hl : s.cycle.state ≠ .load)
    (h : EntryKept e s.signals[i]) : EntryKept (l.foldl (fun e p => e.afterUpdate p.1 p.2) e) (deliverAll l s).signals[i] := by
  induction l generalizing s e with
  | nil => exact h
  | cons u l ih =>
    have ⟨table, entries⟩ := deliver_entries u.1 u.2 s hl
    rw [deliverAll_cons, List.foldl_cons]
    exact ih (fun k => hl (table.inLoad.1 k)) ((h.afterUpdate u.1 u.2).trans (entries i))

theorem foldl_testFails (v : Converter) : ∀ (todo : List (Fin 16)) (e : Entry),
    todo.foldl (fun e k => match v.scanSlot k with
      | some d => if v.supply = .low ∧ d.channel ≠ 15 then e else e.afterUpdate (.analog d.channel) (.fault .testFail)
      | none => e) e = (testFails v todo).foldl (fun e p => e.afterUpdate p.1 p.2) e
  | [], _ => rfl
  | k :: todo, e => by
    rw [List.foldl_cons, foldl_testFails v todo]
    cases hd : v.scanSlot k with
    | none => simp [testFails, hd]
    | some d => by_cases hl : v.supply = .low ∧ d.channel ≠ 15 <;> simp [testFails, hd, hl]

theorem testsPass_iff (zero full : AdcCode) : testsPass zero full = true ↔ zero.toNat ≤ 8 ∧ 4087 ≤ full.toNat := by
  simp [testsPass]

theorem openSlot_eq (v : Converter) (p : Pass) :
    v.openSlot p.parked p.todo =
      match p.todo with
      | [] => none
      | i :: _ => some { p with
          stage := if (v.scanSlot i).any (fun d => d.settleUs != 0) then .settling else .converting false 0 0 } := by
  unfold Converter.openSlot
  cases h : p.todo <;> rfl

/-- Settles O27: the tests' limits, and where they fail the deliveries in list order. -/
theorem testConversions : Obligations.TestConversions := by
  intro s p zero full hp hs
  have done : onTestsDone zero full s = endTests p zero full s := by simp only [onTestsDone, hp, hs, if_true]
  refine ⟨fun hz hf => completes_end rfl ?_, fun hzf hl => completes_finish rfl ?_⟩
  · rw [done, endTests, if_pos ((testsPass_iff ..).2 ⟨hz, hf⟩), openSlot_eq]
    rfl
  · have failed : ¬ testsPass zero full = true := fun h => by
      have := (testsPass_iff ..).1 h
      omega
    rw [done, endTests, if_neg failed, foldl_deliverTestFail, setCond_conv]
    have ended := finishEvent_eventEnd s (setPass none (deliverAll (testFails s.conv p.todo) (setCond .adcTestFail true s)))
    refine ⟨deliveredInTurn_deliverAll none (s := setCond .adcTestFail true s) hl ended, fun i => ?_⟩
    have kept := deliverAll_entries (i := i) (l := testFails s.conv p.todo) (s := setCond .adcTestFail true s) hl (.refl _)
    rw [← foldl_testFails] at kept
    rw [ended.signals]
    exact kept

end Sys2Proof.Machine
end

section
/-! Proofs: a gauge that changes, all gauges that change together, and the passages that this opens (R90, R154, R156). -/

namespace Sys2Proof.Machine

/-! ## The passages -/

theorem GaugeState.isReady_iff (x : GaugeState) : x.isReady = true ↔ x ∈ [.tracking, .parking, .parked] := by cases x <;> decide

theorem vector_all_iff {α : Type} {n : Nat} (v : Vector α n) (P : α → Bool) : v.toList.all P = true ↔ ∀ i : Fin n, P v[i] = true := by
  simp only [List.all_eq_true, Vector.mem_toList_iff, Vector.mem_iff_getElem]
  exact ⟨fun h i => h _ ⟨i, i.isLt, rfl⟩, by rintro h x ⟨i, hi, rfl⟩; exact h ⟨i, hi⟩⟩

theorem passed_congr {s t : State} {a b : Vector Gauge 6} (hs : t.cycle.state = s.cycle.state) (hw : t.cycle.window = s.cycle.window)
    (h : ∀ k : Fin 6, a[k].state = b[k].state) : passed t a = passed s b := by
  unfold passed
  rw [hs, hw]
  simp only [h]

theorem passed_of_held {s : State} {gs : Vector Gauge 6} {k : Fin 6} (h : gs[k].state = .held) : passed s gs = s.cycle.state := by
  unfold passed
  split <;> rename_i hs <;> rw [hs]
  · exact if_neg fun ⟨_, all⟩ => by simpa [-Fin.getElem_fin, h] using all k
  · exact if_neg fun all => by simpa [-Fin.getElem_fin, h] using all k

theorem passed_starting {s : State} {gs : Vector Gauge 6} (h : s.cycle.state = .starting) :
    passed s gs = if s.cycle.window = .stopped ∧ ∀ i : Fin 6, gs[i].state ∈ [.tracking, .parking, .parked] then .run else .starting := by
  unfold passed
  rw [h]

theorem passed_stopping {s : State} {gs : Vector Gauge 6} (h : s.cycle.state = .stopping) :
    passed s gs = if ∀ i : Fin 6, gs[i].state = .parked then .parked else .stopping := by
  unfold passed
  rw [h]

/-- In every other state no passage opens. -/
theorem passed_stays {s : State} {gs : Vector Gauge 6} (h : s.cycle.state ≠ .starting) (k : s.cycle.state ≠ .stopping) :
    passed s gs = s.cycle.state := by
  unfold passed
  split
  next hs => exact absurd hs h
  next hs => exact absurd hs k
  all_goals next hs => exact hs.symm

theorem judgePassage_state (s : State) : (judgePassage s).cycle.state = passed s s.gauges := by
  have ready : s.gauges.toList.all (fun g => g.state.isReady) = true ↔ ∀ i : Fin 6, s.gauges[i].state ∈ [.tracking, .parking, .parked] := by
    rw [vector_all_iff]
    simp only [GaugeState.isReady_iff]
  have parked : s.gauges.toList.all (fun g => g.state == .parked) = true ↔ ∀ i : Fin 6, s.gauges[i].state = .parked := by
    rw [vector_all_iff]
    simp only [beq_iff_eq]
  have stopped : s.cycle.window.isRunning = false ↔ s.cycle.window = .stopped := by
    cases s.cycle.window <;> simp [Timer.isRunning]
  unfold judgePassage
  split
  next hs =>
    rw [passed_starting hs]
    simp only [Bool.and_eq_true, Bool.not_eq_true', ready, stopped]
    split
    · rfl
    · exact hs
  next hs =>
    rw [passed_stopping hs]
    simp only [parked]
    split
    · rfl
    · exact hs
  all_goals
    next hs =>
      refine (passed_stays ?_ ?_).symm
      · rw [hs]
        decide
      · rw [hs]
        decide

theorem putGauge_state (i : Fin 6) (g : Gauge) (s : State) :
    (putGauge i g s).cycle.state = if g.state = s.gauges[i].state then s.cycle.state else passed s (s.gauges.set i g) := by
  unfold putGauge
  dsimp only
  have base : ((if gaugeNotice s.gauges[i] g = true then raiseItem (gaugeItem i) (s.setGauges (s.gauges.set i g))
      else s.setGauges (s.gauges.set i g)) : State).cycle = s.cycle ∧
    ((if gaugeNotice s.gauges[i] g = true then raiseItem (gaugeItem i) (s.setGauges (s.gauges.set i g))
      else s.setGauges (s.gauges.set i g)) : State).gauges = s.gauges.set i g := by
    split <;> exact ⟨rfl, rfl⟩
  generalize (if gaugeNotice s.gauges[i] g = true then raiseItem (gaugeItem i) (s.setGauges (s.gauges.set i g))
      else s.setGauges (s.gauges.set i g) : State) = m at base ⊢
  obtain ⟨cycle, gauges⟩ := base
  by_cases hg : g.state = s.gauges[i].state
  · rw [if_pos hg.symm, if_pos hg, cycle]
  · rw [if_neg (Ne.symm hg), if_neg hg, judgePassage_state, gauges]
    exact passed_congr (by rw [cycle]) (by rw [cycle]) fun _ => rfl

/-! ## The event CYCLE at a change of the cycle state -/

/-- From `s` to `t`, a changed cycle state has signalled CYCLE. -/
def CycleSignalled (s t : State) : Prop := t.cycle.state ≠ s.cycle.state → Released .cycle t

theorem CycleSignalled.of_state {s t : State} (h : t.cycle.state = s.cycle.state) : CycleSignalled s t := fun k => absurd h k

theorem CycleSignalled.of_released {s t : State} (h : Released .cycle t) : CycleSignalled s t := fun _ => h

theorem CycleSignalled.trans {s m t : State} (a : CycleSignalled s m) (b : CycleSignalled m t) (p : PortsTook m t) : CycleSignalled s t := by
  intro h
  by_cases hm : t.cycle.state = m.cycle.state
  · exact (a (hm ▸ h)).took p
  · exact b hm

theorem released_changeCycle (c : CycleState) (s : State) : Released .cycle (changeCycle c s) := released_signalEvent _ _

theorem cycleSignalled_judgePassage (s : State) : CycleSignalled s (judgePassage s) := by
  unfold judgePassage
  split
  · split
    · exact .of_released (released_changeCycle _ _)
    · exact .of_state rfl
  · split
    · exact .of_released (released_changeCycle _ _)
    · exact .of_state rfl
  all_goals exact .of_state rfl

theorem cycleSignalled_putGauge (i : Fin 6) (g : Gauge) (s : State) : CycleSignalled s (putGauge i g s) := by
  unfold putGauge
  dsimp only
  have base : ((if gaugeNotice s.gauges[i] g = true then raiseItem (gaugeItem i) (s.setGauges (s.gauges.set i g))
      else s.setGauges (s.gauges.set i g)) : State).cycle = s.cycle := by split <;> rfl
  generalize (if gaugeNotice s.gauges[i] g = true then raiseItem (gaugeItem i) (s.setGauges (s.gauges.set i g))
      else s.setGauges (s.gauges.set i g) : State) = m at base ⊢
  split
  · exact .of_state (by rw [base])
  · exact fun h => cycleSignalled_judgePassage m (base ▸ h)

/-! ## One gauge -/

theorem finishEvent_cycle (before s : State) : (finishEvent before s).cycle = s.cycle := (finishEvent_eventEnd before s).cycle

theorem finishEvent_noticed {before s : State} (h : (finishEvent before s).cycleView ≠ before.cycleView) :
    noticed cycleItem (finishEvent before s) := (finishEvent_reports before s).2.2 h

/-- A gauge replaced by one with its settings, and the end of the event. -/
theorem gaugeEvent_putGauge {k : Fin 6} {g : Gauge} {s : State} (h : g.settings = s.gauges[k].settings) :
    GaugeEvent k g s (finishEvent s (putGauge k g s)) := by
  have ended := finishEvent_eventEnd s (putGauge k g s)
  have cycle := finishEvent_noticed (before := s) (s := putGauge k g s)
  have signalled : CycleSignalled s (finishEvent s (putGauge k g s)) :=
    (cycleSignalled_putGauge k g s).trans (.of_state (by rw [ended.cycle])) ended.ports
  have reported := (putGauge_reported k g s).2.1
  generalize finishEvent s (putGauge k g s) = t at ended cycle signalled ⊢
  exact
    { gauges := by rw [ended.gauges, putGauge_gauges]
      signals := by rw [ended.signals, putGauge_signals]
      claims := by rw [← putGauge_lamps k g s]; exact ended.lamps
      state := by rw [ended.cycle, putGauge_state]
      table := (afterView_putGauge h).table.trans ended.table
      item := fun hg => (reported ((gaugeNotice_iff _ _).1 hg)).took ended.ports
      cycle := fun hc => ⟨cycle fun hv => hc (congrArg CycleView.state hv), signalled hc⟩ }

/-! ## All gauges -/

/-- The gauges of a list replaced in turn, each by a function of its view. -/
def putGauges (f : View → Gauge → Gauge) (l : List (Fin 6)) (s : State) : State :=
  l.foldl (fun s i => putGauge i (f (gaugeView s s.gauges[i]) s.gauges[i]) s) s

theorem putGauges_cons (f : View → Gauge → Gauge) (i : Fin 6) (l : List (Fin 6)) (s : State) :
    putGauges f (i :: l) s = putGauges f l (putGauge i (f (gaugeView s s.gauges[i]) s.gauges[i]) s) := by
  rw [putGauges, List.foldl_cons, putGauges]

theorem forGauges_eq (f : View → Gauge → Gauge) (s : State) : forGauges f s = putGauges f (List.finRange 6) s := rfl

theorem gaugeView_congr {s t : State} (h : t.signals = s.signals) (g : Gauge) : gaugeView t g = gaugeView s g := by
  unfold gaugeView
  rw [h]

/-- A change of gauges all of whose changes of state leave HELD, or all of whose changes of state enter it, so that no passage opens on the way. -/
def HoldsOrReleases (f : View → Gauge → Gauge) : Prop :=
  (∀ v g, (f v g).state ≠ g.state → (f v g).state = .held) ∨ (∀ v g, (f v g).state ≠ g.state → g.state = .held)

/-- The gauges replaced in turn: each is replaced once, and the cycle state passes as their last states open it. -/
theorem putGauges_spec {f : View → Gauge → Gauge} (hset : ∀ v g, (f v g).settings = g.settings) (hf : HoldsOrReleases f) {l : List (Fin 6)}
    (hl : l.Nodup) (m : State) :
    let r := putGauges f l m
    (∀ k : Fin 6, r.gauges[k] = if k ∈ l then f (gaugeView m m.gauges[k]) m.gauges[k] else m.gauges[k]) ∧
    r.cycle.state =
      if ∀ k ∈ l, (f (gaugeView m m.gauges[k]) m.gauges[k]).state = m.gauges[k].state then m.cycle.state else passed m r.gauges := by
  induction l generalizing m with
  | nil => exact ⟨fun k => by simp [putGauges], by simp [putGauges]⟩
  | cons i l ih =>
    obtain ⟨hi, hl'⟩ := List.nodup_cons.1 hl
    rw [putGauges_cons]
    have here : (putGauge i (f (gaugeView m m.gauges[i]) m.gauges[i]) m).gauges[i] = f (gaugeView m m.gauges[i]) m.gauges[i] := by
      rw [putGauge_gauges]; exact Vector.getElem_set_self _
    have there (k : Fin 6) (hk : k ≠ i) : (putGauge i (f (gaugeView m m.gauges[i]) m.gauges[i]) m).gauges[k] = m.gauges[k] := by
      rw [putGauge_gauges]; exact Vector.getElem_set_ne _ _ fun h => hk (Fin.ext h.symm)
    have state := putGauge_state i (f (gaugeView m m.gauges[i]) m.gauges[i]) m
    rw [← putGauge_gauges i (f (gaugeView m m.gauges[i]) m.gauges[i]) m] at state
    have signals := putGauge_signals i (f (gaugeView m m.gauges[i]) m.gauges[i]) m
    have window := (afterView_putGauge (s := m) (i := i) (hset (gaugeView m m.gauges[i]) m.gauges[i])).table.window
    generalize putGauge i (f (gaugeView m m.gauges[i]) m.gauges[i]) m = n at here there state signals window ⊢
    obtain ⟨gauges, last⟩ := ih hl' n
    generalize putGauges f l n = r at gauges last ⊢
    have later (k : Fin 6) (hk : k ∈ l) : f (gaugeView n n.gauges[k]) n.gauges[k] = f (gaugeView m m.gauges[k]) m.gauges[k] := by
      rw [there k (fun h => hi (h ▸ hk)), gaugeView_congr signals]
    have final (k : Fin 6) : r.gauges[k] = if k ∈ i :: l then f (gaugeView m m.gauges[k]) m.gauges[k] else m.gauges[k] := by
      rw [gauges k]
      by_cases hk : k ∈ l
      · rw [if_pos hk, if_pos (List.mem_cons_of_mem _ hk), later k hk]
      · rw [if_neg hk]
        by_cases hki : k = i
        · subst hki
          rw [if_pos List.mem_cons_self, here]
        · rw [if_neg (by simp [hki, hk]), there k hki]
    refine ⟨final, ?_⟩
    have same : (∀ k ∈ l, (f (gaugeView n n.gauges[k]) n.gauges[k]).state = n.gauges[k].state) ↔
        ∀ k ∈ l, (f (gaugeView m m.gauges[k]) m.gauges[k]).state = m.gauges[k].state :=
      forall₂_congr fun k hk => by rw [later k hk, there k (fun h => hi (h ▸ hk))]
    simp only [same] at last
    simp only [List.forall_mem_cons]
    by_cases hgi : (f (gaugeView m m.gauges[i]) m.gauges[i]).state = m.gauges[i].state
    · rw [if_pos hgi] at state
      rw [last, state]
      simp only [hgi, true_and]
      exact ite_congr rfl (fun _ => rfl) fun _ => passed_congr state window fun _ => rfl
    · rw [if_neg hgi] at state
      simp only [hgi, false_and, if_false]
      rw [last]
      split
      next all =>
        rw [state]
        refine passed_congr rfl rfl fun k => ?_
        rw [gauges k]
        split
        next hk => rw [later k hk, all k hk, there k (fun h => hi (h ▸ hk))]
        next => rfl
      next some' =>
        have kept : n.cycle.state = m.cycle.state := by
          rw [state]
          rcases hf with enters | leaves
          · exact passed_of_held (k := i) (by rw [here]; exact enters _ _ hgi)
          · obtain ⟨k, hk, hne⟩ : ∃ k ∈ l, (f (gaugeView m m.gauges[k]) m.gauges[k]).state ≠ m.gauges[k].state := by
              simpa using some'
            exact passed_of_held (k := k) (by rw [there k (fun h => hi (h ▸ hk))]; exact leaves _ _ hne)
        exact passed_congr kept window fun _ => rfl

theorem cycleSignalled_putGauges {f : View → Gauge → Gauge} (hset : ∀ v g, (f v g).settings = g.settings) (l : List (Fin 6)) (s : State) :
    CycleSignalled s (putGauges f l s) := by
  induction l generalizing s with
  | nil => exact .of_state rfl
  | cons i l ih =>
    rw [putGauges_cons]
    refine (cycleSignalled_putGauge i _ s).trans (ih _) ?_
    exact foldl_rel (R := PortsTook) PortsTook.refl (fun _ _ _ => PortsTook.trans) _ (fun s i => (afterView_putGauge (hset _ _)).table.ports) l _

theorem forGauges_keeps (f : View → Gauge → Gauge) (s : State) :
    (forGauges f s).signals = s.signals ∧ (forGauges f s).lamps = s.lamps :=
  forAll_rel (R := fun s t => t.signals = s.signals ∧ t.lamps = s.lamps) (fun _ => ⟨rfl, rfl⟩)
    (fun _ _ _ a b => ⟨b.1.trans a.1, b.2.trans a.2⟩) _ (fun _ _ => ⟨putGauge_signals .., putGauge_lamps ..⟩) s

/-- Each gauge is reported where, and only where, its function has changed it (R90). -/
theorem forGauges_reported (f : View → Gauge → Gauge) (u : State) :
    (∀ k : Fin 6, GaugeDiffers u.gauges[k] (f (gaugeView u u.gauges[k]) u.gauges[k]) → noticed (gaugeItem k) (forGauges f u)) ∧
    ReportedOnly (fun j => ∀ k : Fin 6, j = gaugeItem k → GaugeDiffers u.gauges[k] (f (gaugeView u u.gauges[k]) u.gauges[k])) u
      (forGauges f u) := by
  refine forAll_gauges_reported (f := fun i s => putGauge i (f (gaugeView s s.gauges[i]) s.gauges[i]) s)
    (g := fun _ g => f (gaugeView u g) g) (C := fun s => s.signals = u.signals) (Q := fun _ g => GaugeDiffers g (f (gaugeView u g) g))
    (fun i s hs => ?_) u rfl
  obtain ⟨took, noticed, only⟩ := putGauge_reported i (f (gaugeView s s.gauges[i]) s.gauges[i]) s
  rw [gaugeView_congr hs] at took noticed only ⊢
  refine ⟨(putGauge_signals ..).trans hs, putGauge_gauges .., took, noticed, only.mono ?_⟩
  rintro j ⟨rfl, hd⟩ k hk
  exact ⟨(gaugeItem_inj hk).symm, hd⟩

/-- All gauges replaced by functions of their views that hold or release them, and the end of the event. -/
theorem gaugesBecome_forGauges {f : View → Gauge → Gauge} (hset : ∀ v g, (f v g).settings = g.settings) (hf : HoldsOrReleases f)
    {u t : State} (ended : EventEnd (forGauges f u) t) : GaugesBecome (fun k => f (gaugeView u u.gauges[k]) u.gauges[k]) u t := by
  have table := (afterView_forGauges hset u).table
  obtain ⟨items, silent⟩ := forGauges_reported f u
  obtain ⟨signals, lamps⟩ := forGauges_keeps f u
  obtain ⟨gauges, state⟩ := putGauges_spec hset hf (List.nodup_finRange 6) u
  have signalled := cycleSignalled_putGauges hset (List.finRange 6) u
  rw [← forGauges_eq] at gauges state signalled
  simp only [List.mem_finRange, if_true, forall_const] at gauges state
  exact
    { gauges := fun k => by rw [ended.gauges, gauges k]
      signals := by rw [ended.signals, signals]
      claims := lamps ▸ ended.lamps
      table := table.trans ended.table
      items := fun k hk => (items k ((gaugeNotice_iff _ _).1 hk)).took ended.ports
      silent := silent.trans (ended.silent.mono fun i n k e => (n (e ▸ ofTable_gauge k)).elim)
      state := by
        rw [ended.cycle, state]
        exact ite_congr rfl (fun _ => rfl) fun _ => passed_congr rfl rfl fun k => by rw [gauges k]; simp
      cycle := signalled.trans (.of_state (by rw [ended.cycle])) ended.ports }

end Sys2Proof.Machine
end

section
/-! Proofs: the motion, the homing and the tracking of one gauge, and the ends of its coils (R89 to R99, R106, R107). -/

namespace Sys2Proof.Machine

section
variable (gs : GaugeSettings) (v : View) (c : CycleState) (g : Gauge)

/-! ## Rest and the tracking decision -/

theorem Gauge.atRest_iff : g.atRest = true ↔ g.velocity = 0 ∧ g.position = g.target := by simp [Gauge.atRest]

theorem View.serves_iff : v.serves = true ↔ v.state = .live ∨ v.state = .stale := by simp [View.serves]

theorem CycleState.isOn_iff : c.isOn = true ↔ c = .starting ∨ c = .run := by simp [CycleState.isOn]

theorem Gauge.parkIfAtRest_eq :
    g.parkIfAtRest = { g with state := if g.state = .parking ∧ g.velocity = 0 ∧ g.position = g.target then .parked else g.state } := by
  unfold Gauge.parkIfAtRest
  simp only [Bool.and_eq_true, beq_iff_eq, Gauge.atRest_iff]
  split
  all_goals rfl

theorem Gauge.enterParking_eq :
    g.enterParking gs =
      { g with
        state := if g.velocity = 0 ∧ g.position = gs.desc.park then .parked else .parking
        target := gs.desc.park, leg := .none } := by
  simp [Gauge.enterParking, Gauge.parkIfAtRest_eq]

/-- Whether the tracking decision shows the source's value (R91). -/
def GaugeSettings.Shows : Prop := gs.curveValid = true ∧ (v.state = .live ∨ v.state = .stale ∨ gs.desc.holdOnLoss = true)

theorem trackingDecision_shows (h : gs.Shows v) : trackingDecision gs v = (.tracking, gs.curvePosition v.value) := by
  obtain ⟨valid, serves⟩ := h
  refine if_pos ?_
  simp only [valid, Bool.true_and, Bool.or_eq_true, View.serves_iff]
  rwa [or_assoc]

theorem trackingDecision_parks (h : ¬ gs.Shows v) : trackingDecision gs v = (.parking, (gs.desc.park : Int)) := by
  refine if_neg fun k => h ?_
  simp only [Bool.and_eq_true, Bool.or_eq_true, View.serves_iff] at k
  exact ⟨k.1, or_assoc.1 k.2⟩

theorem Gauge.takeDecision_shows (h : gs.Shows v) :
    g.takeDecision gs v = { g with state := .tracking, target := gs.curvePosition v.value, leg := .none } := by
  simp [Gauge.takeDecision, trackingDecision_shows gs v h, Gauge.parkIfAtRest_eq]

theorem Gauge.takeDecision_parks (h : ¬ gs.Shows v) :
    g.takeDecision gs v =
      { g with
        state := if g.velocity = 0 ∧ g.position = gs.desc.park then .parked else .parking
        target := gs.desc.park, leg := .none } := by
  simp [Gauge.takeDecision, trackingDecision_parks gs v h, Gauge.parkIfAtRest_eq]

/-! ## Arrival -/

theorem Gauge.arrive_moving (h : ¬ g.atRest = true) : g.arrive gs v = g := by simp [Gauge.arrive, h]

theorem Gauge.arrive_parking (h : g.atRest = true) (hs : g.state = .parking) : g.arrive gs v = { g with state := .parked } := by
  simp [Gauge.arrive, h, hs]

theorem Gauge.arrive_sweep (h : g.atRest = true) (hs : g.state = .sweep) : g.arrive gs v = g.endLeg gs v := by
  simp [Gauge.arrive, h, hs]

theorem Gauge.arrive_stays (hs : g.state ≠ .parking) (hs' : g.state ≠ .sweep) : g.arrive gs v = g := by
  unfold Gauge.arrive
  split
  · rfl
  · split <;> simp_all

/-! ## Motion -/

theorem nextVelocity_toward {vmax accel : Nat} {v d : Int} (h : v = 0 ∨ (v.sign = d.sign ∧ v * v / (32 * accel) < d.natAbs)) :
    nextVelocity vmax accel v d =
      if v < d.sign * vmax then min (v + accel) (d.sign * vmax) else max (v - accel) (d.sign * vmax) := if_pos h

theorem nextVelocity_brakes {vmax accel : Nat} {v d : Int} (h0 : v ≠ 0) (h : v.sign ≠ d.sign ∨ (d.natAbs : Int) ≤ v * v / (32 * accel)) :
    nextVelocity vmax accel v d = v.sign * (v.natAbs - accel : Nat) := by
  refine if_neg ?_
  rintro (hz | ⟨hs, hd⟩)
  · exact h0 hz
  · exact h.elim (· hs) (not_le.2 hd)

theorem Gauge.motionStep_eq :
    let v := nextVelocity gs.desc.vmax gs.desc.accel g.velocity (g.target - g.position)
    let sixteenths := 16 * g.position + g.fraction + v
    let P := sixteenths / 16
    let moved : Gauge :=
      if P < 0 then { g with position := 0, fraction := 0, velocity := 0 }
      else if (gs.desc.fullScale : Int) < P then { g with position := gs.desc.fullScale, fraction := 0, velocity := 0 }
      else { g with position := P, fraction := (sixteenths % 16).toNat, velocity := v }
    g.motionStep gs =
      if (g.target - moved.position).natAbs ≤ 1 ∧ moved.velocity.natAbs ≤ gs.desc.accel then
        { moved with position := g.target, fraction := 0, velocity := 0 }
      else moved := by
  intro v sixteenths P moved
  have advanced : g.advance gs.desc.fullScale v = moved := rfl
  have target : moved.target = g.target := by
    simp only [moved]
    split_ifs <;> rfl
  unfold Gauge.motionStep Gauge.settleOnTarget
  dsimp only
  rw [advanced, target]

/-! ## Homing -/

theorem Gauge.homingExpiry_eq (hs : g.settings = some gs) (hh : g.state = .homing) :
    let moved := { g with position := max 0 (g.position - gs.desc.homingSpeed), homingCount := g.homingCount - gs.desc.homingSpeed }
    g.homingExpiry c v = if g.homingCount ≤ gs.desc.homingSpeed then moved.endHoming gs c v else moved := by
  intro moved
  have ends : (g.homingCount - gs.desc.homingSpeed = 0) = (g.homingCount ≤ gs.desc.homingSpeed) := propext Nat.sub_eq_zero_iff_le
  unfold Gauge.homingExpiry
  split
  next gs' hs' =>
    obtain rfl : gs = gs' := Option.some.inj (hs.symm.trans hs')
    simp only [hh, if_true, ends, moved]
  next hn => rw [hs] at hn; cases hn

theorem Gauge.homingExpiry_ends (hs : g.settings = some gs) (hh : g.state = .homing) (h : g.homingCount ≤ gs.desc.homingSpeed) :
    let ended : Gauge := { g with position := 0, velocity := 0, fraction := 0, homingCount := 0 }
    g.homingExpiry c v =
      if c.isOn then (if gs.desc.sweepEnable then ended.enterSweep gs v else ended.takeDecision gs v) else ended.enterParking gs := by
  have none_left : g.homingCount - gs.desc.homingSpeed = 0 := Nat.sub_eq_zero_of_le h
  rw [g.homingExpiry_eq gs v c hs hh, if_pos h, none_left]
  rfl

theorem Gauge.enterSweep_moving (h : g.velocity ≠ 0 ∨ g.position ≠ gs.desc.fullScale) :
    g.enterSweep gs v = { g with state := .sweep, leg := .out, target := gs.desc.fullScale } := by
  refine Gauge.arrive_moving _ _ _ ?_
  rw [Gauge.atRest_iff]
  exact fun ⟨a, b⟩ => h.elim (· a) (· b)

/-! ## Tracking -/

theorem Gauge.effectiveUpdate_tracking (hs : g.settings = some gs) (ht : g.state = .tracking) :
    g.effectiveUpdate c v = if v.serves || gs.desc.holdOnLoss then g.retarget gs v else g.enterParking gs := by
  simp only [Gauge.effectiveUpdate, hs, ht]

theorem Gauge.effectiveUpdate_parking (hs : g.settings = some gs) (hp : g.state = .parking ∨ g.state = .parked) :
    g.effectiveUpdate c v =
      if c.isOn && gs.curveValid && v.serves then { g with state := .tracking, target := gs.curvePosition v.value } else g := by
  rcases hp with hp | hp <;> simp only [Gauge.effectiveUpdate, hs, hp]

theorem Gauge.effectiveUpdate_stays (h : g.state = .unhomed ∨ g.state = .homing ∨ g.state = .sweep ∨ g.state = .held) :
    g.effectiveUpdate c v = g := by
  unfold Gauge.effectiveUpdate
  split
  · rfl
  · rcases h with h | h | h | h <;> simp only [h]

theorem Gauge.retarget_eq :
    g.retarget gs v =
      if (g.velocity = 0 ∧ g.position = g.target) ∧ (gs.curvePosition v.value - g.position).natAbs ≤ gs.desc.deadband then g
      else { g with target := gs.curvePosition v.value } := by
  unfold Gauge.retarget
  simp only [Bool.and_eq_true, decide_eq_true_eq, Gauge.atRest_iff]

theorem gaugeNotice_self : gaugeNotice g g = false := by simp [gaugeNotice]

/-! ## Coils -/

theorem Gauge.driven_iff : g.driven c = true ↔ g.state ≠ .unhomed ∧ (g.state = .parked → c ≠ .parked) := by
  cases hs : g.state <;> simp [Gauge.driven, hs]

end

theorem coilEnds_pos (n : Nat) : coilEnds n = { first := n, second := 0 } := by
  unfold coilEnds
  split
  · rfl
  next h =>
    have : n = 0 := by omega
    simp [this]

theorem coilEnds_neg (n : Nat) : coilEnds (-n) = { first := 0, second := n } := by
  simp [coilEnds]

/-- Settles O36: the coils by their tables, the step and the arrival by the cases of the gauge's functions. -/
theorem motionStep_runs : Obligations.MotionStep := by
  refine ⟨fun phase => ⟨fun h => ?_, fun h h' => ?_, fun h h' => ?_, fun h h' => ?_⟩, fun duty n => ⟨?_, ?_⟩, fun c g => ⟨fun h => ?_,
    fun hu hp phase hph => ?_⟩, fun k gs s hs hm hr => completes_finish rfl ?_, fun vmax accel v d => ⟨fun h => ⟨fun hv => ?_, fun hv => ?_⟩,
    fun h0 h => ?_⟩, fun gs g => g.motionStep_eq gs, fun gs v g => ⟨fun h => ?_, fun hv hp => ?_⟩⟩
  · exact if_pos h
  · rw [coilDuty, if_neg (by omega), if_pos h']
    rfl
  · rw [coilDuty, if_neg (by omega), if_neg (by omega), if_pos h']
    rfl
  · rw [coilDuty, if_neg (by omega), if_neg (by omega), if_neg (by omega)]
    rfl
  · rintro rfl
    exact coilEnds_pos n
  · rintro rfl
    exact coilEnds_neg n
  · have off : g.driven c = false := by
      rw [Bool.eq_false_iff, Ne, Gauge.driven_iff]
      rintro ⟨hu, hp⟩
      exact h.elim hu fun ⟨a, b⟩ => hp a b
    simp [Gauge.ends, Gauge.coils, off, coilEnds]
  · have on : g.driven c = true := (g.driven_iff c).2 ⟨hu, fun a b => hp ⟨a, b⟩⟩
    have position : (g.position % 48).toNat = phase := by omega
    simp [Gauge.ends, Gauge.coils, on, position]
  · have moves : (s.gauges[k].state.moves && !s.gauges[k].atRest) = true := by
      have state : s.gauges[k].state.moves = true := by
        simp only [List.mem_cons, List.not_mem_nil, or_false] at hm
        rcases hm with h | h | h | h <;> rw [h] <;> rfl
      have moving : ¬ s.gauges[k].atRest = true := by
        rw [Gauge.atRest_iff]
        exact fun ⟨a, b⟩ => hr.elim (· a) (· b)
      simp [-Fin.getElem_fin, state, moving]
    have stepped : onMotion k s = putGauge k ((s.gauges[k].motionStep gs).arrive gs s.signals[gs.desc.entry].view) s := by
      simp only [onMotion, Gauge.motionExpiry, gaugeView, hs, moves, if_true, Option.elim]
    rw [stepped]
    exact gaugeEvent_putGauge (by simp)
  · rw [nextVelocity_toward h, if_pos hv]
  · rw [nextVelocity_toward h, if_neg (not_lt.2 hv)]
  · rw [nextVelocity_brakes h0 h]
    have sign : v.sign.natAbs = 1 := Int.natAbs_sign_of_ne_zero h0
    refine ⟨by rw [Int.natAbs_mul, sign, one_mul, Int.natAbs_natCast], fun ha => ?_⟩
    have pos : 0 < ((v.natAbs - accel : Nat) : Int) := by omega
    rw [Int.sign_mul, Int.sign_sign, Int.sign_eq_one_of_pos pos, mul_one]
  · exact g.arrive_moving gs v (by rw [Gauge.atRest_iff]; exact fun ⟨a, b⟩ => h.elim (· a) (· b))
  · have rests := g.atRest_iff.2 ⟨hv, hp⟩
    refine ⟨g.arrive_parking gs v rests, fun h => g.arrive_stays gs v ?_ ?_, fun h hl => ?_, fun h hl => ?_⟩
    · rcases h with h | h <;> simp [h]
    · rcases h with h | h <;> simp [h]
    · rw [g.arrive_sweep gs v rests h, Gauge.endLeg, if_pos hl]
    · rw [g.arrive_sweep gs v rests h, Gauge.endLeg, if_neg hl]

/-- Settles O37: the homing step, and the run's end by the cycle state, the sweep enable and the tracking decision. -/
theorem homingStep_runs : Obligations.HomingStep := by
  refine ⟨fun k gs s hs hh => ?_, fun gs v g => ⟨g.takeDecision_shows gs v, g.takeDecision_parks gs v⟩⟩
  intro g ended
  have run : onHoming k s = putGauge k (g.homingExpiry s.cycle.state s.signals[gs.desc.entry].view) s := by
    simp only [onHoming, gaugeView, g, hs, Option.elim]
  have step := g.homingExpiry_eq gs s.signals[gs.desc.entry].view s.cycle.state hs hh
  have ends := g.homingExpiry_ends gs s.signals[gs.desc.entry].view s.cycle.state hs hh
  refine ⟨fun h => ?_, fun h hc hsw hf => ?_, fun h hc hsw => ?_, fun h hc => ?_⟩ <;> refine completes_finish rfl ?_ <;> rw [run]
  · rw [step, if_neg (by omega)]
    exact gaugeEvent_putGauge rfl
  · rw [ends h, if_pos ((CycleState.isOn_iff _).2 hc), if_pos hsw, Gauge.enterSweep_moving _ _ _ (.inr ?_)]
    · exact gaugeEvent_putGauge rfl
    · exact ne_of_lt (Int.natCast_pos.2 hf)
  · rw [ends h, if_pos ((CycleState.isOn_iff _).2 hc), if_neg (by simp [hsw])]
    exact gaugeEvent_putGauge (Gauge.takeDecision_settings ..)
  · have park : ended.enterParking gs = { ended with
        state := if gs.desc.park = 0 then .parked else .parking, leg := .none, target := gs.desc.park } := by
      have zero : (0 : Int) = gs.desc.park ↔ gs.desc.park = 0 := by omega
      simp only [Gauge.enterParking_eq, ended, true_and, zero]
    have off : ¬ s.cycle.state.isOn = true := by simp [hc, CycleState.isOn]
    rw [ends h, if_neg off]
    change GaugeEvent k _ s (finishEvent s (putGauge k (ended.enterParking gs) s))
    rw [park]
    exact gaugeEvent_putGauge rfl

/-- Settles O38, by the state of the gauge. -/
theorem effectiveUpdates : Obligations.EffectiveUpdates := by
  intro c v g gs hs shows new left
  refine ⟨fun ht hsh => ?_, fun ht hsh hhold => ?_, fun hp => ⟨fun hc hv hsh => ?_, fun h => ?_⟩, fun h => ?_⟩
  · have serves : (v.serves || gs.desc.holdOnLoss) = true := by rwa [Bool.or_eq_true, View.serves_iff]
    rw [g.effectiveUpdate_tracking gs v c hs ht, if_pos serves, Gauge.retarget_eq]
    exact ⟨fun h => by rw [if_pos h]; exact ⟨rfl, gaugeNotice_self g⟩, fun h => if_neg h⟩
  · have lost : ¬ (v.serves || gs.desc.holdOnLoss) = true := by rwa [hhold, Bool.or_false, View.serves_iff]
    rw [g.effectiveUpdate_tracking gs v c hs ht, if_neg lost, Gauge.enterParking_eq]
  · have taken : (c.isOn && gs.curveValid && v.serves) = true := by
      simp only [Bool.and_eq_true, CycleState.isOn_iff, View.serves_iff]
      exact ⟨⟨hc, hv⟩, hsh⟩
    rw [g.effectiveUpdate_parking gs v c hs hp, if_pos taken]
  · have left' : ¬ (c.isOn && gs.curveValid && v.serves) = true := by
      simp only [Bool.and_eq_true, CycleState.isOn_iff, View.serves_iff]
      exact fun ⟨⟨hc, hv⟩, hsh⟩ => h ⟨hc, hv, hsh⟩
    rw [g.effectiveUpdate_parking gs v c hs hp, if_neg left']
  · exact g.effectiveUpdate_stays v c h

end Sys2Proof.Machine
end

section
/-! Proofs: the result of a scan slot's last conversion (R64 to R76), with the gauges held and resumed (R103, R104). -/

namespace Sys2Proof.Machine

/-! ## The branches of a result -/

section
variable {st : ConverterSettings} {parked : Bool} {i : Fin 16} {d : ScanSlot} {avg : Nat} {s : State}

theorem ScanSlot.windowFault_of_outside (hc : d.checked = true) (h : avg < d.lower ∨ d.upper < avg) :
    d.windowFault avg = some (if avg < d.lower then .shortLow else .openHigh) := by
  unfold ScanSlot.windowFault
  rw [hc]
  by_cases hl : avg < d.lower
  · simp [hl]
  · simp [hl, h.resolve_left hl]

theorem ScanSlot.windowFault_of_inside (h : d.checked = true → d.lower ≤ avg ∧ avg ≤ d.upper) : d.windowFault avg = none := by
  unfold ScanSlot.windowFault
  cases hc : d.checked with
  | false => rfl
  | true =>
    obtain ⟨lower, upper⟩ := h hc
    simp [Nat.not_lt.2 lower, Nat.not_lt.2 upper]

theorem scanResult_discarded (h : s.conv.supply = .low ∧ d.channel ≠ 15) : scanResult st parked i d avg s = s := if_pos h

theorem scanResult_window {cause : FaultCause} (h : ¬ (s.conv.supply = .low ∧ d.channel ≠ 15)) (hw : d.windowFault avg = some cause) :
    scanResult st parked i d avg s =
      if parked then addWakeCause .parkedWindow (deliver (.analog d.channel) (.fault cause) (clearRefuel i s))
      else deliver (.analog d.channel) (.fault cause) (clearRefuel i s) := by
  rw [scanResult, if_neg h, hw]

theorem scanResult_curve (h : ¬ (s.conv.supply = .low ∧ d.channel ≠ 15)) (hw : d.windowFault avg = none) (hv : st.curveValid[d.curve] = false) :
    scanResult st parked i d avg s = deliver (.analog d.channel) (.fault .curve) (clearRefuel i s) := by
  rw [scanResult, if_neg h, hw]
  simp [-Fin.getElem_fin, hv]

theorem scanResult_value (h : ¬ (s.conv.supply = .low ∧ d.channel ≠ 15)) (hw : d.windowFault avg = none) (hv : st.curveValid[d.curve] = true) :
    let z := s.conv.slots[i].takeValue s.signals[(0 : Fin 64)].view d (interpolate st.curves[d.curve] avg)
    let m := deliver (.analog d.channel) (.value (filterOutput z.y)) (setScanState i z s)
    scanResult st parked i d avg s = if d.channel = 15 then supplyJudgement (filterOutput z.y) m else m := by
  rw [scanResult, if_neg h, hw]
  simp only [hv, Bool.not_true, Bool.false_eq_true, if_false]

/-- A last conversion: the result, and the pass moved on. -/
theorem onConversion_last {p : Pass} {code : AdcCode} {sum taken : Nat} {rest : List (Fin 16)} (hp : s.conv.pass = some p)
    (hs : p.stage = .converting true sum taken) (ht : p.todo = i :: rest) (hst : s.conv.settings = some st) (hd : s.conv.scanSlot i = some d)
    (hl : d.averaging ≤ taken + 1) :
    onConversion code s =
      let r := scanResult st p.parked i d ((sum + code.toNat + d.averaging / 2) / d.averaging) s
      setPass (r.conv.openSlot p.parked rest) r := by
  simp only [onConversion, hp, endConversion_counted hs ht, takeConversion, hst, hd, if_neg (Nat.not_lt.2 hl), nextSlot, ht, List.tail_cons]
  rfl

theorem openSlot_congr {v w : Converter} (h : w.settings = v.settings) (parked : Bool) (todo : List (Fin 16)) :
    w.openSlot parked todo = v.openSlot parked todo := by
  unfold Converter.openSlot Converter.scanSlot
  rw [h]

end

/-! ## The wake cause of a window fault -/

theorem wakeWindow_eq (parked : Bool) (m : State) :
    (if parked then addWakeCause .parkedWindow m else m) =
      m.setCycle { m.cycle with causeWindow := m.cycle.causeWindow || (parked && m.cycle.state == .parked) } := by
  have self : m.setCycle { m.cycle with causeWindow := m.cycle.causeWindow } = m := rfl
  cases parked
  · simp [self]
  · by_cases h : m.cycle.state = .parked
    · simp [addWakeCause, h]
    · have hb : (m.cycle.state == .parked) = false := beq_eq_false_iff_ne.2 h
      simp [addWakeCause, h, hb, self]

theorem Delivered.setCauseWindow {src : Source} {x : Update} {s t : State} (h : Delivered src x s t) (b : Bool) :
    Delivered src x (s.setCycle { s.cycle with causeWindow := b }) (t.setCycle { t.cycle with causeWindow := b }) :=
  h.congr { h.table with causeWindow := rfl } (.of_eq rfl rfl rfl) rfl rfl (.of_eq rfl rfl rfl) (.of_ports rfl)

/-- A window fault delivered, with the wake cause of a parked pass and the pass moved on (R65, R76). -/
theorem delivered_woken {src : Source} {x : Update} {u m t : State} {parked : Bool} {next : Option Pass} (h : Delivered src x u m)
    (ended : EventEnd (setPass next (if parked then addWakeCause .parkedWindow m else m)) t) :
    let cause := u.cycle.causeWindow || (parked && t.cycle.state == .parked)
    Delivered src x ((setPass next u).setCycle { u.cycle with causeWindow := cause }) t ∧ t.cycle.causeWindow = cause := by
  have before := h.table.causeWindow
  rw [wakeWindow_eq, before] at ended
  have state : t.cycle.state = m.cycle.state := by
    rw [ended.cycle]
    rfl
  have window : t.cycle.causeWindow = (u.cycle.causeWindow || (parked && m.cycle.state == .parked)) :=
    congrArg CycleController.causeWindow ended.cycle
  rw [state]
  exact ⟨((h.setPass next).setCauseWindow _).ended ended, window⟩



/-! ## Senders -/

theorem filterCount_eq (vspd : View) (d : ScanSlot) (x : Int) (w : ScanState) :
    w.takeValue vspd d x =
      let count :=
        if d.refuelThreshold ≠ 0 ∧ vspd.state = .live ∧ vspd.value = 0 ∧ d.refuelThreshold < (x - (w.y + 32768) / 65536).natAbs
        then w.refuel + 1 else 0
      if w.seed = true then { y := x * 65536, seed := false, refuel := 0 }
      else if 10 ≤ count then { w with y := x * 65536, refuel := 0 }
      else { w with y := w.y + (x * 65536 - w.y) / (2 ^ d.shift : Nat), refuel := count } := by
  have counts : refuelCounts vspd d x w.y = true ↔
      d.refuelThreshold ≠ 0 ∧ vspd.state = .live ∧ vspd.value = 0 ∧ d.refuelThreshold < (x - (w.y + 32768) / 65536).natAbs := by
    simp only [refuelCounts, filterOutput, Bool.and_eq_true, bne_iff_ne, beq_iff_eq, and_assoc, ne_eq]
    exact and_congr_right' (and_congr_right' (and_congr_right' decide_eq_true_iff))
  simp only [ScanState.takeValue, counts]

/-- A window fault as the command delivers it, the pass moved on and the event ended. -/
theorem onConversion_windowFault {s : State} {p : Pass} {code : AdcCode} {sum taken : Nat} {i : Fin 16} {rest : List (Fin 16)}
    {st : ConverterSettings} {d : ScanSlot} (hp : s.conv.pass = some p) (hs : p.stage = .converting true sum taken) (ht : p.todo = i :: rest)
    (hst : s.conv.settings = some st) (hd : s.conv.scanSlot i = some d) (ha : d.averaging ≤ taken + 1) (hl : s.cycle.state ≠ .load)
    (hlow : ¬ (s.conv.supply = .low ∧ d.channel ≠ 15)) {cause : FaultCause}
    (hw : d.windowFault ((sum + code.toNat + d.averaging / 2) / d.averaging) = some cause) :
    let t := finishEvent s (onConversion code s)
    let window := s.cycle.causeWindow || (p.parked && t.cycle.state == .parked)
    Delivered (.analog d.channel) (.fault cause)
      ((setPass (s.conv.openSlot p.parked rest) (clearRefuel i s)).setCycle { s.cycle with causeWindow := window }) t ∧
    t.cycle.causeWindow = window ∧ (t.cycle.causeWindow ≠ s.cycle.causeWindow → noticed cycleItem t) := by
  rw [onConversion_last hp hs ht hst hd ha, scanResult_window hlow hw]
  have delivered := deliver_spec (.analog d.channel) (.fault cause) (clearRefuel i s) hl
  generalize deliver (.analog d.channel) (.fault cause) (clearRefuel i s) = m at delivered ⊢
  have settings : (if p.parked then addWakeCause .parkedWindow m else m).conv.settings = s.conv.settings := by
    rw [wakeWindow_eq]
    exact delivered.table.convSettings
  dsimp only
  rw [openSlot_congr settings]
  obtain ⟨woken, window⟩ := delivered_woken (next := s.conv.openSlot p.parked rest) delivered
    (finishEvent_eventEnd s (setPass (s.conv.openSlot p.parked rest) (if p.parked then addWakeCause .parkedWindow m else m)))
  exact ⟨woken, window, fun h => finishEvent_noticed fun hv => h (congrArg CycleView.causeWindow hv)⟩

/-- A CURVE fault as the command delivers it, the pass moved on and the event ended. -/
theorem onConversion_curveFault {s : State} {p : Pass} {code : AdcCode} {sum taken : Nat} {i : Fin 16} {rest : List (Fin 16)}
    {st : ConverterSettings} {d : ScanSlot} (hp : s.conv.pass = some p) (hs : p.stage = .converting true sum taken) (ht : p.todo = i :: rest)
    (hst : s.conv.settings = some st) (hd : s.conv.scanSlot i = some d) (ha : d.averaging ≤ taken + 1) (hl : s.cycle.state ≠ .load)
    (hlow : ¬ (s.conv.supply = .low ∧ d.channel ≠ 15))
    (hw : d.windowFault ((sum + code.toNat + d.averaging / 2) / d.averaging) = none) (hv : st.curveValid[d.curve] = false) :
    Delivered (.analog d.channel) (.fault .curve)
      ((setPass (s.conv.openSlot p.parked rest) (clearRefuel i s)).setCycle { s.cycle with causeWindow := s.cycle.causeWindow || false })
      (finishEvent s (onConversion code s)) := by
  rw [onConversion_last hp hs ht hst hd ha, scanResult_curve hlow hw hv, Bool.or_false]
  have delivered := deliver_spec (.analog d.channel) (.fault .curve) (clearRefuel i s) hl
  generalize deliver (.analog d.channel) (.fault .curve) (clearRefuel i s) = m at delivered ⊢
  dsimp only
  rw [openSlot_congr (show m.conv.settings = s.conv.settings from delivered.table.convSettings)]
  exact (delivered.setPass _).ended (finishEvent_eventEnd s _)

/-- Settles O29: the branches of the result, each with the pass moved on. -/
theorem senderResult : Obligations.SenderResult := by
  intro s p code sum taken i rest st d hp hs ht hst hd ha hch hl avg next w faulted
  have last := onConversion_last (code := code) hp hs ht hst hd ha
  refine ⟨fun hlow => completes_end rfl ?_, fun hlow hc hout => completes_finish rfl ?_, fun hlow hin hv => completes_finish rfl ?_,
    fun hlow hin hv => ?_⟩
  · rw [last, scanResult_discarded ⟨hlow, hch⟩]
    rfl
  · exact onConversion_windowFault hp hs ht hst hd ha hl (fun h => hlow h.1) (ScanSlot.windowFault_of_outside hc hout)
  · exact onConversion_curveFault hp hs ht hst hd ha hl (fun h => hlow h.1) (ScanSlot.windowFault_of_inside hin) hv
  · intro x vspd count z
    have taken : w.takeValue vspd d x = z := filterCount_eq vspd d x w
    refine completes_finish rfl ?_
    rw [last, scanResult_value (fun h => hlow h.1) (ScanSlot.windowFault_of_inside hin) hv]
    dsimp only
    rw [if_neg hch, taken]
    have delivered := deliver_spec (.analog d.channel) (.value (filterOutput z.y)) (setScanState i z s) hl
    generalize deliver (.analog d.channel) (.value (filterOutput z.y)) (setScanState i z s) = m at delivered ⊢
    rw [openSlot_congr (show m.conv.settings = s.conv.settings from delivered.table.convSettings)]
    exact (delivered.setPass next).ended (finishEvent_eventEnd s (setPass next m))

/-! ## Gauges held and resumed -/

theorem Gauge.hold_eq (c : CycleState) (g : Gauge) (hd : g.driven c = true) (hs : g.state ≠ .held) :
    g.hold c = { g with state := .held, remembered := some g.state, velocity := 0 } := by
  simp [Gauge.hold, hd, hs]

theorem Gauge.hold_stays (c : CycleState) (g : Gauge) (h : g.driven c = false ∨ g.state = .held) : g.hold c = g := by
  rcases h with h | h <;> simp [Gauge.hold, h]

theorem Gauge.resume_stays (c : CycleState) (v : View) (g : Gauge) (h : g.state ≠ .held) : g.resume c v = g := by
  unfold Gauge.resume
  split
  · rfl
  · simp [h]

theorem holdsOrReleases_hold (c : CycleState) : HoldsOrReleases fun _ g => g.hold c := by
  refine .inl fun _ g h => ?_
  beta_reduce at h ⊢
  by_cases hd : g.driven c = true
  · by_cases hs : g.state = .held
    · rw [Gauge.hold_stays c g (.inr hs)] at h
      exact absurd rfl h
    · rw [Gauge.hold_eq c g hd hs]
  · rw [Gauge.hold_stays c g (.inl (by simpa using hd))] at h
    exact absurd rfl h

theorem holdsOrReleases_resume (c : CycleState) : HoldsOrReleases fun v g => g.resume c v := by
  refine .inr fun v g h => ?_
  beta_reduce at h
  by_contra hs
  exact h (by rw [Gauge.resume_stays c v g hs])

section
variable {gs : GaugeSettings} {g : Gauge} (c : CycleState) (v : View)

theorem Gauge.resume_homing (hs : g.settings = some gs) (hh : g.state = .held) (hr : g.remembered = some .homing) :
    g.resume c v = { g.enterHoming gs with remembered := none } := by
  simp only [Gauge.resume, hs, hh, hr, if_true]

theorem Gauge.resume_sweep (hs : g.settings = some gs) (hh : g.state = .held) (hr : g.remembered = some .sweep) :
    g.resume c v = Gauge.arrive gs v { g with state := .sweep, remembered := none, velocity := 0 } := by
  simp only [Gauge.resume, hs, hh, hr, if_true]

theorem Gauge.resume_tracking (hs : g.settings = some gs) (hh : g.state = .held) {m : GaugeState} (hr : g.remembered = some m)
    (hm : m = .tracking ∨ m = .parking ∨ m = .parked) :
    let back : Gauge :=
      { g with state := if m = .parking ∧ g.position = g.target then .parked else m, remembered := none, velocity := 0 }
    g.resume c v = if c = .starting ∨ c = .run then back.effectiveUpdate c v else back := by
  intro back
  have parked : Gauge.parkIfAtRest { g with state := m, remembered := none, velocity := 0 } = back := by
    rw [Gauge.parkIfAtRest_eq]
    simp only [true_and, back]
  have resumed : g.resume c v = if c.isOn then back.effectiveUpdate c v else back := by
    rw [← parked]
    rcases hm with rfl | rfl | rfl <;> simp only [Gauge.resume, hs, hh, hr, if_true, Option.getD]
  rw [resumed]
  simp only [CycleState.isOn_iff]

end

/-! ## The supply judged -/

theorem GaugesBecome.ended {g : Fin 6 → Gauge} {u t w : State} (h : GaugesBecome g u t) (k : EventEnd t w) : GaugesBecome g u w where
  gauges i := by rw [k.gauges]; exact h.gauges i
  signals := k.signals.trans h.signals
  claims := h.claims.trans k.lamps
  table := h.table.trans k.table
  items i hi := (h.items i hi).took k.ports
  silent := h.silent.trans (k.silent.mono fun _ n i e => (n (e ▸ ofTable_gauge i)).elim)
  state := by rw [k.cycle]; exact h.state
  cycle hc := (h.cycle (by rwa [k.cycle] at hc)).took k.ports

theorem GaugesBecome.setPass {g : Fin 6 → Gauge} {u t : State} (h : GaugesBecome g u t) (p : Option Pass) :
    GaugesBecome g (Machine.setPass p u) (Machine.setPass p t) :=
  { h with table := { h.table with convPass := rfl } }

theorem GaugesBecome.refl (s : State) : GaugesBecome (fun k => s.gauges[k]) s s where
  gauges _ := rfl
  signals := rfl
  claims := .refl _
  table := .refl s
  items k h := by rw [gaugeNotice_self] at h; cases h
  silent := .refl s _
  state := (if_pos fun _ => rfl).symm
  cycle h := absurd rfl h

/-- The supply state replaced: its conditions, and every gauge held or resumed (R74, R103, R104). -/
theorem changeSupply_becomes (new : Supply) (n : Nat) (s : State) :
    GaugesBecome
      (fun k =>
        if s.conv.supply ≠ .low ∧ new = .low then s.gauges[k].hold s.cycle.state
        else if s.conv.supply = .low ∧ new ≠ .low then s.gauges[k].resume s.cycle.state (gaugeView s s.gauges[k])
        else s.gauges[k])
      (setCond .supplyHigh (new == .high) (setCond .supplyLow (new == .low) (s.setConv { s.conv with supply := new, lowCount := n })))
      (changeSupply new n s) := by
  unfold changeSupply
  dsimp only
  generalize hX : setCond .supplyHigh (new == .high) (setCond .supplyLow (new == .low)
    (s.setConv { s.conv with supply := new, lowCount := n })) = X
  have gauges : X.gauges = s.gauges := hX ▸ rfl
  have signals : X.signals = s.signals := hX ▸ rfl
  by_cases enters : s.conv.supply ≠ .low ∧ new = .low
  · have held := gaugesBecome_forGauges (fun _ g => g.hold_settings s.cycle.state) (holdsOrReleases_hold s.cycle.state)
      (EventEnd.refl (forGauges (fun _ g => g.hold s.cycle.state) X))
    simpa only [if_pos enters, gauges] using held
  · by_cases leaves : s.conv.supply = .low ∧ new ≠ .low
    · have resumed := gaugesBecome_forGauges (Gauge.resume_settings s.cycle.state) (holdsOrReleases_resume s.cycle.state)
        (EventEnd.refl (forGauges (fun v g => g.resume s.cycle.state v) X))
      simpa only [if_neg enters, if_pos leaves, gauges, gaugeView_congr signals] using resumed
    · simpa only [if_neg enters, if_neg leaves, gauges] using GaugesBecome.refl X

/-- Settles O30: the branches of AN15's result, and the gauges by their states. -/
theorem supplyResult : Obligations.SupplyResult := by
  refine ⟨fun s p code sum taken i rest st d hp hs ht hst hd ha hch hl => ?_, fun c g => ⟨g.hold_eq c, g.hold_stays c,
    fun h v => g.resume_stays c v h, g.driven_iff c⟩, fun c v g gs hs hh => ⟨g.resume_homing c v hs hh, fun hr hne => ?_,
    fun m hr hm => g.resume_tracking c v hs hh hr hm, fun hr heq => ?_⟩⟩
  · intro avg next faulted
    have low : ¬ (s.conv.supply = .low ∧ d.channel ≠ 15) := fun h => h.2 hch
    refine ⟨fun hin hv => ?_, fun hc hout => completes_finish rfl ?_, fun hin hv => completes_finish rfl ?_⟩
    · intro z V r
      refine completes_finish rfl ?_
      rw [onConversion_last hp hs ht hst hd ha, scanResult_value low (ScanSlot.windowFault_of_inside hin) hv]
      dsimp only
      rw [if_pos hch, hch]
      have delivered := deliver_spec (.analog 15) (.value V) (setScanState i z s) hl
      generalize deliver (.analog 15) (.value V) (setScanState i z s) = m at delivered ⊢
      have supply : m.conv.supply = s.conv.supply := delivered.table.supply
      have judged : judgeSupply V m.conv.supply m.conv.lowCount = r := by
        rw [supply, show m.conv.lowCount = s.conv.lowCount from delivered.table.lowCount]
      have became : supplyJudgement (filterOutput z.y) m = changeSupply r.1 r.2 m := by
        rw [← judged]
        rfl
      have changed := (changeSupply_becomes r.1 r.2 m).setPass next
      have settings : (changeSupply r.1 r.2 m).conv.settings = s.conv.settings :=
        (changeSupply_becomes r.1 r.2 m).table.convSettings.trans delivered.table.convSettings
      rw [became, openSlot_congr settings]
      generalize changeSupply r.1 r.2 m = n at changed ⊢
      have ended := finishEvent_eventEnd s (setPass next n)
      have notice := finishEvent_noticed (before := s) (s := setPass next n)
      change ∃ u, _ ∧ _ ∧ (_ → noticed cycleItem (finishEvent s (setPass next n)))
      have finished := changed.ended ended
      rw [supply] at finished
      exact ⟨setPass next m, delivered.setPass next, finished, fun h => notice fun hv =>
        h ((congrArg CycleView.supply hv).symm.trans finished.table.supply)⟩
    · exact hch ▸ onConversion_windowFault hp hs ht hst hd ha hl low (ScanSlot.windowFault_of_outside hc hout)
    · exact hch ▸ onConversion_curveFault hp hs ht hst hd ha hl low (ScanSlot.windowFault_of_inside hin) hv
  · rw [Gauge.resume_sweep c v hs hh hr, Gauge.arrive_moving]
    rw [Gauge.atRest_iff]
    exact fun ⟨_, h⟩ => hne h
  · intro back
    have rests : back.atRest = true := (Gauge.atRest_iff _).2 ⟨rfl, heq⟩
    rw [Gauge.resume_sweep c v hs hh hr]
    change (g.leg = .out → back.arrive gs v = _) ∧ (g.leg ≠ .out → back.arrive gs v = _)
    rw [back.arrive_sweep gs v rests rfl, Gauge.endLeg]
    exact ⟨fun h => if_pos h, fun h => if_neg h⟩

end Sys2Proof.Machine
end

section
/-! Proofs: what the end of every event establishes in the telltale unit: the claims resolved, the FAILED flags and TELLTALE_FAILED
(R117 to R119, R122, R126). -/

namespace Sys2Proof.Machine

/-! ## Facts that the end of every event establishes -/

/-- A fact `P` that the end of every event establishes under a condition `N` on the settings, that the end of a frame keeps, and that holds behind
a power-on reset. -/
structure EstablishedAtEnd (N P : State → Prop) : Prop where
  settings : ∀ {s t}, FormsKept s t → N s → N t
  finish : ∀ b u, N u → P (finishEvent b u)
  frame : ∀ p f u, P u → P (finishFrame p f u)
  reset : ∀ strap u, P (powerOn strap u)

section
variable {N P : State → Prop}

theorem EstablishedAtEnd.advance (h : EstablishedAtEnd N P) (p : Port) {s : State} (hn : N s) (hs : P s) : P (advanceFrame p s) := by
  unfold advanceFrame
  split
  · exact hs
  next f hf =>
    split
    · exact h.frame p f s hs
    next q rest hr =>
      have taken (x : PortState) : FormsKept s (setPort p x s) := ⟨id, id⟩
      exact h.finish _ _ (h.settings ((taken _).trans (formsKept_runRequest _ p q)) hn)

theorem EstablishedAtEnd.complete (h : EstablishedAtEnd N P) (before : State) {u : State} (hn : N u) : P (complete before u) :=
  (runFrames_keeps (P := fun t => N t ∧ P t)
    (fun p s _ ht => ⟨h.settings (formsKept_advanceFrame s p) ht.1, h.advance p ht.1 ht.2⟩) (finishEvent before u)
    ⟨h.settings (finishEvent_eventEnd before u).forms hn, h.finish before u hn⟩).2

/-- Every step keeps such a fact. -/
theorem EstablishedAtEnd.step (h : EstablishedAtEnd N P) {s t : State} (hn : N s) (hs : P s) (k : step s = .next t) : P t := by
  rcases step_cases k with rfl | ⟨c, rest, -, hc⟩
  · exact hs
  · rcases exec_forms (s := s.setPending rest) c with ⟨strap, rfl, hp⟩ | ⟨u, hu, forms⟩
    · obtain rfl : powerOn strap (s.setPending rest) = t := Host.Outcome.next.inj (hp.symm.trans hc)
      exact h.reset _ _
    · obtain rfl : Machine.complete (s.setPending rest) u = t := Host.Outcome.next.inj (hu.symm.trans hc)
      have queued : FormsKept s (s.setPending rest) := ⟨id, id⟩
      exact h.complete _ (h.settings (queued.trans forms) hn)

end

/-! ## The telltales under R110 -/

section
variable {st : LampSettings} {c : Configuration}

theorem lampSettings_telltale (i : Fin 40) : (lampSettings c.normal).telltales[i] = normalTelltale i c.telltales[i] := by
  simp [lampSettings, Configuration.normal]

/-- The telltales on which the aggregation and fallback claims are judged: under R110 neither TT0 nor TT1 (R118, R119). -/
def Aggregated (i : Fin 40) (d : TelltaleDesc) : Prop :=
  (i ≠ 0 ∧ d.colour = .red ∧ d.lampClass = .mandatory) ∨ (i ≠ 1 ∧ d.colour = .amber) ∨ d.render = .screen

theorem aggregated_index {i : Fin 40} (h : Aggregated i (lampSettings c.normal).telltales[i]) : i ≠ 0 ∧ i ≠ 1 := by
  rw [lampSettings_telltale] at h
  constructor
  · rintro rfl
    simp [Aggregated, normalTelltale] at h
  · rintro rfl
    simp [Aggregated, normalTelltale] at h

theorem normalTelltale_claim (i : Fin 40) (d : TelltaleDesc) (k : Fin 4) :
    (normalTelltale i d).claims[k] =
      if repeatsPort d.claims k then .absent
      else if barsFailedClaim i (normalTelltale i d).render (normalTelltale i d).lampClass (normalTelltale i d).colour && d.claims[k].namesFailed
      then .absent
      else normalTelltaleClaim d.claims[k] := by
  simp [normalTelltale]

theorem normalTelltaleClaim_namesFailed {x : Claim} (h : x.namesFailed = false) : (normalTelltaleClaim x).namesFailed = false := by
  cases x with
  | absent | port => rfl
  | signal e t th hy p => simp only [normalTelltaleClaim]; split <;> rfl
  | switch i p => simp only [normalTelltaleClaim]; split <;> rfl
  | condition c p =>
    simp only [normalTelltaleClaim]
    split
    · rfl
    · exact h

theorem barsFailedClaim_of_aggregated {i : Fin 40} {d : TelltaleDesc} (h0 : i ≠ 0) (h1 : i ≠ 1) (h : Aggregated i d) :
    barsFailedClaim i d.render d.lampClass d.colour = true := by
  rcases h with ⟨-, hc, hl⟩ | ⟨-, hc⟩ | hr <;> simp [barsFailedClaim, *]

/-- No claim of an aggregated telltale names TELLTALE_FAILED (R110). -/
theorem aggregated_claims {i : Fin 40} (h : Aggregated i (lampSettings c.normal).telltales[i]) (k : Fin 4) :
    ((lampSettings c.normal).telltales[i].claims[k]).namesFailed = false := by
  obtain ⟨h0, h1⟩ := aggregated_index h
  rw [lampSettings_telltale] at h ⊢
  rw [normalTelltale_claim, barsFailedClaim_of_aggregated h0 h1 h, Bool.true_and]
  split
  · rfl
  · split
    · rfl
    next hf => exact normalTelltaleClaim_namesFailed (by simpa using hf)

end

/-! ## What a claim is judged from -/

section
variable {s t : State}

/-- What the claims and the FAILED flags are judged from stands as it was, but for TELLTALE_FAILED. -/
structure SameInputs (s t : State) : Prop where
  signals : t.signals = s.signals
  switches : t.switches = s.switches
  conditions : ∀ c, c ≠ .telltaleFailed → t.cond c = s.cond c
  fallback : t.fallbackOn = s.fallbackOn
  settings : t.lamps.settings = s.lamps.settings
  telltales : ∀ i : Fin 40,
    t.lamps.telltales[i].latches = s.lamps.telltales[i].latches ∧ t.lamps.telltales[i].patterns = s.lamps.telltales[i].patterns ∧
    t.lamps.telltales[i].fault.isShort = s.lamps.telltales[i].fault.isShort

theorem SameInputs.refl (s : State) : SameInputs s s := ⟨rfl, rfl, fun _ _ => rfl, rfl, rfl, fun _ => ⟨rfl, rfl, rfl⟩⟩

theorem EventEnd.inputs (h : EventEnd s t) : SameInputs s t where
  signals := h.signals
  switches := h.switches
  conditions := h.conditions
  fallback := by rw [State.fallbackOn, h.cycle, h.ports.link .dlink, State.fallbackOn]
  settings := h.lamps.settings
  telltales i := by
    obtain ⟨hl, hp, hf, -⟩ := h.lamps.telltales i
    exact ⟨hl, hp, by rw [hf]⟩

/-- A claim that does not name TELLTALE_FAILED, or any claim where that condition stands as it was, is judged behind the end of an event as before
it. -/
theorem Claim.active_inputs (h : SameInputs s t) {c : Claim} (hc : c.namesFailed = false ∨ t.cond .telltaleFailed = s.cond .telltaleFailed)
    (w : Port → Bool) (l : Bool) : c.active t w l = c.active s w l := by
  cases c with
  | absent | port => rfl
  | signal => simp only [Claim.active, h.signals]
  | switch => simp only [Claim.active, h.switches]
  | condition d p =>
    by_cases hd : d = .telltaleFailed
    · subst hd
      exact hc.resolve_left (by simp [Claim.namesFailed])
    · exact h.conditions d hd

/-- Whether TELLTALE_FAILED stands as it was, or none of a telltale's claims names it. -/
def FailedAside (s t : State) (d : TelltaleDesc) : Prop :=
  (∀ k : Fin 4, d.claims[k].namesFailed = false) ∨ t.cond .telltaleFailed = s.cond .telltaleFailed

theorem FailedAside.claim {d : TelltaleDesc} (h : FailedAside s t d) (k : Fin 4) :
    d.claims[k].namesFailed = false ∨ t.cond .telltaleFailed = s.cond .telltaleFailed := h.imp_left (· k)

theorem telltaleClaim_inputs (h : SameInputs s t) {d : TelltaleDesc} {x y : Telltale} (hl : y.latches = x.latches) (hp : y.patterns = x.patterns)
    {k : Fin 4} (hd : d.claims[k].namesFailed = false ∨ t.cond .telltaleFailed = s.cond .telltaleFailed) :
    telltaleClaim t d y k = telltaleClaim s d x k := by
  unfold telltaleClaim
  rw [hl, hp, Claim.active_inputs h hd]

theorem resolveOne_inputs (h : SameInputs s t) {d : TelltaleDesc} (hd : FailedAside s t d) {b c : BuiltInClaims} {i : Fin 40} (hb : c.any i = b.any i)
    {x y : Telltale} (hl : y.latches = x.latches) (hp : y.patterns = x.patterns) : resolveOne t d c i y = resolveOne s d b i x := by
  have claims : telltaleClaim t d y = telltaleClaim s d x := funext fun k => telltaleClaim_inputs h hl hp (hd.claim k)
  unfold resolveOne
  rw [hb, hp, claims]

/-- A FAILED flag does not depend on TELLTALE_FAILED (R126). -/
theorem failedFlag_inputs (h : SameInputs s t) {d : TelltaleDesc} {b c : BuiltInClaims} {i : Fin 40} (hb : c.other i = b.other i) {x y : Telltale}
    (hl : y.latches = x.latches) (hp : y.patterns = x.patterns) (hf : y.fault.isShort = x.fault.isShort) : failedFlag t d c i y = failedFlag s d b i x := by
  have claims : (fun k => telltaleClaim t d y k && !d.claims[k].namesFailed) = fun k => telltaleClaim s d x k && !d.claims[k].namesFailed := by
    funext k
    cases hk : d.claims[k].namesFailed
    · rw [telltaleClaim_inputs h hl hp (.inl hk)]
    · simp
  unfold failedFlag
  rw [hf, hb, claims]

theorem BuiltInClaims.any_eq_false {i : Fin 40} (h0 : i ≠ 0) (h1 : i ≠ 1) (b : BuiltInClaims) : b.any i = false := by
  simp [BuiltInClaims.any, BuiltInClaims.other, h0, h1]

theorem someActive_congr {st : LampSettings} {ts us : Vector Telltale 40} {f : Fin 40 → TelltaleDesc → Bool}
    (h : ∀ i, f i st.telltales[i] = true → us[i].resolved = ts[i].resolved) : someActive st us f = someActive st ts f := by
  unfold someActive
  congr 1
  funext i
  cases hf : f i st.telltales[i]
  · simp
  · rw [h i hf]

/-- The aggregation and fallback claims depend on the aggregated telltales' resolved patterns alone. -/
theorem judgeBuiltIn_inputs (h : SameInputs s t) {st : LampSettings} {ts us : Vector Telltale 40} {b c : BuiltInClaims}
    (hr : ∀ i, Aggregated i st.telltales[i] → us[i].resolved = ts[i].resolved) :
    judgeBuiltIn t st us c = { judgeBuiltIn s st ts b with failed := c.failed } := by
  unfold judgeBuiltIn
  rw [h.fallback, someActive_congr fun i hi => hr i ?_, someActive_congr fun i hi => hr i ?_, someActive_congr fun i hi => hr i ?_,
    someActive_congr fun i hi => hr i ?_]
  all_goals simp [Aggregated] at hi ⊢
  all_goals simp [hi]

end

/-! ## One pass of stages 1 and 2 of R117 -/

section
variable (st : LampSettings) (s : State)

/-- The telltales once their patterns are resolved under the built-in claims as they stand. -/
def firstResolved : Vector Telltale 40 :=
  Vector.ofFn fun i : Fin 40 =>
    { s.lamps.telltales[i] with resolved := resolveOne s st.telltales[i] s.lamps.builtIn i s.lamps.telltales[i] }

/-- The aggregation and fallback claims that a pass judges. -/
def passAggregation : BuiltInClaims := judgeBuiltIn s st (firstResolved st s) s.lamps.builtIn

/-- The telltales with the FAILED flags that a pass judges. -/
def passFlagged : Vector Telltale 40 :=
  Vector.ofFn fun i : Fin 40 =>
    { (firstResolved st s)[i] with failed := failedFlag s st.telltales[i] (passAggregation st s) i (firstResolved st s)[i] }

/-- The built-in claims behind a pass. -/
def passBuiltIn : BuiltInClaims := { passAggregation st s with failed := (passFlagged st s).toList.any (·.failed) }

/-- The telltales behind a pass. -/
def passTelltales : Vector Telltale 40 :=
  Vector.ofFn fun i : Fin 40 =>
    { (passFlagged st s)[i] with resolved := resolveOne s st.telltales[i] (passBuiltIn st s) i (passFlagged st s)[i] }

theorem lampPass_eq :
    lampPass st s =
      setCond .telltaleFailed (passBuiltIn st s).failed
        (s.setLamps { s.lamps with telltales := passTelltales st s, builtIn := passBuiltIn st s }) := by
  simp only [lampPass, passTelltales, passBuiltIn, passFlagged, passAggregation, firstResolved]

theorem firstResolved_get (i : Fin 40) :
    (firstResolved st s)[i] =
      { s.lamps.telltales[i] with resolved := resolveOne s st.telltales[i] s.lamps.builtIn i s.lamps.telltales[i] } := by
  rw [firstResolved, Fin.getElem_fin, Vector.getElem_ofFn]

theorem passFlagged_get (i : Fin 40) :
    (passFlagged st s)[i] =
      { (firstResolved st s)[i] with
        failed := failedFlag s st.telltales[i] (passBuiltIn st s) i s.lamps.telltales[i] } := by
  have other : (passBuiltIn st s).other i = (passAggregation st s).other i := by simp only [passBuiltIn, BuiltInClaims.other]
  have flag : failedFlag s st.telltales[i] (passAggregation st s) i (firstResolved st s)[i] =
      failedFlag s st.telltales[i] (passBuiltIn st s) i s.lamps.telltales[i] :=
    failedFlag_inputs (.refl s) other.symm (by rw [firstResolved_get]) (by rw [firstResolved_get]) (by rw [firstResolved_get])
  rw [passFlagged, Fin.getElem_fin, Vector.getElem_ofFn, flag]

theorem passTelltales_get (i : Fin 40) :
    (passTelltales st s)[i] =
      { s.lamps.telltales[i] with
        resolved := resolveOne s st.telltales[i] (passBuiltIn st s) i s.lamps.telltales[i]
        failed := failedFlag s st.telltales[i] (passBuiltIn st s) i s.lamps.telltales[i] } := by
  have resolved : resolveOne s st.telltales[i] (passBuiltIn st s) i (passFlagged st s)[i] =
      resolveOne s st.telltales[i] (passBuiltIn st s) i s.lamps.telltales[i] :=
    resolveOne_inputs (.refl s) (.inr rfl) rfl (by rw [passFlagged_get, firstResolved_get]) (by rw [passFlagged_get, firstResolved_get])
  rw [passTelltales, Fin.getElem_fin, Vector.getElem_ofFn]
  rw [resolved, passFlagged_get, firstResolved_get]

theorem passTelltales_resolved (i : Fin 40) :
    (passTelltales st s)[i].resolved = resolveOne s st.telltales[i] (passBuiltIn st s) i s.lamps.telltales[i] := by rw [passTelltales_get]

theorem passTelltales_failed (i : Fin 40) :
    (passTelltales st s)[i].failed = failedFlag s st.telltales[i] (passBuiltIn st s) i s.lamps.telltales[i] := by rw [passTelltales_get]

theorem passBuiltIn_eq :
    passBuiltIn st s = { judgeBuiltIn s st (firstResolved st s) s.lamps.builtIn with failed := (passBuiltIn st s).failed } := by
  simp only [passBuiltIn, passAggregation]

theorem anyFailed_iff (ts : Vector Telltale 40) : ts.toList.any (·.failed) = true ↔ ∃ i : Fin 40, ts[i].failed = true := by
  simp only [List.any_eq_true, Vector.mem_toList_iff, Vector.mem_iff_getElem, Fin.exists_iff, Fin.getElem_fin]
  grind

theorem passBuiltIn_failed : (passBuiltIn st s).failed = (passTelltales st s).toList.any (·.failed) := by
  have flags : (passFlagged st s).map (·.failed) = (passTelltales st s).map (·.failed) := by
    ext i hi
    have h := passFlagged_get st s ⟨i, hi⟩
    have k := passTelltales_get st s ⟨i, hi⟩
    simp only [Fin.getElem_fin] at h k
    rw [Vector.getElem_map, Vector.getElem_map, h, k]
  have lists := congrArg (fun v : Vector Bool 40 => v.toList.any id) flags
  simpa [passBuiltIn, Function.comp_def, List.any_map] using lists

@[simp] theorem lampPass_telltales : (lampPass st s).lamps.telltales = passTelltales st s := by rw [lampPass_eq]; rfl
@[simp] theorem lampPass_builtIn : (lampPass st s).lamps.builtIn = passBuiltIn st s := by rw [lampPass_eq]; rfl
@[simp] theorem lampPass_failed : (lampPass st s).cond .telltaleFailed = (passBuiltIn st s).failed := by simp [lampPass_eq]

end

/-! ## The rounds of passes end resolved -/

section
variable {c : Configuration} {s t : State}

/-- A pass resolves an aggregated telltale once: no built-in claim bears on it. -/
theorem passTelltales_aggregated {i : Fin 40} (h : Aggregated i (lampSettings c.normal).telltales[i]) :
    (passTelltales (lampSettings c.normal) s)[i].resolved = (firstResolved (lampSettings c.normal) s)[i].resolved := by
  obtain ⟨h0, h1⟩ := aggregated_index h
  rw [passTelltales_get, firstResolved_get]
  exact resolveOne_inputs (.refl s) (.inr rfl) (by rw [BuiltInClaims.any_eq_false h0 h1, BuiltInClaims.any_eq_false h0 h1]) rfl rfl

/-- A pass that leaves TELLTALE_FAILED as it found it leaves every pattern, flag and built-in claim resolved. -/
theorem lampPass_resolved (hs : s.lamps.settings = some (lampSettings c.normal))
    (hk : (passBuiltIn (lampSettings c.normal) s).failed = s.cond .telltaleFailed) : ClaimsResolved (lampPass (lampSettings c.normal) s) := by
  intro st hst
  have passed := (lampPass_eventEnd (lampSettings c.normal) s).inputs
  obtain rfl : lampSettings c.normal = st := Option.some.inj (hs.symm.trans (passed.settings.symm.trans hst))
  have kept : (lampPass (lampSettings c.normal) s).cond .telltaleFailed = s.cond .telltaleFailed := by rw [lampPass_failed, hk]
  rw [lampPass_telltales, lampPass_builtIn, lampPass_failed]
  refine ⟨fun i => ?_, ?_⟩
  · obtain ⟨hl, hp, hf⟩ := passed.telltales i
    rw [lampPass_telltales] at hl hp hf
    exact ⟨(passTelltales_resolved _ s i).trans (resolveOne_inputs passed (.inr kept) rfl hl hp).symm,
      (passTelltales_failed _ s i).trans (failedFlag_inputs passed rfl hl hp hf).symm⟩
  · have judged := judgeBuiltIn_inputs passed (st := lampSettings c.normal) (ts := firstResolved (lampSettings c.normal) s)
      (us := passTelltales (lampSettings c.normal) s) (b := s.lamps.builtIn)
      (c := passBuiltIn (lampSettings c.normal) s) fun i hi => passTelltales_aggregated hi
    have eq := passBuiltIn_eq (lampSettings c.normal) s
    generalize judgeBuiltIn s (lampSettings c.normal) (firstResolved (lampSettings c.normal) s) s.lamps.builtIn = j at judged eq
    rw [judged]
    exact eq

/-- The FAILED flags of a pass do not depend on TELLTALE_FAILED, nor on how the telltales and the built-in claims stood before. -/
theorem passBuiltIn_failed_inputs (h : SameInputs s t) :
    (passBuiltIn (lampSettings c.normal) t).failed = (passBuiltIn (lampSettings c.normal) s).failed := by
  have first (i : Fin 40) (hi : Aggregated i (lampSettings c.normal).telltales[i]) :
      (firstResolved (lampSettings c.normal) t)[i].resolved = (firstResolved (lampSettings c.normal) s)[i].resolved := by
    obtain ⟨h0, h1⟩ := aggregated_index hi
    obtain ⟨hl, hp, -⟩ := h.telltales i
    rw [firstResolved_get, firstResolved_get]
    exact resolveOne_inputs h (.inl (aggregated_claims hi)) (by rw [BuiltInClaims.any_eq_false h0 h1, BuiltInClaims.any_eq_false h0 h1]) hl hp
  have aggregation : passAggregation (lampSettings c.normal) t =
      { passAggregation (lampSettings c.normal) s with failed := t.lamps.builtIn.failed } := by
    have judged := judgeBuiltIn_inputs h (st := lampSettings c.normal) (ts := firstResolved (lampSettings c.normal) s)
      (us := firstResolved (lampSettings c.normal) t) (b := s.lamps.builtIn) (c := t.lamps.builtIn) first
    simpa only [passAggregation] using judged
  have flag (i : Fin 40) : (passTelltales (lampSettings c.normal) t)[i].failed = (passTelltales (lampSettings c.normal) s)[i].failed := by
    obtain ⟨hl, hp, hf⟩ := h.telltales i
    have other : (passBuiltIn (lampSettings c.normal) t).other i = (passBuiltIn (lampSettings c.normal) s).other i := by
      simp only [passBuiltIn, BuiltInClaims.other, aggregation]
    rw [passTelltales_failed, passTelltales_failed, failedFlag_inputs h other hl hp hf]
  rw [passBuiltIn_failed, passBuiltIn_failed, Bool.eq_iff_iff]
  rw [anyFailed_iff, anyFailed_iff]
  simp only [flag]

/-- The rounds end with a pass that keeps TELLTALE_FAILED, the second at the latest. -/
theorem lampRounds_resolved (hs : s.lamps.settings = some (lampSettings c.normal)) : ClaimsResolved (lampRounds 3 (lampSettings c.normal) s) := by
  have passed := (lampPass_eventEnd (lampSettings c.normal) s).inputs
  have second := passBuiltIn_failed_inputs (c := c) passed
  simp only [lampRounds, lampPass_failed]
  split
  next h => exact lampPass_resolved hs h
  next h =>
    exact lampPass_resolved (passed.settings.trans hs) (by rw [second, lampPass_failed])

end

/-! ## Where the claims stand resolved -/

section
variable {s t : State}

/-- The claims are resolved where what they are judged from and what they resolve to stand as in a state where they are. -/
theorem ClaimsResolved.congr (h : ClaimsResolved s) (e : SameInputs s t) (hb : t.lamps.builtIn = s.lamps.builtIn)
    (hr : ∀ i : Fin 40, t.lamps.telltales[i].resolved = s.lamps.telltales[i].resolved)
    (hf : ∀ i : Fin 40, t.lamps.telltales[i].failed = s.lamps.telltales[i].failed)
    (hc : t.cond .telltaleFailed = s.cond .telltaleFailed) : ClaimsResolved t := by
  intro st hst
  obtain ⟨each, builtIn⟩ := h st (e.settings.symm.trans hst)
  refine ⟨fun i => ?_, ?_⟩
  · obtain ⟨resolved, failed⟩ := each i
    obtain ⟨hl, hp, hfault⟩ := e.telltales i
    rw [hr, hf, hb, resolveOne_inputs e (.inr hc) rfl hl hp, failedFlag_inputs e rfl hl hp hfault]
    exact ⟨resolved, failed⟩
  · rw [hb, hc, judgeBuiltIn_inputs e (st := st) (ts := s.lamps.telltales) (b := s.lamps.builtIn) fun i _ => hr i]
    generalize judgeBuiltIn s st s.lamps.telltales s.lamps.builtIn = j at builtIn ⊢
    exact builtIn

/-- TELLTALE_FAILED stands as the FAILED flags give it where both stand as in a state where it does. -/
theorem FailedCondition.congr (h : FailedCondition s) (hs : t.lamps.settings = s.lamps.settings)
    (hf : ∀ i : Fin 40, t.lamps.telltales[i].failed = s.lamps.telltales[i].failed)
    (hc : t.cond .telltaleFailed = s.cond .telltaleFailed) : FailedCondition t := by
  intro st hst
  rw [hc, h st (hs ▸ hst), Bool.eq_iff_iff, anyFailed_iff, anyFailed_iff]
  simp only [hf]

theorem lampPass_failedCondition (st : LampSettings) (s : State) : FailedCondition (lampPass st s) := by
  intro _ _
  rw [lampPass_failed, lampPass_telltales, passBuiltIn_failed]

theorem lampRounds_failedCondition (st : LampSettings) (n : Nat) : ∀ s, FailedCondition (lampRounds (n + 1) st s) := by
  induction n with
  | zero =>
    intro s
    simp only [lampRounds, ite_self]
    exact lampPass_failedCondition st s
  | succ n ih =>
    intro s
    rw [lampRounds]
    split
    · exact lampPass_failedCondition st s
    · exact ih _

/-- What stage 3 and the notices of R117 and the chimes leave as the rounds have left it. -/
structure ResolutionKept (s t : State) : Prop where
  builtIn : t.lamps.builtIn = s.lamps.builtIn
  resolved : ∀ i : Fin 40, t.lamps.telltales[i].resolved = s.lamps.telltales[i].resolved
  failed : ∀ i : Fin 40, t.lamps.telltales[i].failed = s.lamps.telltales[i].failed
  condition : t.cond .telltaleFailed = s.cond .telltaleFailed

theorem ResolutionKept.of_lamps (h : t.lamps = s.lamps) (hc : t.conditions = s.conditions) : ResolutionKept s t :=
  ⟨by rw [h], fun _ => by rw [h], fun _ => by rw [h], by simp only [State.cond, hc]⟩

theorem ResolutionKept.trans {u : State} (a : ResolutionKept s t) (b : ResolutionKept t u) : ResolutionKept s u :=
  ⟨b.builtIn.trans a.builtIn, fun i => (b.resolved i).trans (a.resolved i), fun i => (b.failed i).trans (a.failed i), b.condition.trans a.condition⟩

theorem showOne_resolved (s : State) (d : TelltaleDesc) (x : Telltale) : (showOne s d x).resolved = x.resolved := rfl
theorem showOne_failed (s : State) (d : TelltaleDesc) (x : Telltale) : (showOne s d x).failed = x.failed := rfl

theorem showAll_get (st : LampSettings) (s : State) (i : Fin 40) :
    (showAll st s).lamps.telltales[i] = showOne s st.telltales[i] s.lamps.telltales[i] := by
  rw [showAll, State.setLamps_lamps, Fin.getElem_fin, Vector.getElem_ofFn]

theorem resolutionKept_showAll (st : LampSettings) (s : State) : ResolutionKept s (showAll st s) where
  builtIn := by rw [showAll, State.setLamps_lamps]
  resolved i := by rw [showAll_get, showOne_resolved]
  failed i := by rw [showAll_get, showOne_failed]
  condition := by rw [showAll, cond_setLamps]

theorem telltaleNotices_conditions (before : Vector Telltale 40) (s : State) : (telltaleNotices before s).conditions = s.conditions := by
  unfold telltaleNotices
  refine forAll_keeps (P := fun t => t.conditions = s.conditions) _ (fun i t ht => ?_) s rfl
  split
  · simpa using ht
  · exact ht

theorem resolutionKept_telltaleNotices (before : Vector Telltale 40) (s : State) : ResolutionKept s (telltaleNotices before s) :=
  .of_lamps (telltaleNotices_lamps before s).1 (telltaleNotices_conditions before s)

theorem resolutionKept_settleChimes (s : State) : ResolutionKept s (settleChimes s) := by
  unfold settleChimes
  split
  · exact .of_lamps rfl rfl
  · exact ⟨rfl, fun _ => rfl, fun _ => rfl, rfl⟩

theorem resolutionKept_cycleNotice (before s : State) : ResolutionKept s (cycleNotice before s) := by
  unfold cycleNotice
  split
  · exact .of_lamps rfl rfl
  · exact .of_lamps rfl rfl

/-- The end of an event stands resolved as the rounds of passes have left it. -/
theorem resolutionKept_finishEvent {st : LampSettings} (before : State) (hs : s.lamps.settings = some st) :
    ResolutionKept (lampRounds 3 st s) (finishEvent before s) := by
  have lamps : ResolutionKept (lampRounds 3 st s) (settleLamps true s) := by
    simp only [settleLamps, hs, if_true]
    exact (resolutionKept_showAll st _).trans (resolutionKept_telltaleNotices _ _)
  exact (lamps.trans (resolutionKept_settleChimes _)).trans (resolutionKept_cycleNotice before _)

theorem finishEvent_afterRounds {st : LampSettings} (before : State) (hs : s.lamps.settings = some st) :
    EventEnd (lampRounds 3 st s) (finishEvent before s) := by
  have lamps : EventEnd (lampRounds 3 st s) (settleLamps true s) := by
    simp only [settleLamps, hs, if_true]
    exact (showAll_eventEnd st _).trans (telltaleNotices_eventEnd _ _)
  exact (lamps.trans (settleChimes_eventEnd _)).trans (cycleNotice_eventEnd before _)

theorem finishEvent_resolved (before : State) (hn : LampsNormal s) : ClaimsResolved (finishEvent before s) := by
  intro st hst
  have hs : s.lamps.settings = some st := (finishEvent_eventEnd before s).lamps.settings.symm.trans hst
  obtain ⟨c, rfl⟩ := hn st hs
  have kept := resolutionKept_finishEvent before hs
  exact (lampRounds_resolved hs).congr (finishEvent_afterRounds before hs).inputs kept.builtIn kept.resolved kept.failed kept.condition _ hst

theorem finishEvent_failedCondition (before s : State) : FailedCondition (finishEvent before s) := by
  intro st hst
  have hs : s.lamps.settings = some st := (finishEvent_eventEnd before s).lamps.settings.symm.trans hst
  have kept := resolutionKept_finishEvent before hs
  exact (lampRounds_failedCondition st 2 s).congr (finishEvent_afterRounds before hs).lamps.settings kept.failed kept.condition _ hst

/-! ## Every step keeps the claims resolved -/

/-- A port whose frame has ended. -/
def endedPort (inLoad : Bool) (f : FrameExec) (x : PortState) : PortState :=
  resumeLinkTimer inLoad { x with exec := none, reply := some (replyFrame f.sequence .ok f.results) }

theorem finishFrame_eq (p : Port) (f : FrameExec) (s : State) :
    finishFrame p f s =
      if f.commit then startProgramming (setPort p (endedPort s.inLoad f (s.port p)) s) else setPort p (endedPort s.inLoad f (s.port p)) s := rfl

theorem endedPort_link (inLoad : Bool) (f : FrameExec) (x : PortState) : (endedPort inLoad f x).link = x.link := by
  unfold endedPort resumeLinkTimer
  split <;> rfl

/-- The end of a frame changes its port and the store alone. -/
theorem finishFrame_form (p : Port) (f : FrameExec) (s : State) : ∃ x y, finishFrame p f s = (s.setPorts x).setStore y := by
  rw [finishFrame_eq]
  split
  · exact ⟨_, _, rfl⟩
  · exact ⟨(setPort p (endedPort s.inLoad f (s.port p)) s).ports, s.store, rfl⟩

theorem link_finishFrame (p q : Port) (f : FrameExec) (s : State) : ((finishFrame p f s).port q).link = (s.port q).link := by
  have port : (finishFrame p f s).port q = (setPort p (endedPort s.inLoad f (s.port p)) s).port q := by
    rw [finishFrame_eq]
    split <;> rfl
  rw [port, port_setPort]
  split
  next h => rw [h, endedPort_link]
  · rfl

theorem finishFrame_inputs (p : Port) (f : FrameExec) (s : State) : SameInputs s (finishFrame p f s) := by
  have fallback : (finishFrame p f s).fallbackOn = s.fallbackOn := by
    obtain ⟨x, y, h⟩ := finishFrame_form p f s
    rw [State.fallbackOn, link_finishFrame, State.fallbackOn, h]
    rfl
  obtain ⟨x, y, h⟩ := finishFrame_form p f s
  rw [h] at fallback ⊢
  exact ⟨rfl, rfl, fun _ _ => rfl, fallback, rfl, fun _ => ⟨rfl, rfl, rfl⟩⟩

theorem resolutionKept_finishFrame (p : Port) (f : FrameExec) (s : State) : ResolutionKept s (finishFrame p f s) := by
  obtain ⟨x, y, h⟩ := finishFrame_form p f s
  rw [h]
  exact .of_lamps rfl rfl

theorem claimsResolved_establishedAtEnd : EstablishedAtEnd LampsNormal ClaimsResolved where
  settings h := h.lamps
  finish before _ hn := finishEvent_resolved before hn
  frame p f u h := by
    have kept := resolutionKept_finishFrame p f u
    exact h.congr (finishFrame_inputs p f u) kept.builtIn kept.resolved kept.failed kept.condition
  reset strap u := by
    rintro st ⟨⟩

/-- What every step leaves of what is shown: telltales shown and driven as their patterns give, and TELLTALE_FAILED as the flags give it. -/
theorem shown_establishedAtEnd : EstablishedAtEnd (fun _ => True) (fun s => LampsSettled s ∧ FailedCondition s) where
  settings _ h := h
  finish before u _ := ⟨finishEvent_settled before u, finishEvent_failedCondition before u⟩
  frame p f u h := by
    obtain ⟨shown, failed⟩ := h
    have kept := resolutionKept_finishFrame p f u
    refine ⟨?_, failed.congr (finishFrame_inputs p f u).settings kept.failed kept.condition⟩
    obtain ⟨x, y, h⟩ := finishFrame_form p f u
    rw [h]
    exact shown.congr rfl rfl rfl rfl rfl
  reset strap u := by
    constructor
    · rintro st ⟨⟩
    · rintro st ⟨⟩

theorem step_lampsNormal {s t : State} (hn : LampsNormal s) (k : step s = .next t) : LampsNormal t := (step_forms k).lamps hn

end

/-! ## The property of R122 -/

section
variable {s : State}

theorem resolvePatterns_ne_off {l : List Pattern} : resolvePatterns l ≠ .off ↔ ∃ p ∈ l, p ≠ .off := by
  unfold resolvePatterns
  constructor
  · intro h
    repeat' split at h
    case isFalse.isFalse.isFalse.isFalse => exact absurd rfl h
    all_goals rename_i hc; exact ⟨_, by simpa using hc, by decide⟩
  · rintro ⟨p, hp, hne⟩
    cases p with
    | off => exact absurd rfl hne
    | follow => repeat' split
                all_goals simp_all
    | on => repeat' split
            all_goals simp_all
    | slow => repeat' split
              all_goals simp_all
    | fast => simp_all

theorem resolveOne_ne_off {d : TelltaleDesc} {b : BuiltInClaims} {i : Fin 40} {x : Telltale} :
    resolveOne s d b i x ≠ .off ↔
      b.any i = true ∨ ∃ k : Fin 4, telltaleClaim s d x k = true ∧ d.claims[k].pattern x.patterns ≠ .off := by
  rw [resolveOne, resolvePatterns_ne_off]
  simp only [List.mem_append, List.mem_map, List.mem_filter, List.mem_finRange, true_and]
  constructor
  · rintro ⟨p, hb | ⟨k, hk, rfl⟩, hne⟩
    · exact .inl (by_contra fun h => by simp [h] at hb)
    · exact .inr ⟨k, hk, hne⟩
  · rintro (hb | ⟨k, hk, hne⟩)
    · exact ⟨.on, .inl (by simp [hb]), by decide⟩
    · exact ⟨_, .inr ⟨k, hk, rfl⟩, hne⟩

/-- An active claim of a normalised telltale carries a pattern that is not OFF (R110, R115). -/
theorem normalTelltaleClaim_pattern {x : Claim} {w : PortPatterns} {l : Bool}
    (h : (normalTelltaleClaim x).active s (fun p => w.of p != .off) l = true) : (normalTelltaleClaim x).pattern w ≠ .off := by
  cases x with
  | absent => simp [normalTelltaleClaim, Claim.active] at h
  | port p => simpa [normalTelltaleClaim, Claim.active, Claim.pattern] using h
  | signal e t th hy p =>
    by_cases hp : p = .off
    · simp [normalTelltaleClaim, hp, Claim.active] at h
    · simp [normalTelltaleClaim, hp, Claim.pattern]
  | switch i p =>
    by_cases hp : p = .off
    · simp [normalTelltaleClaim, hp, Claim.active] at h
    · simp [normalTelltaleClaim, hp, Claim.pattern]
  | condition c p =>
    by_cases hp : p = .off
    · simp [normalTelltaleClaim, hp, Claim.active] at h
    · simp only [normalTelltaleClaim, if_neg hp, Claim.pattern]
      split
      · decide
      · exact hp

theorem telltaleClaim_pattern {c : Configuration} {i : Fin 40} {x : Telltale} {k : Fin 4}
    (h : telltaleClaim s (lampSettings c.normal).telltales[i] x k = true) :
    (lampSettings c.normal).telltales[i].claims[k].pattern x.patterns ≠ .off := by
  unfold telltaleClaim at h
  rw [lampSettings_telltale, normalTelltale_claim] at h ⊢
  split at h
  · simp [Claim.active] at h
  · split at h
    · simp [Claim.active] at h
    next h1 h2 =>
      rw [if_neg h1, if_neg h2]
      exact normalTelltaleClaim_pattern h

/-- A telltale is resolved to a pattern exactly while it has an active claim, of its descriptor or built in. -/
theorem resolved_ne_off_iff {c : Configuration} (hr : ClaimsResolved s) (hs : s.lamps.settings = some (lampSettings c.normal)) (i : Fin 40) :
    s.lamps.telltales[i].resolved ≠ .off ↔
      s.lamps.builtIn.any i = true ∨ ∃ k, telltaleClaim s (lampSettings c.normal).telltales[i] s.lamps.telltales[i] k = true := by
  obtain ⟨each, -⟩ := hr _ hs
  rw [(each i).1, resolveOne_ne_off]
  exact or_congr_right (exists_congr fun k => ⟨And.left, fun hk => ⟨hk, telltaleClaim_pattern hk⟩⟩)

/-- The built-in TELLTALE_FAILED claim follows the condition. -/
theorem ClaimsResolved.failedClaim {st : LampSettings} (hr : ClaimsResolved s) (hs : s.lamps.settings = some st) :
    s.lamps.builtIn.failed = s.cond .telltaleFailed := by
  obtain ⟨-, builtIn⟩ := hr _ hs
  generalize judgeBuiltIn s st s.lamps.telltales s.lamps.builtIn = j at builtIn
  rw [builtIn]

theorem Claim.active_of_namesFailed {x : Claim} (hx : x.namesFailed = true) (w : Port → Bool) (l : Bool) :
    x.active s w l = s.cond .telltaleFailed := by
  cases x with
  | condition c p =>
    obtain rfl : c = .telltaleFailed := by simpa [Claim.namesFailed] using hx
    rfl
  | absent | signal | switch | port => simp [Claim.namesFailed] at hx

/-- While the driver of a claimed mandatory lamp is in SHORT or LATCHED, TELLTALE_FAILED is raised: its flag is set, unless the one claim is that
of the condition itself. -/
theorem failed_of_short {st : LampSettings} (hr : ClaimsResolved s) (hf : FailedCondition s) (hs : s.lamps.settings = some st) {i : Fin 40}
    (render : st.telltales[i].render = .lamp) (mandatory : st.telltales[i].lampClass = .mandatory)
    (short : s.lamps.telltales[i].fault.isShort = true)
    (claimed : s.lamps.builtIn.any i = true ∨ ∃ k, telltaleClaim s st.telltales[i] s.lamps.telltales[i] k = true) :
    s.cond .telltaleFailed = true := by
  obtain ⟨each, -⟩ := hr _ hs
  have flag := (each i).2
  have raised (h : s.lamps.builtIn.other i = true ∨
      ∃ k : Fin 4, telltaleClaim s st.telltales[i] s.lamps.telltales[i] k = true ∧ st.telltales[i].claims[k].namesFailed = false) :
      s.cond .telltaleFailed = true := by
    rw [hf st hs, anyFailed_iff]
    refine ⟨i, ?_⟩
    rw [flag, failedFlag, render, mandatory, short]
    rcases h with h | ⟨k, hk, hn⟩
    · simp [h]
    · simpa using .inr ⟨k, hk, by simpa using hn⟩
  rcases claimed with builtIn | ⟨k, hk⟩
  · cases other : s.lamps.builtIn.other i
    · rw [BuiltInClaims.any, other, Bool.false_or, Bool.and_eq_true] at builtIn
      rw [← hr.failedClaim hs]
      exact builtIn.2
    · exact raised (.inl other)
  · cases names : st.telltales[i].claims[k].namesFailed
    · exact raised (.inr ⟨k, hk, names⟩)
    · rw [← Claim.active_of_namesFailed names]
      exact hk

theorem gated_run_ne_off {d : TelltaleDesc} {w : Bool} {p : Pattern} (h : p ≠ .off) : gated .run d (bulbChecked w d p) ≠ .off := by
  show bulbChecked w d p ≠ .off
  unfold bulbChecked
  split
  · decide
  · exact h

theorem mandatory_shown {st : LampSettings} (hl : LampsSettled s) (hs : s.lamps.settings = some st) (hc : s.cycle.state = .run) {i : Fin 40}
    (h : s.lamps.telltales[i].resolved ≠ .off) : s.lamps.telltales[i].shown ≠ .off := by
  rw [(hl st hs i).1, hc]
  exact gated_run_ne_off h



theorem mem_aggregated {st : LampSettings} {ts : Vector Telltale 40} {f : Fin 40 → TelltaleDesc → Bool} :
    someActive st ts f = true ↔ ∃ i : Fin 40, ts[i].resolved ≠ .off ∧ f i st.telltales[i] = true := by
  simp [someActive]

theorem failedFlag_iff (d : TelltaleDesc) (b : BuiltInClaims) (i : Fin 40) (x : Telltale) :
    failedFlag s d b i x = true ↔
      d.render = .lamp ∧ d.lampClass = .mandatory ∧ (x.fault = .short ∨ x.fault = .latched) ∧
        ((i = 0 ∧ (b.stop = true ∨ b.fallback0 = true)) ∨ (i = 1 ∧ (b.check = true ∨ b.fallback1 = true)) ∨
          ∃ k : Fin 4, telltaleClaim s d x k = true ∧ ∀ p, d.claims[k] ≠ .condition .telltaleFailed p) := by
  have short : x.fault.isShort = true ↔ x.fault = .short ∨ x.fault = .latched := by cases x.fault <;> simp [DriverFault.isShort]
  have names (y : Claim) : y.namesFailed = false ↔ ∀ p, y ≠ .condition .telltaleFailed p := by
    cases y <;> simp [Claim.namesFailed]
  simp only [failedFlag, BuiltInClaims.other, Bool.and_eq_true, Bool.or_eq_true, beq_iff_eq, short, List.any_eq_true, List.mem_finRange, true_and,
    Bool.not_eq_true', names]
  tauto

end

/-- Settles O10: the passes of R117 end resolved in the second at the latest, since under R110 no aggregated telltale and no FAILED flag depends on
TELLTALE_FAILED; the end of a frame keeps what they leave. -/
theorem resolvedKept : Obligations.ResolvedKept := by
  unfold Obligations.ResolvedKept
  refine ⟨fun s t ⟨hn, hr⟩ k => ⟨step_lampsNormal hn k, claimsResolved_establishedAtEnd.step hn hr k⟩, ?_, ?_, ?_⟩
  · intro s st i hn hr hl hf hs hc render mandatory claimed
    obtain ⟨c, rfl⟩ := hn st hs
    have active (j : Fin 40) := resolved_ne_off_iff hr hs j
    have resolved : s.lamps.telltales[i].resolved ≠ .off := by
      rcases claimed with h | h | h
      · exact h
      · exact (active i).2 (.inr h)
      · exact (active i).2 (.inl h)
    have output := (hl _ hs i).2
    refine ⟨mandatory_shown hl hs hc resolved, fun ok => ?_, fun short => ?_⟩
    · rw [output, render, ok]
      generalize s.lamps.telltales[i].shown = p
      cases p <;> simp [TelltaleUnit.lit]
    · have raised := failed_of_short hr hf hs render mandatory short ((active i).1 resolved)
      refine ⟨by rw [output, short]; simp, raised, (active 0).2 (.inl ?_)⟩
      rw [BuiltInClaims.any, hr.failedClaim hs, raised]
      simp
  · intro s st ts b
    have fallback : s.fallbackOn = true ↔ s.cycle.state = .run ∧ (s.port .dlink).link = .lost := by simp [State.fallbackOn]
    have notRed (x : Colour) : x ≠ .red ↔ x = .amber ∨ x = .other := by cases x <;> simp
    refine ⟨?_, ?_, ?_, ?_, rfl⟩
    all_goals simp [judgeBuiltIn, mem_aggregated, fallback, and_assoc, notRed]
  · exact fun s d b i x => failedFlag_iff d b i x

end Sys2Proof.Machine
end

section
/-! Proofs: the sounder arbiter's choice and the chimes settled at the end of every event (R128 to R132). -/

namespace Sys2Proof.Machine

/-! ## The arbiter's choice -/

section
variable {st : LampSettings} {active : Fin 8 → Bool}

/-- Among the channels of a list, the active one of the highest priority, the lowest channel among the equals (R129). -/
def Chosen (st : LampSettings) (active : Fin 8 → Bool) (l : List (Fin 8)) (i : Fin 8) : Prop :=
  i ∈ l ∧ active i = true ∧
    ∀ j ∈ l, active j = true → st.chimes[j].priority < st.chimes[i].priority ∨ (st.chimes[j].priority = st.chimes[i].priority ∧ i ≤ j)

/-- The better of a choice and a channel behind it. -/
def betterChime (st : LampSettings) (active : Fin 8 → Bool) (best : Option (Fin 8)) (i : Fin 8) : Option (Fin 8) :=
  if active i then
    match best with
    | none => some i
    | some j => if st.chimes[j].priority < st.chimes[i].priority then some i else some j
  else best

theorem bestChime_eq : bestChime st active = (List.finRange 8).foldl (betterChime st active) none := rfl

theorem Chosen.unique {l : List (Fin 8)} {i j : Fin 8} (hi : Chosen st active l i) (hj : Chosen st active l j) : i = j := by
  obtain ⟨mi, ai, bi⟩ := hi
  obtain ⟨mj, aj, bj⟩ := hj
  have h := bi j mj aj
  have k := bj i mi ai
  omega

/-- What the fold over a list of rising channels ends with. -/
def FoldChosen (st : LampSettings) (active : Fin 8 → Bool) (l : List (Fin 8)) : Option (Fin 8) → Prop
  | none => ∀ j ∈ l, active j = false
  | some i => Chosen st active l i

theorem foldChosen_append {l : List (Fin 8)} {x : Fin 8} (hx : ∀ j ∈ l, j < x) {best : Option (Fin 8)} (h : FoldChosen st active l best) :
    FoldChosen st active (l ++ [x]) (betterChime st active best x) := by
  cases hax : active x with
  | false =>
    simp only [betterChime, hax]
    cases best with
    | none =>
      rintro j hj
      rcases List.mem_append.1 hj with hj | hj
      · exact h j hj
      · rwa [List.mem_singleton.1 hj]
    | some i =>
      obtain ⟨mem, act, top⟩ := h
      exact ⟨by simp [mem], act, by simpa [hax, or_imp, forall_and] using top⟩
  | true =>
    simp only [betterChime, hax, if_true]
    cases best with
    | none => exact ⟨by simp, hax, by grind [FoldChosen]⟩
    | some i =>
      obtain ⟨mem, act, top⟩ := h
      have below := hx i mem
      by_cases hp : st.chimes[i].priority < st.chimes[x].priority
      · have best : Chosen st active (l ++ [x]) x := ⟨by simp, hax, by grind⟩
        simpa only [hp, if_true, FoldChosen] using best
      · have best : Chosen st active (l ++ [x]) i := ⟨by simp [mem], act, by grind⟩
        simpa only [hp, if_false, FoldChosen] using best

theorem foldChosen_foldl {l : List (Fin 8)} : l.Pairwise (· < ·) → FoldChosen st active l (l.foldl (betterChime st active) none) := by
  induction l using List.reverseRecOn with
  | nil => simp [FoldChosen]
  | append_singleton l x ih =>
    intro h
    rw [List.pairwise_append] at h
    obtain ⟨hl, -, hx⟩ := h
    rw [List.foldl_append]
    exact foldChosen_append (fun j hj => hx j hj x (by simp)) (ih hl)

theorem bestChime_spec : FoldChosen st active (List.finRange 8) (bestChime st active) := by
  rw [bestChime_eq]
  exact foldChosen_foldl (List.pairwise_lt_finRange 8)

end

section
variable {st : LampSettings} {s : State}

theorem arbitrated_iff_chosen {i : Fin 8} :
    Arbitrated st s i ↔ s.cycle.state = .run ∧ Chosen st (chimeActive s st) (List.finRange 8) i := by
  simp [Arbitrated, Chosen]

/-- The arbiter's choice (R129, R132). -/
theorem arbiterChoice_iff {i : Fin 8} : arbiterChoice st s = some i ↔ Arbitrated st s i := by
  have spec := bestChime_spec (st := st) (active := chimeActive s st)
  rw [arbitrated_iff_chosen, arbiterChoice]
  split
  next hr =>
    simp only [hr, true_and]
    constructor
    · intro h
      rw [h] at spec
      exact spec
    · intro h
      cases hb : bestChime st (chimeActive s st) with
      | none =>
        rw [hb] at spec
        obtain ⟨mem, act, -⟩ := h
        simp [spec i mem] at act
      | some j =>
        rw [hb] at spec
        rw [spec.unique h]
  next hr => simp [hr]

theorem Arbitrated.unique {i j : Fin 8} (hi : Arbitrated st s i) (hj : Arbitrated st s j) : i = j :=
  (arbitrated_iff_chosen.1 hi).2.unique (arbitrated_iff_chosen.1 hj).2

/-- In RUN one of the active chimes is chosen. -/
theorem exists_arbitrated (hr : s.cycle.state = .run) {j : Fin 8} (hj : chimeActive s st j = true) : ∃ i, Arbitrated st s i := by
  have spec := bestChime_spec (st := st) (active := chimeActive s st)
  cases hb : bestChime st (chimeActive s st) with
  | none =>
    rw [hb] at spec
    simp [spec j (by simp)] at hj
  | some i =>
    rw [hb] at spec
    exact ⟨i, arbitrated_iff_chosen.2 ⟨hr, spec⟩⟩

end

/-! ## One chime settled -/

section
variable {d : ChimeDesc} {c : Chime} {chosen inRun : Bool}

theorem Chime.settle_unclaimed :
    c.settle d false chosen inRun =
      { c with served := false, state := .quiet, phase := .none, count := if inRun = false ∧ c.state = .playing then 0 else c.count } := by
  simp [Chime.settle]

theorem Chime.settle_served (h : c.served = true) : c.settle d true chosen inRun = { c with state := .served, phase := .none } := by
  simp [Chime.settle, h]

theorem Chime.settle_plays (h : c.served = false) (hp : c.state = .playing) : c.settle d true true inRun = c := by
  simp [Chime.settle, h, hp]

theorem Chime.settle_starts (h : c.served = false) (hp : c.state ≠ .playing) :
    c.settle d true true inRun = { c with state := .playing, count := 0, phase := .onTime } := by
  simp [Chime.settle, h, hp]

theorem Chime.settle_preempted (h : c.served = false) (hp : c.state = .playing) (hd : d.repetitions ≠ 0) :
    c.settle d true false true = { c with served := true, state := .served, phase := .none } := by
  simp [Chime.settle, h, hp, hd]

theorem Chime.settle_interrupted (h : c.served = false) (hp : c.state = .playing) (hd : inRun = false ∨ d.repetitions = 0) :
    c.settle d true false inRun = { c with state := .waiting, count := 0, phase := .none } := by
  rcases hd with hr | hd
  · simp [Chime.settle, h, hp, hr]
  · simp [Chime.settle, h, hp, hd]

theorem Chime.settle_waits (h : c.served = false) (hp : c.state ≠ .playing) :
    c.settle d true false inRun = { c with state := .waiting, phase := .none } := by
  simp [Chime.settle, h, hp]

/-- What settling makes of a claimed chime's state and served flag. -/
theorem Chime.settle_claimed :
    let y := c.settle d true chosen inRun
    (y.state = .served ↔ y.served = true) ∧ y.state ≠ .quiet ∧ (y.state = .playing ↔ c.served = false ∧ chosen = true) ∧
      (c.served = true → y.served = true) ∧ (c.served = false → chosen = true → y.served = false) := by
  intro y
  cases hs : c.served with
  | true => simp [y, Chime.settle_served hs, hs]
  | false =>
    cases chosen with
    | true =>
      by_cases hp : c.state = .playing
      · simp [y, Chime.settle_plays hs hp, hs, hp]
      · simp [y, Chime.settle_starts hs hp, hs]
    | false =>
      by_cases hp : c.state = .playing
      · by_cases hd : inRun = false ∨ d.repetitions = 0
        · simp [y, Chime.settle_interrupted hs hp hd, hs]
        · obtain ⟨hr, hf⟩ := not_or.1 hd
          obtain rfl : inRun = true := by simpa using hr
          simp [y, Chime.settle_preempted hs hp hf]
      · simp [y, Chime.settle_waits hs hp, hs]

end

/-! ## The chimes settled -/

section
variable {s t : State} {st : LampSettings}

theorem settleChimes_get (hs : s.lamps.settings = some st) (i : Fin 8) :
    (settleChimes s).lamps.chimes[i] =
      s.lamps.chimes[i].settle st.chimes[i] (chimeClaimed s st.chimes[i] s.lamps.chimes[i]) (arbiterChoice st s == some i)
        (s.cycle.state == .run) := by
  simp [settleChimes, hs]

theorem settleChimes_form (hs : s.lamps.settings = some st) : ∃ c, settleChimes s = s.setLamps { s.lamps with chimes := c } := by
  unfold settleChimes
  rw [hs]
  exact ⟨_, rfl⟩

/-- A chime is claimed as it was where what its claims are judged from stands as it was. -/
theorem chimeClaimed_congr (hsig : t.signals = s.signals) (hsw : t.switches = s.switches) (hc : t.conditions = s.conditions) (d : ChimeDesc)
    {x y : Chime} (hl : y.latches = x.latches) (hp : y.portClaims = x.portClaims) : chimeClaimed t d y = chimeClaimed s d x := by
  have claim : chimeClaim t d y = chimeClaim s d x := by
    funext k
    unfold chimeClaim
    rw [hl, hp]
    cases d.claims[k] <;> simp only [Claim.active, hsig, hsw, State.cond, hc]
  unfold chimeClaimed
  rw [claim]

theorem chimeClaimed_settleChimes (hs : s.lamps.settings = some st) (i : Fin 8) :
    chimeClaimed (settleChimes s) st.chimes[i] (settleChimes s).lamps.chimes[i] = chimeClaimed s st.chimes[i] s.lamps.chimes[i] := by
  obtain ⟨c, h⟩ := settleChimes_form hs
  have get := settleChimes_get hs i
  refine chimeClaimed_congr (by rw [h]; rfl) (by rw [h]; rfl) (by rw [h]; rfl) _ ?_ ?_
  · rw [get, Chime.settle_latches]
  · rw [get, Chime.settle_portClaims]

theorem chimeActive_iff {i : Fin 8} :
    chimeActive s st i = true ↔ chimeClaimed s st.chimes[i] s.lamps.chimes[i] = true ∧ s.lamps.chimes[i].served = false := by
  simp [chimeActive]

/-- Settling makes no chime active, and leaves the chosen one active, so that the choice stands. -/
theorem arbitrated_settleChimes (hs : s.lamps.settings = some st) (i : Fin 8) : Arbitrated st (settleChimes s) i ↔ Arbitrated st s i := by
  have cycle : (settleChimes s).cycle = s.cycle := (settleChimes_eventEnd s).cycle
  have claimed := chimeClaimed_settleChimes hs
  have get := settleChimes_get hs
  have active {j : Fin 8} (h : chimeActive (settleChimes s) st j = true) : chimeActive s st j = true := by
    rw [chimeActive_iff, claimed] at h
    obtain ⟨hc, hserved⟩ := h
    refine chimeActive_iff.2 ⟨hc, ?_⟩
    rw [get, hc] at hserved
    obtain ⟨-, -, -, stays, -⟩ := Chime.settle_claimed (d := st.chimes[j]) (c := s.lamps.chimes[j]) (chosen := arbiterChoice st s == some j)
      (inRun := s.cycle.state == .run)
    cases hj : s.lamps.chimes[j].served
    · rfl
    · rw [stays hj] at hserved
      exact hserved
  have chosen {j : Fin 8} (h : Arbitrated st s j) : Arbitrated st (settleChimes s) j := by
    obtain ⟨run, act, top⟩ := h
    refine ⟨by rw [cycle]; exact run, ?_, fun k hk => top k (active hk)⟩
    obtain ⟨hc, hserved⟩ := chimeActive_iff.1 act
    have pick : (arbiterChoice st s == some j) = true := by simpa using arbiterChoice_iff.2 ⟨run, act, top⟩
    rw [chimeActive_iff, claimed, get, hc, pick]
    obtain ⟨-, -, -, -, kept⟩ := Chime.settle_claimed (d := st.chimes[j]) (c := s.lamps.chimes[j]) (chosen := true)
      (inRun := s.cycle.state == .run)
    exact ⟨rfl, kept hserved rfl⟩
  refine ⟨fun h => ?_, chosen⟩
  obtain ⟨run, act, -⟩ := id h
  obtain ⟨j, hj⟩ := exists_arbitrated (cycle ▸ run) (active act)
  rw [Arbitrated.unique h (chosen hj)]
  exact hj

theorem settleChimes_settled (s : State) : ChimesSettled (settleChimes s) := by
  intro st hst i
  have hs : s.lamps.settings = some st := (settleChimes_eventEnd s).lamps.settings.symm.trans hst
  rw [chimeClaimed_settleChimes hs, arbitrated_settleChimes hs, settleChimes_get hs]
  have choice := arbiterChoice_iff (st := st) (s := s) (i := i)
  cases hc : chimeClaimed s st.chimes[i] s.lamps.chimes[i] with
  | false =>
    have idle : ¬ Arbitrated st s i := fun ⟨_, act, _⟩ => by simp [-Fin.getElem_fin, (chimeActive_iff.1 act).1] at hc
    simp [Chime.settle_unclaimed, idle]
  | true =>
    obtain ⟨served, quiet, playing, -, -⟩ := Chime.settle_claimed (d := st.chimes[i]) (c := s.lamps.chimes[i])
      (chosen := arbiterChoice st s == some i) (inRun := s.cycle.state == .run)
    refine ⟨by simp, by simpa using quiet, by simpa using served, playing.trans ?_⟩
    rw [beq_iff_eq, choice]
    exact ⟨And.right, fun h => ⟨(chimeActive_iff.1 h.2.1).2, h⟩⟩

/-- The chimes are settled where their claims, their states and the cycle state stand as in a state where they are. -/
theorem ChimesSettled.congr (h : ChimesSettled s) (hl : t.lamps = s.lamps) (hsig : t.signals = s.signals) (hsw : t.switches = s.switches)
    (hc : t.conditions = s.conditions) (hcy : t.cycle = s.cycle) : ChimesSettled t := by
  intro st hst i
  have claimed (d : ChimeDesc) (x : Chime) : chimeClaimed t d x = chimeClaimed s d x := chimeClaimed_congr hsig hsw hc d rfl rfl
  have arbitrated : Arbitrated st t i ↔ Arbitrated st s i := by simp only [Arbitrated, chimeActive, claimed, hl, hcy]
  rw [hl] at hst ⊢
  rw [claimed, arbitrated]
  exact h st hst i

theorem finishEvent_chimes (before s : State) : (finishEvent before s).lamps = (settleChimes (settleLamps true s)).lamps := by
  unfold finishEvent cycleNotice
  split <;> rfl

theorem finishEvent_chimesSettled (before s : State) : ChimesSettled (finishEvent before s) := by
  have settled := settleChimes_settled (settleLamps true s)
  unfold finishEvent cycleNotice
  split
  · exact settled
  · exact settled.congr rfl rfl rfl rfl rfl

theorem chimesSettled_establishedAtEnd : EstablishedAtEnd (fun _ => True) ChimesSettled where
  settings _ h := h
  finish before u _ := finishEvent_chimesSettled before u
  frame p f u h := by
    obtain ⟨x, y, e⟩ := finishFrame_form p f u
    rw [e]
    exact h.congr rfl rfl rfl rfl rfl
  reset strap u := by
    rintro st ⟨⟩

end

/-- Settles O11: the chimes are settled behind the telltales at the end of every event, the fold of the arbiter ends at the best active chime, and
settling leaves that choice standing. -/
theorem chimesSettledKept : Obligations.ChimesSettledKept := by
  unfold Obligations.ChimesSettledKept
  refine ⟨fun s t h k => chimesSettled_establishedAtEnd.step trivial h k, finishEvent_chimes, fun s st hs => ⟨settleChimes_form hs, fun i => ?_⟩⟩
  have get := settleChimes_get hs i
  have choice (h : Arbitrated st s i) : (arbiterChoice st s == some i) = true := by simpa using arbiterChoice_iff.2 h
  have noChoice (h : ¬ Arbitrated st s i) : (arbiterChoice st s == some i) = false := by simpa using mt arbiterChoice_iff.1 h
  have run : (s.cycle.state == .run) = true ↔ s.cycle.state = .run := beq_iff_eq
  dsimp only
  generalize hy : (settleChimes s).lamps.chimes[i] = y at get ⊢
  refine ⟨fun hc => ?_, fun hc served => ?_, fun h playing => ?_, fun h still => ?_, fun act h => ⟨fun playing hr hd => ?_, fun playing hr => ?_,
    fun still => ?_⟩⟩
  · rw [get, hc, Chime.settle_unclaimed]
    simp [and_comm]
  · rw [get, hc, Chime.settle_served served]
  · obtain ⟨hc, served⟩ := chimeActive_iff.1 h.2.1
    rw [get, hc, choice h, Chime.settle_plays served playing]
  · obtain ⟨hc, served⟩ := chimeActive_iff.1 h.2.1
    rw [get, hc, choice h, Chime.settle_starts served still]
  · obtain ⟨hc, served⟩ := chimeActive_iff.1 act
    rw [get, hc, noChoice h, run.2 hr, Chime.settle_preempted served playing hd]
  · obtain ⟨hc, served⟩ := chimeActive_iff.1 act
    rw [get, hc, noChoice h, Chime.settle_interrupted served playing (hr.imp (by simp) not_not.1)]
  · obtain ⟨hc, served⟩ := chimeActive_iff.1 act
    rw [get, hc, noChoice h, Chime.settle_waits served still]

end Sys2Proof.Machine
end

section
/-! Proofs: the claims judged, and the commands of the flashers, the drivers and the sounder (R111 to R117, R121 to R131). -/

namespace Sys2Proof.Machine

/-! ## A unit that stands resolved settles to itself -/

section
variable {s t : State} {st : LampSettings}

/-- Every telltale's shown pattern stands as its resolved pattern and the cycle state give it (R120). -/
def PatternsShown (s : State) : Prop :=
  ∀ st, s.lamps.settings = some st → ∀ i : Fin 40,
    s.lamps.telltales[i].shown =
      gated s.cycle.state st.telltales[i] (bulbChecked s.cycle.window.isRunning st.telltales[i] s.lamps.telltales[i].resolved)

theorem LampsSettled.patterns (h : LampsSettled s) : PatternsShown s := fun st hst i => (h st hst i).1

theorem firstResolved_idle (hr : ClaimsResolved s) (hs : s.lamps.settings = some st) : firstResolved st s = s.lamps.telltales := by
  obtain ⟨each, -⟩ := hr st hs
  ext1 i hi
  have get := firstResolved_get st s ⟨i, hi⟩
  rw [← (each ⟨i, hi⟩).1] at get
  exact get

theorem passBuiltIn_idle (hr : ClaimsResolved s) (hf : FailedCondition s) (hs : s.lamps.settings = some st) : passBuiltIn st s = s.lamps.builtIn := by
  obtain ⟨each, builtIn⟩ := hr st hs
  have eq := passBuiltIn_eq st s
  rw [firstResolved_idle hr hs] at eq
  generalize judgeBuiltIn s st s.lamps.telltales s.lamps.builtIn = j at builtIn eq
  have other (i : Fin 40) : (passBuiltIn st s).other i = s.lamps.builtIn.other i := by
    rw [builtIn, eq]
    simp only [BuiltInClaims.other]
  have flags (i : Fin 40) : (passTelltales st s)[i].failed = s.lamps.telltales[i].failed := by
    rw [passTelltales_failed, (each i).2]
    exact failedFlag_inputs (.refl s) (other i) rfl rfl rfl
  have failed : (passBuiltIn st s).failed = s.cond .telltaleFailed := by
    rw [passBuiltIn_failed, hf st hs, Bool.eq_iff_iff, anyFailed_iff, anyFailed_iff]
    simp only [flags]
  rw [builtIn, eq, failed]

theorem passTelltales_idle (hr : ClaimsResolved s) (hf : FailedCondition s) (hs : s.lamps.settings = some st) :
    passTelltales st s = s.lamps.telltales := by
  obtain ⟨each, -⟩ := hr st hs
  ext1 i hi
  have get := passTelltales_get st s ⟨i, hi⟩
  rw [passBuiltIn_idle hr hf hs, ← (each ⟨i, hi⟩).1, ← (each ⟨i, hi⟩).2] at get
  exact get

theorem lampPass_idle (hr : ClaimsResolved s) (hf : FailedCondition s) (hs : s.lamps.settings = some st) : lampPass st s = s := by
  rw [lampPass_eq, passTelltales_idle hr hf hs, passBuiltIn_idle hr hf hs]
  exact setCond_self (hr.failedClaim hs).symm

theorem lampRounds_idle (hr : ClaimsResolved s) (hf : FailedCondition s) (hs : s.lamps.settings = some st) (n : Nat) : lampRounds n st s = s := by
  cases n with
  | zero => rfl
  | succ n => simp [lampRounds, lampPass_idle hr hf hs]

theorem settleLamps_resolved (hr : ClaimsResolved s) (hf : FailedCondition s) (hs : s.lamps.settings = some st) :
    settleLamps true s = telltaleNotices s.lamps.telltales (showAll st s) := by
  simp only [settleLamps, hs, if_true, lampRounds_idle hr hf hs]

/-- What settling makes of a telltale of a unit that stands resolved: its output driven, and its open check started or stopped with it. -/
theorem settleUnits_telltale (hr : ClaimsResolved s) (hf : FailedCondition s) (hs : s.lamps.settings = some st) (i : Fin 40) :
    (settleUnits true s).lamps.telltales[i] = showOne s st.telltales[i] s.lamps.telltales[i] := by
  rw [settleUnits, settleChimes_telltales, settleLamps_resolved hr hf hs, (telltaleNotices_lamps _ _).1, showAll_get]

/-- A telltale whose pattern is shown as it stands has its output alone driven. -/
theorem showOne_shown (hp : PatternsShown s) (hs : s.lamps.settings = some st) (i : Fin 40) :
    showOne s st.telltales[i] s.lamps.telltales[i] =
      s.lamps.telltales[i].drive (lampOutput s.lamps st.telltales[i] s.lamps.telltales[i]) := by
  unfold showOne
  rw [← hp st hs i]

/-- Before its settings are taken the unit settles nothing. -/
theorem settleUnits_unset (hs : s.lamps.settings = none) : (settleUnits true s).lamps.telltales = s.lamps.telltales := by
  rw [settleUnits, settleChimes_telltales]
  simp only [settleLamps, hs]

theorem finishEvent_telltales (before s : State) : (finishEvent before s).lamps.telltales = (settleUnits true s).lamps.telltales := by
  rw [finishEvent_chimes]
  rfl

theorem settleUnits_same (hr : ClaimsResolved s) (hf : FailedCondition s) (hp : PatternsShown s) : SameShown s (settleUnits true s) := by
  intro i
  rcases hs : s.lamps.settings with _ | st
  · rw [settleUnits_unset hs]
    exact TelltaleDiffers.irrefl _
  · rw [settleUnits_telltale hr hf hs, showOne_shown hp hs]
    exact not_telltaleDiffers.2 ⟨rfl, rfl, rfl, rfl⟩

/-- The end of an event of a unit that stands resolved and shown reports nothing, where item 112 shows what it showed. -/
theorem finishEvent_silent (before : State) (hr : ClaimsResolved s) (hf : FailedCondition s) (hp : PatternsShown s)
    (hv : before.cycleView = s.cycleView) : (finishEvent before s).ports = s.ports := by
  have settled := settleUnits_idle (settleUnits_same hr hf hp)
  have view : (settleUnits true s).cycleView = s.cycleView := by
    rw [State.cycleView, (settleUnits_eventEnd true s).cycle, (settleUnits_eventEnd true s).conv]
    rfl
  unfold finishEvent cycleNotice
  rw [view, if_pos hv]
  exact settled

end

/-! ## The claims judged -/

section
variable (l : List Pattern)

theorem resolvePatterns_fast (h : .fast ∈ l) : resolvePatterns l = .fast := by simp [resolvePatterns, h]

theorem resolvePatterns_slow (hf : .fast ∉ l) (h : .slow ∈ l) : resolvePatterns l = .slow := by simp [resolvePatterns, hf, h]

theorem resolvePatterns_on (hf : .fast ∉ l) (hs : .slow ∉ l) (h : .on ∈ l) : resolvePatterns l = .on := by simp [resolvePatterns, hf, hs, h]

theorem resolvePatterns_rest (hf : .fast ∉ l) (hs : .slow ∉ l) (ho : .on ∉ l) :
    resolvePatterns l = if .follow ∈ l then .follow else .off := by simp [resolvePatterns, hf, hs, ho]

end

/-- The patterns that the active claims of a telltale carry, with the ON of a built-in one. -/
def carriedPatterns (s : State) (d : TelltaleDesc) (b : BuiltInClaims) (i : Fin 40) (x : Telltale) : List Pattern :=
  (if b.any i then [.on] else []) ++ ((List.finRange 4).filter (telltaleClaim s d x)).map fun k => d.claims[k].pattern x.patterns

theorem resolveOne_carried (s : State) (d : TelltaleDesc) (b : BuiltInClaims) (i : Fin 40) (x : Telltale) :
    resolveOne s d b i x = resolvePatterns (carriedPatterns s d b i x) := rfl

theorem mem_carriedPatterns {s : State} {d : TelltaleDesc} {b : BuiltInClaims} {i : Fin 40} {x : Telltale} {p : Pattern} :
    p ∈ carriedPatterns s d b i x ↔
      (∃ k : Fin 4, d.claims[k].active s (fun q => x.patterns.of q != .off) x.latches[k] = true ∧ d.claims[k].pattern x.patterns = p) ∨
      (p = .on ∧ b.any i = true) := by
  simp only [carriedPatterns, List.mem_append, List.mem_map, List.mem_filter, List.mem_finRange, true_and, telltaleClaim]
  cases b.any i <;> simp [or_comm]

theorem BuiltInClaims.any_iff (b : BuiltInClaims) (i : Fin 40) :
    b.any i = true ↔
      (i = 0 ∧ (b.stop = true ∨ b.fallback0 = true ∨ b.failed = true)) ∨ (i = 1 ∧ (b.check = true ∨ b.fallback1 = true)) := by
  simp only [BuiltInClaims.any, BuiltInClaims.other, Bool.or_eq_true, Bool.and_eq_true, beq_iff_eq]
  tauto

theorem presented_iff {s : State} {i : Fin 24} :
    s.switches.presented i = true ↔
      ∃ st l, s.switches.settings = some st ∧ s.switches.inputs[i].accepted = some l ∧ ((l == .high) == st.polarity i) = true := by
  unfold SwitchBank.presented SwitchBank.logical
  cases s.switches.settings <;> cases s.switches.inputs[i].accepted <;> simp [logicalOf]

/-- Settles O39: each kind of claim by its equation, and the resolution by the patterns that the active claims carry. -/
theorem claimsJudged : Obligations.ClaimsJudged := by
  unfold Obligations.ClaimsJudged
  refine ⟨fun v t h => by simp [judgeLatch], fun e e' test t h p v latch => by simp [Claim.judge], fun s written latch => ?_,
    fun s d b i x => ?_⟩
  · refine ⟨fun e t h p hp => by simp [Claim.active, hp], fun e test t h => by simp [Claim.active], fun i p => ?_, fun q => rfl, fun c p => rfl, rfl⟩
    exact presented_iff
  · have mem (p : Pattern) := mem_carriedPatterns (s := s) (d := d) (b := b) (i := i) (x := x) (p := p)
    simp only [BuiltInClaims.any_iff] at mem
    dsimp only
    rw [resolveOne_carried]
    refine ⟨fun hf => ?_, fun hf hs => ?_, fun hf hs ho => ?_, fun hf hs ho => ⟨fun hw => ?_, fun hw => ?_⟩⟩
    · exact resolvePatterns_fast _ ((mem _).2 (.inl hf))
    · exact resolvePatterns_slow _ (by simpa [mem] using hf) ((mem _).2 (.inl hs))
    · exact resolvePatterns_on _ (by simpa [mem] using hf) (by simpa [mem] using hs) ((mem _).2 (ho.imp_right fun h => ⟨rfl, h⟩))
    · rw [resolvePatterns_rest _ (by simpa [mem] using hf) (by simpa [mem] using hs) (by simpa [mem] using ho), if_pos ((mem _).2 (.inl hw))]
    · rw [resolvePatterns_rest _ (by simpa [mem] using hf) (by simpa [mem] using hs) (by simpa [mem] using ho), if_neg (by simpa [mem] using hw)]

/-! ## The flashers -/

section
variable {s u : State}

/-- The telltale unit's flashers as they may be. -/
def flashing (slow fast : Bool) (s : State) : State := s.setLamps { s.lamps with slowOn := slow, fastOn := fast }

theorem flashing_inputs (slow fast : Bool) (s : State) : SameInputs s (flashing slow fast s) :=
  ⟨rfl, rfl, fun _ _ => rfl, rfl, rfl, fun _ => ⟨rfl, rfl, rfl⟩⟩

/-- The phase of a flasher bears on the outputs alone: at the end of its event nothing is reported. -/
theorem flashing_silent (slow fast : Bool) (hr : ClaimsResolved s) (hl : LampsSettled s) (hf : FailedCondition s) :
    (finishEvent s (flashing slow fast s)).ports = s.ports :=
  finishEvent_silent s (hr.congr (flashing_inputs slow fast s) rfl (fun _ => rfl) (fun _ => rfl) rfl) (hf.congr rfl (fun _ => rfl) rfl)
    hl.patterns rfl

theorem flasher_completes {c : Instr} {slow fast : Bool} (hc : exec c s = .next (complete s (flashing slow fast s))) :
    Completes c s fun t =>
      EventEnd (flashing slow fast s) t ∧ LampsSettled t ∧
        (ClaimsResolved s → LampsSettled s → FailedCondition s → ∀ p, (t.port p).changes = (s.port p).changes) :=
  completes_finish hc ⟨finishEvent_eventEnd s _, finishEvent_settled s _, fun hr hl hf p => by
    simp only [State.port, flashing_silent slow fast hr hl hf]⟩

end

/-- Settles O40: a flasher's phase bears on the outputs alone, so that a unit that stands settled shows what it showed. -/
theorem flasherPhase : Obligations.FlasherPhase := by
  intro s
  exact ⟨flasher_completes (slow := !s.lamps.slowOn) (fast := s.lamps.fastOn) rfl,
    flasher_completes (slow := s.lamps.slowOn) (fast := !s.lamps.fastOn) rfl⟩

/-! ## The drivers -/

section
variable {s : State} {i : Fin 40} {y : Telltale}

/-- One telltale replaced. -/
def withTelltale (i : Fin 40) (y : Telltale) (s : State) : State := s.setLamps { s.lamps with telltales := s.lamps.telltales.set i y }



theorem withTelltale_get (i j : Fin 40) (y : Telltale) (s : State) :
    (withTelltale i y s).lamps.telltales[j] = if j = i then y else s.lamps.telltales[j] := by
  rw [withTelltale, State.setLamps_lamps, Fin.getElem_fin, Vector.getElem_set]
  by_cases h : j = i
  · simp [h]
  · simp [h, Fin.val_inj, Ne.symm h]

theorem putTelltale_eq (i : Fin 40) (y : Telltale) (s : State) :
    putTelltale i y s =
      if telltaleChanged s.lamps.telltales[i] y then raiseItem (telltaleItem i) (withTelltale i y s) else withTelltale i y s := rfl

theorem putTelltale_eventEnd (i : Fin 40) (y : Telltale) (s : State) : EventEnd (withTelltale i y s) (putTelltale i y s) := by
  rw [putTelltale_eq]
  split
  exacts [.raiseItem (not_ofTable_telltale i) _, .refl _]

theorem putTelltale_noticed (h : TelltaleDiffers s.lamps.telltales[i] y) : noticed (telltaleItem i) (putTelltale i y s) := by
  rw [putTelltale_eq, if_pos ((telltaleChanged_iff _ _).2 h)]
  exact noticed_raiseItem _ _

theorem putTelltale_lamps (i : Fin 40) (y : Telltale) (s : State) : (putTelltale i y s).lamps = (withTelltale i y s).lamps := by
  rw [putTelltale_eq]
  split <;> rfl

theorem putTelltale_conditions (i : Fin 40) (y : Telltale) (s : State) : (putTelltale i y s).conditions = s.conditions := by
  rw [putTelltale_eq]
  split <;> rfl

/-- A telltale replaced by one of the same claims and drivers. -/
theorem withTelltale_eventEnd {x : Telltale} (hl : y.latches = x.latches) (hp : y.patterns = x.patterns) (hf : y.fault = x.fault)
    (hr : y.retries = x.retries) (ht : y.retryTimer = x.retryTimer) : EventEnd (withTelltale i x s) (withTelltale i y s) := by
  have lamps : ClaimsKept (withTelltale i x s).lamps (withTelltale i y s).lamps := by
    refine ⟨rfl, rfl, rfl, fun j => ?_, fun j => ⟨rfl, rfl⟩⟩
    rw [withTelltale_get, withTelltale_get]
    split
    · exact ⟨hl, hp, hf, hr, ht⟩
    · exact ⟨rfl, rfl, rfl, rfl, rfl⟩
  exact ⟨rfl, rfl, rfl, rfl, rfl, rfl, rfl, rfl, rfl, rfl, fun _ _ => rfl, lamps, .of_ports rfl, .of_ports _ rfl⟩

theorem putTelltale_finished (before : State) (i : Fin 40) (y : Telltale) (s : State) :
    EventEnd (withTelltale i y s) (finishEvent before (putTelltale i y s)) := (putTelltale_eventEnd i y s).trans (finishEvent_eventEnd before _)

theorem putTelltale_reported (before : State) (h : TelltaleDiffers s.lamps.telltales[i] y) :
    noticed (telltaleItem i) (finishEvent before (putTelltale i y s)) := (putTelltale_noticed h).took (finishEvent_eventEnd before _).ports

theorem TelltaleDiffers.of_fault {a b : Telltale} (h : b.fault ≠ a.fault) : TelltaleDiffers a b := .inr (.inr (.inl h))

theorem Telltale.drive_self {x : Telltale} (h : x.openCheck = .stopped) : x.drive x.output = x := by
  have check : (if !x.output then .stopped else if x.output then x.openCheck else .running 20) = x.openCheck := by
    rw [h]
    cases x.output <;> rfl
  unfold Telltale.drive
  rw [check]

/-- Where the unit stands resolved and shown, the end of an event leaves a telltale with its driver judged anew as it is, but for its output. -/
theorem judgedDriver_kept {m : State} (hl : LampsSettled s) (hr : ClaimsResolved s) (hf : FailedCondition s)
    (hm : m.lamps = (withTelltale i y s).lamps) (e : EventEnd (withTelltale i y s) m) (hc : m.conditions = s.conditions)
    (latches : y.latches = s.lamps.telltales[i].latches) (patterns : y.patterns = s.lamps.telltales[i].patterns)
    (resolved : y.resolved = s.lamps.telltales[i].resolved) (failed : y.failed = s.lamps.telltales[i].failed)
    (shown : y.shown = s.lamps.telltales[i].shown) (short : y.fault.isShort = s.lamps.telltales[i].fault.isShort)
    (output : y.output = s.lamps.telltales[i].output) (stopped : y.openCheck = .stopped) : (finishEvent s m).lamps.telltales[i] = y := by
  have each {α : Type} (f : Telltale → α) (h : f y = f s.lamps.telltales[i]) (j : Fin 40) : f m.lamps.telltales[j] = f s.lamps.telltales[j] := by
    rw [hm, withTelltale_get]
    split
    next hj => rw [hj]; exact h
    · rfl
  have inputs : SameInputs s m := by
    refine ⟨e.signals, e.switches, e.conditions, by rw [e.inputs.fallback]; rfl, e.lamps.settings, fun j => ?_⟩
    exact ⟨each (·.latches) latches j, each (·.patterns) patterns j, each (·.fault.isShort) short j⟩
  have condition : m.cond .telltaleFailed = s.cond .telltaleFailed := by simp only [State.cond, hc]
  have resolved' : ClaimsResolved m := hr.congr inputs (by rw [hm]; rfl) (each (·.resolved) resolved) (each (·.failed) failed) condition
  have failed' : FailedCondition m := hf.congr inputs.settings (each (·.failed) failed) condition
  have here : m.lamps.telltales[i] = y := by rw [hm, withTelltale_get, if_pos rfl]
  rw [finishEvent_telltales]
  rcases hs : m.lamps.settings with _ | st
  · rw [settleUnits_unset hs, here]
  · have hst : s.lamps.settings = some st := inputs.settings.symm.trans hs
    obtain ⟨hshown, houtput⟩ := hl st hst i
    have patternsShown : PatternsShown m := fun st' hst' j => by
      rw [each (·.shown) shown j, each (·.resolved) resolved j, e.cycle]
      exact hl.patterns st' (inputs.settings.symm.trans hst') j
    have on : lampOutput m.lamps st.telltales[i] y = y.output := by
      rw [output, houtput, lampOutput, shown, short]
      simp only [TelltaleUnit.lit, e.lamps.slowOn, e.lamps.fastOn]
      rfl
    rw [settleUnits_telltale resolved' failed' hs, showOne_shown patternsShown hs, here, on]
    exact Telltale.drive_self stopped

/-- The output of a driver in SHORT or LATCHED stays off. -/
theorem shortedOutput_off {m : State} (off : m.lamps.telltales[i].output = false) (short : m.lamps.telltales[i].fault.isShort = true) :
    (finishEvent s m).lamps.telltales[i].output = false := by
  have e := finishEvent_eventEnd s m
  rcases hs : m.lamps.settings with _ | st
  · rw [finishEvent_telltales, settleUnits_unset hs, off]
  · obtain ⟨-, -, fault, -⟩ := e.lamps.telltales i
    rw [(finishEvent_settled s m st (e.lamps.settings.trans hs) i).2, fault, short]
    simp

/-- A short found at an output (R124). -/
theorem Telltale.foundShort_eq (x : Telltale) :
    x.foundShort =
      if x.retries < 3 then { x with output := false, openCheck := .stopped, fault := .short, retryTimer := .running 1000 }
      else { x with output := false, openCheck := .stopped, fault := .latched } := by
  unfold Telltale.foundShort Telltale.drive
  split <;> rfl

theorem Telltale.foundShort_off (x : Telltale) : x.foundShort.output = false ∧ x.foundShort.fault.isShort = true := by
  rw [Telltale.foundShort_eq]
  split <;> exact ⟨rfl, rfl⟩

theorem DriverFault.openCheck_eq (f : DriverFault) (mA : Nat) :
    f.openCheck mA = if f = .ok ∧ mA < 2 then .openLoad else if f = .openLoad ∧ 2 ≤ mA then .ok else f := by
  have low : ¬ mA < 2 ↔ 2 ≤ mA := by omega
  by_cases h : mA < 2
  · have hn : ¬ 2 ≤ mA := by omega
    cases f <;> simp [DriverFault.openCheck, h, hn]
  · have hn : 2 ≤ mA := by omega
    cases f <;> simp [DriverFault.openCheck, h, hn]

theorem DriverFault.openCheck_isShort (f : DriverFault) (mA : Nat) : (f.openCheck mA).isShort = f.isShort := by
  by_cases h : mA < 2 <;> cases f <;> simp [DriverFault.openCheck, DriverFault.isShort, h]

end

/-- Settles O41: the driver's judgement changes no FAILED flag and no pattern, so that a unit that stands settled keeps all else. -/
theorem openLoadJudged : Obligations.OpenLoadJudged := by
  intro i mA ms s hr
  dsimp only
  rw [← DriverFault.openCheck_eq]
  have running : s.lamps.telltales[i].openCheck.isRunning = true := by rw [hr]; rfl
  have done : exec (.openCheckTimerExpiry i mA) s = .next (complete s (putTelltale i
      { s.lamps.telltales[i] with openCheck := .stopped, fault := s.lamps.telltales[i].fault.openCheck mA } s)) := by
    show Host.Outcome.next (complete s (onOpenCheck i mA s)) = _
    simp only [onOpenCheck, running, if_true]
  have reported {f : DriverFault} (h : f ≠ s.lamps.telltales[i].fault) := putTelltale_reported (s := s) (i := i) s
    (.of_fault (b := { s.lamps.telltales[i] with openCheck := .stopped, fault := f }) h)
  refine ⟨completes_finish done ⟨putTelltale_finished s i _ s, reported⟩, fun hl hc hf => completes_finish done ⟨?_, reported⟩⟩
  exact judgedDriver_kept hl hc hf (putTelltale_lamps i _ s) (putTelltale_eventEnd i _ s) (putTelltale_conditions i _ s) rfl rfl rfl rfl rfl
    (DriverFault.openCheck_isShort _ mA) rfl rfl

/-- Settles O42: the short's telltale is put as it is found, and no output is driven while its driver is in SHORT or LATCHED. -/
theorem lampShort : Obligations.LampShort := by
  intro i s on
  dsimp only
  rw [← Telltale.foundShort_eq]
  obtain ⟨off, short⟩ := s.lamps.telltales[i].foundShort_off
  have done : exec (.lampShort i) s = .next (complete s (putTelltale i s.lamps.telltales[i].foundShort s)) := by
    show Host.Outcome.next (complete s (onShort i s)) = _
    simp only [onShort, on, if_true]
  generalize s.lamps.telltales[i].foundShort = y at off short done ⊢
  have here : (putTelltale i y s).lamps.telltales[i] = y := by rw [putTelltale_lamps, withTelltale_get, if_pos rfl]
  exact completes_finish done
    ⟨putTelltale_finished s i y s, shortedOutput_off (by rw [here, off]) (by rw [here, short]), fun h => putTelltale_reported s (.of_fault h)⟩

/-- A retry (R124), but for the output: the claims and the driver that it leaves. -/
theorem Telltale.retry_driver (lit shorted : Bool) (x : Telltale) :
    let again := lit && shorted
    let y : Telltale :=
      if again = false then { x with fault := .ok, retries := x.retries + 1, retryTimer := .stopped }
      else if x.retries + 1 < 3 then { x with fault := .short, retries := x.retries + 1, retryTimer := .running 1000 }
      else { x with fault := .latched, retries := x.retries + 1, retryTimer := .stopped }
    let z := x.retry lit shorted
    z.latches = y.latches ∧ z.patterns = y.patterns ∧ z.fault = y.fault ∧ z.retries = y.retries ∧ z.retryTimer = y.retryTimer := by
  cases lit with
  | false => exact ⟨rfl, rfl, rfl, rfl, rfl⟩
  | true =>
    cases shorted with
    | false => exact ⟨rfl, rfl, rfl, rfl, rfl⟩
    | true =>
      by_cases h : x.retries + 1 < 3
      · simp [Telltale.retry, Telltale.foundShort, Telltale.drive, h]
      · simp [Telltale.retry, Telltale.foundShort, Telltale.drive, h]

/-- Settles O43: the retry's telltale is put and reported whatever its turn-on finds. -/
theorem lampRetry : Obligations.LampRetry := by
  intro i shorted ms s hr
  dsimp only
  have driver := Telltale.retry_driver (lampLit i s) shorted s.lamps.telltales[i]
  have running : s.lamps.telltales[i].retryTimer.isRunning = true := by rw [hr]; rfl
  have done : exec (.retryTimerExpiry i shorted) s = .next (complete s
      (raiseItem (telltaleItem i) (putTelltale i (s.lamps.telltales[i].retry (lampLit i s) shorted) s))) := by
    show Host.Outcome.next (complete s (onRetry i shorted s)) = _
    simp only [onRetry, running, if_true]
  obtain ⟨latches, patterns, fault, retries, timer⟩ := driver
  refine completes_finish done ⟨?_, ?_, finishEvent_settled s _⟩
  · exact (withTelltale_eventEnd latches patterns fault retries timer).trans
      ((putTelltale_eventEnd i _ s).trans ((EventEnd.raiseItem (not_ofTable_telltale i) _).trans (finishEvent_eventEnd s _)))
  · exact (noticed_raiseItem _ _).took (finishEvent_eventEnd s _).ports

/-! ## The playing chime -/

section
variable {s : State} {st : LampSettings} {i : Fin 8} {y : Chime}

/-- One chime replaced. -/
def withChime (i : Fin 8) (y : Chime) (s : State) : State := s.setLamps { s.lamps with chimes := s.lamps.chimes.set i y }

theorem withChime_get (i j : Fin 8) (y : Chime) (s : State) : (withChime i y s).lamps.chimes[j] = if j = i then y else s.lamps.chimes[j] := by
  rw [withChime, State.setLamps_lamps, Fin.getElem_fin, Vector.getElem_set]
  by_cases h : j = i
  · simp [h]
  · simp [h, Fin.val_inj, Ne.symm h]

theorem withChime_eventEnd (hl : y.latches = s.lamps.chimes[i].latches) (hp : y.portClaims = s.lamps.chimes[i].portClaims) :
    EventEnd s (withChime i y s) := by
  refine .setLamps ⟨rfl, rfl, rfl, fun _ => ⟨rfl, rfl, rfl, rfl, rfl⟩, fun j => ?_⟩
  have get := withChime_get i j y s
  rw [withChime, State.setLamps_lamps] at get
  rw [get]
  split
  next h => rw [h]; exact ⟨hl, hp⟩
  · exact ⟨rfl, rfl⟩

theorem ChimesSettled.playing_unique (h : ChimesSettled s) (hs : s.lamps.settings = some st) {j : Fin 8} (hi : s.lamps.chimes[i].state = .playing)
    (hj : s.lamps.chimes[j].state = .playing) : j = i := by
  obtain ⟨-, -, -, pi⟩ := h st hs i
  obtain ⟨-, -, -, pj⟩ := h st hs j
  exact (pj.1 hj).unique (pi.1 hi)

theorem playingChime_settled (h : ChimesSettled s) (hs : s.lamps.settings = some st) (hi : s.lamps.chimes[i].state = .playing) :
    playingChime s = some i := by
  unfold playingChime
  cases hf : (List.finRange 8).find? fun j => s.lamps.chimes[j].state == .playing with
  | none =>
    have := List.find?_eq_none.1 hf i (List.mem_finRange i)
    simp [-Fin.getElem_fin, hi] at this
  | some j =>
    have := List.find?_some hf
    rw [h.playing_unique hs (j := j) hi (by simpa [-Fin.getElem_fin] using this)]

theorem settleLamps_chimes (hr : ClaimsResolved s) (hf : FailedCondition s) (hs : s.lamps.settings = some st) :
    (settleLamps true s).lamps.chimes = s.lamps.chimes ∧ (settleLamps true s).conditions = s.conditions := by
  rw [settleLamps_resolved hr hf hs, telltaleNotices_conditions, (telltaleNotices_lamps _ _).1]
  simp only [showAll, State.setLamps_lamps, State.setLamps_conditions, and_self]

/-- The end of the event that changes a playing chime, where the unit stands settled: the chime plays on or is SERVED. -/
theorem finishEvent_withChime (hs : s.lamps.settings = some st) (hp : s.lamps.chimes[i].state = .playing) (hc : ChimesSettled s)
    (hr : ClaimsResolved s) (hf : FailedCondition s) (latches : y.latches = s.lamps.chimes[i].latches)
    (portClaims : y.portClaims = s.lamps.chimes[i].portClaims) :
    (y.served = false → y.state = .playing → (finishEvent s (withChime i y s)).lamps.chimes[i] = y) ∧
    (y.served = true → (finishEvent s (withChime i y s)).lamps.chimes[i] = { y with state := .served, phase := .none }) := by
  obtain ⟨-, quiet, served, playing⟩ := hc st hs i
  have claimed : chimeClaimed s st.chimes[i] s.lamps.chimes[i] = true := by
    rw [← Bool.not_eq_false, ← quiet, hp]
    decide
  have arbitrated : Arbitrated st s i := playing.1 hp
  have hr' : ClaimsResolved (withChime i y s) := hr.congr (withChime_eventEnd latches portClaims).inputs rfl (fun _ => rfl) (fun _ => rfl) rfl
  have hf' : FailedCondition (withChime i y s) := hf.congr rfl (fun _ => rfl) rfl
  obtain ⟨chimes, conditions⟩ := settleLamps_chimes hr' hf' (st := st) hs
  have e := settleLamps_eventEnd true (withChime i y s)
  generalize hm : settleLamps true (withChime i y s) = m at chimes conditions e
  have here : m.lamps.chimes[i] = y := by rw [chimes, withChime_get, if_pos rfl]
  have claimedAs (j : Fin 8) : chimeClaimed m st.chimes[j] m.lamps.chimes[j] = chimeClaimed s st.chimes[j] s.lamps.chimes[j] := by
    refine chimeClaimed_congr e.signals e.switches conditions _ ?_ ?_
    all_goals
      rw [chimes, withChime_get]
      split
      next h => rw [h]; assumption
      · rfl
  have get := settleChimes_get (s := m) (e.lamps.settings.trans hs) i
  rw [claimedAs, claimed, here] at get
  rw [finishEvent_chimes, hm, get]
  refine ⟨fun hserved hstate => ?_, fun hserved => Chime.settle_served hserved⟩
  have servedAs (j : Fin 8) : m.lamps.chimes[j].served = s.lamps.chimes[j].served := by
    rw [chimes, withChime_get]
    split
    next h => rw [h, hserved, (chimeActive_iff.1 arbitrated.2.1).2]
    · rfl
  have activeAs (j : Fin 8) : chimeActive m st j = chimeActive s st j := by rw [chimeActive, claimedAs, servedAs, chimeActive]
  have chosen : Arbitrated st m i := by
    simp only [Arbitrated, activeAs, e.cycle]
    exact arbitrated
  have pick : (arbiterChoice st m == some i) = true := by simpa using arbiterChoice_iff.2 chosen
  rw [pick, Chime.settle_plays hserved hstate]

theorem changedChime_goesOn {c : Instr} (hs : s.lamps.settings = some st) (hp : s.lamps.chimes[i].state = .playing) (hc : ChimesSettled s)
    (hr : ClaimsResolved s) (hf : FailedCondition s) (hx : exec c s = .next (complete s (withChime i y s)))
    (latches : y.latches = s.lamps.chimes[i].latches) (portClaims : y.portClaims = s.lamps.chimes[i].portClaims) (served : y.served = false)
    (state : y.state = .playing) : Completes c s fun t => EventEnd s t ∧ ChimesSettled t ∧ t.lamps.chimes[i] = y :=
  completes_finish hx ⟨(withChime_eventEnd latches portClaims).trans (finishEvent_eventEnd s _), finishEvent_chimesSettled s _,
    (finishEvent_withChime hs hp hc hr hf latches portClaims).1 served state⟩

theorem changedChime_ends {c : Instr} (hs : s.lamps.settings = some st) (hp : s.lamps.chimes[i].state = .playing) (hc : ChimesSettled s)
    (hr : ClaimsResolved s) (hf : FailedCondition s) (hx : exec c s = .next (complete s (withChime i y s)))
    (latches : y.latches = s.lamps.chimes[i].latches) (portClaims : y.portClaims = s.lamps.chimes[i].portClaims) (served : y.served = true) :
    Completes c s fun t => EventEnd s t ∧ ChimesSettled t ∧ t.lamps.chimes[i] = { y with state := .served, phase := .none } :=
  completes_finish hx ⟨(withChime_eventEnd latches portClaims).trans (finishEvent_eventEnd s _), finishEvent_chimesSettled s _,
    (finishEvent_withChime hs hp hc hr hf latches portClaims).2 served⟩

theorem Chime.repetition_eq (d : ChimeDesc) (x : Chime) :
    let count := if x.count < 15 then x.count + 1 else 15
    x.repetition d =
      if d.repetitions ≠ 0 ∧ d.repetitions ≤ count then { x with count := count, served := true, phase := .none }
      else { x with count := count, phase := .onTime } := by
  have count : min 15 (x.count + 1) = if x.count < 15 then x.count + 1 else 15 := by split <;> omega
  simp [Chime.repetition, count]

theorem changePlaying_playing {phase : ChimePhase} {f : ChimeDesc → Chime → Chime} (hc : ChimesSettled s) (hs : s.lamps.settings = some st)
    (hp : s.lamps.chimes[i].state = .playing) (h : s.lamps.chimes[i].phase = phase) :
    changePlaying phase f s = withChime i (f st.chimes[i] s.lamps.chimes[i]) s := by
  unfold changePlaying
  rw [hs, playingChime_settled hc hs hp]
  exact if_pos h

theorem sounderTone_iff (hs : s.lamps.settings = some st) (hc : ChimesSettled s) (tone : Nat) :
    sounderTone s = some tone ↔
      ∃ i : Fin 8, s.lamps.chimes[i].state = .playing ∧ s.lamps.chimes[i].phase = .onTime ∧ tone = st.chimes[i].toneHz := by
  unfold sounderTone
  rw [hs, Option.bind_some]
  cases hf : (List.finRange 8).find? fun i => s.lamps.chimes[i].state == .playing && s.lamps.chimes[i].phase == .onTime with
  | none =>
    have silent := List.find?_eq_none.1 hf
    simp only [Option.map_none, reduceCtorEq, false_iff]
    rintro ⟨i, hp, ho, -⟩
    have := silent i (List.mem_finRange i)
    simp [-Fin.getElem_fin, hp, ho] at this
  | some j =>
    have found := List.find?_some hf
    simp only [Bool.and_eq_true, beq_iff_eq] at found
    simp only [Option.map_some, Option.some.injEq]
    constructor
    · exact fun h => ⟨j, found.1, found.2, h.symm⟩
    · rintro ⟨i, hp, -, rfl⟩
      rw [hc.playing_unique hs hp found.1]

end

/-- Settles O44: the playing chime is the arbiter's choice, which its next phase or count leaves standing; a chime whose repetitions are done is
SERVED as the chimes settle. -/
theorem chimeTimes : Obligations.ChimeTimes := by
  unfold Obligations.ChimeTimes
  refine ⟨fun i st s hs hp hc hr hn hl hf => ?_, fun st s hs hc tone => sounderTone_iff hs hc tone⟩
  obtain ⟨-, -, servedIff, playing⟩ := hc st hs i
  obtain ⟨claimed, unserved⟩ := chimeActive_iff.1 (playing.1 hp).2.1
  have repetition := Chime.repetition_eq st.chimes[i] s.lamps.chimes[i]
  dsimp only at repetition ⊢
  generalize hcount : (if s.lamps.chimes[i].count < 15 then s.lamps.chimes[i].count + 1 else 15) = count at repetition ⊢

  have onTime (h : s.lamps.chimes[i].phase = .onTime) :
      exec .chimeOnTimeExpiry s = .next (complete s (withChime i (s.lamps.chimes[i].endOnTime st.chimes[i]) s)) := by
    show Host.Outcome.next (complete s (changePlaying .onTime Chime.endOnTime s)) = _
    rw [changePlaying_playing hc hs hp h]
  have offTime (h : s.lamps.chimes[i].phase = .offTime) :
      exec .chimeOffTimeExpiry s = .next (complete s (withChime i (s.lamps.chimes[i].repetition st.chimes[i]) s)) := by
    show Host.Outcome.next (complete s (changePlaying .offTime Chime.repetition s)) = _
    rw [changePlaying_playing hc hs hp h]
  refine ⟨fun h hd => ?_, fun h hd hn => ?_, fun h hd hn => ?_, fun h hn => ?_, fun h hn => ?_⟩
  · have := onTime h
    rw [Chime.endOnTime, if_neg hd] at this
    exact changedChime_goesOn hs hp hc hr hf this rfl rfl unserved hp
  · have := onTime h
    rw [Chime.endOnTime, if_pos hd, repetition, if_neg hn] at this
    exact changedChime_goesOn hs hp hc hr hf this rfl rfl unserved hp
  · have := onTime h
    rw [Chime.endOnTime, if_pos hd, repetition, if_pos hn] at this
    exact changedChime_ends hs hp hc hr hf this rfl rfl rfl
  · have := offTime h
    rw [repetition, if_neg hn] at this
    exact changedChime_goesOn hs hp hc hr hf this rfl rfl unserved hp
  · have := offTime h
    rw [repetition, if_pos hn] at this
    exact changedChime_ends hs hp hc hr hf this rfl rfl rfl

end Sys2Proof.Machine
end

section
/-! Proofs: an acceptance in its two stages, with the wake cause and the ignition events that may follow it (R82 to R85, R151). -/

namespace Sys2Proof.Machine

/-! ## The telltale unit's part of an event, on its own -/

section
variable {s t u : State}

/-- The telltale unit's part of an event is the end of one that leaves item 112 as it is. -/
theorem finishEvent_settleUnits (s : State) : finishEvent (settleUnits true s) s = settleUnits true s := if_pos rfl

theorem settleUnits_lampsSettled (s : State) : LampsSettled (settleUnits true s) := finishEvent_settleUnits s ▸ finishEvent_settled _ s

theorem settleUnits_failedCondition (s : State) : FailedCondition (settleUnits true s) :=
  finishEvent_settleUnits s ▸ finishEvent_failedCondition _ s

theorem settleUnits_chimesSettled (s : State) : ChimesSettled (settleUnits true s) := settleChimes_settled _

theorem settleUnits_resolved (h : LampsNormal s) : ClaimsResolved (settleUnits true s) := finishEvent_settleUnits s ▸ finishEvent_resolved _ h

theorem settleUnits_reported (s : State) : TelltalesReported s (settleUnits true s) := .of_shown (settleUnits_shown s).1

theorem EventEnd.setCycle (h : EventEnd s t) (c : CycleController) : EventEnd (s.setCycle c) (t.setCycle c) := { h with cycle := rfl }

theorem TelltalesReported.congr {s' t' : State} (h : TelltalesReported s t) (hs : s'.lamps = s.lamps) (ht : t'.lamps = t.lamps)
    (ps : s'.ports = s.ports) (pt : t'.ports = t.ports) : TelltalesReported s' t' := by
  unfold TelltalesReported
  rw [hs, ht]
  exact ReportedOnly.congr ps pt h

/-! ## The wake cause of an acceptance -/

/-- Whether the change of an input's logical level hands the wake cause SWITCH (R85). -/
def wakes (wake : Bool) (before : Option Bool) (after : Bool) (s : State) : Bool := wake && before == some (!after) && s.cycle.state == .parked

/-- The wake cause SWITCH added to what the cycle controller holds. -/
def withCause (woken : Bool) (s : State) : State := s.setCycle { s.cycle with causeSwitch := s.cycle.causeSwitch || woken }

theorem withCause_false (s : State) : withCause false s = s := by
  unfold withCause
  rw [Bool.or_false]
  rfl

theorem wakeOf_eq (wake : Bool) (before : Option Bool) (after : Bool) (s : State) :
    wakeOf wake before after s = withCause (wakes wake before after s) s := by
  unfold wakeOf addWakeCause wakes
  by_cases h : (wake && before == some (!after)) = true
  · rw [if_pos h, h]
    by_cases k : s.cycle.state = .parked
    · simp [k, withCause]
    · rw [if_neg k, Bool.true_and, beq_false_of_ne k]
      exact (withCause_false s).symm
  · simp only [Bool.not_eq_true] at h
    rw [if_neg (by simp [h]), h, Bool.false_and]
    exact (withCause_false s).symm

/-! ## The stages of an acceptance -/

/-- What an acceptance makes of the bank. -/
def acceptedBank (i : Fin 24) (s : State) : SwitchBank :=
  { s.switches with
    inputs := s.switches.inputs.set i { s.switches.inputs[i] with accepted := some s.switches.inputs[i].raw, debounce := .stopped } }

/-- The part once an acceptance has been taken in its two stages. -/
def presentedState (i : Fin 24) (level : Bool) (s : State) : State :=
  presentLevel i { s.switches.inputs[i] with accepted := some s.switches.inputs[i].raw, debounce := .stopped } (deliverLevel i level s)

theorem Delivered.setSwitches {src : Source} {x : Update} (h : Delivered src x s t) (b : SwitchBank) :
    Delivered src x (s.setSwitches b) (t.setSwitches b) :=
  h.congr { h.table with switches := rfl } (.of_eq rfl rfl rfl) rfl rfl (.of_eq rfl rfl rfl) (.of_ports rfl)

theorem Delivered.setCauseSwitch {src : Source} {x : Update} (h : Delivered src x s t) (b : Bool) :
    Delivered src x (s.setCycle { s.cycle with causeSwitch := b }) (t.setCycle { t.cycle with causeSwitch := b }) :=
  h.congr { h.table with causeSwitch := rfl } (.of_eq rfl rfl rfl) rfl rfl (.of_eq rfl rfl rfl) (.of_ports rfl)

/-- The two stages of an acceptance (R82, R83, log 34): from `s` the update is delivered and taken at `m`, and the level presented and taken at
`u`. -/
structure Presented (i : Fin 24) (level : Bool) (s m u : State) : Prop where
  delivered : Delivered (.switch i) (levelUpdate level) s m
  entries : EntriesReported s m
  telltales : TelltalesReported s m
  settled : LampsSettled m ∧ ChimesSettled m
  ended : EventEnd (m.setSwitches (acceptedBank i s)) u
  reported : TelltalesReported m u
  shown : LampsSettled u ∧ ChimesSettled u
  failed : FailedCondition u
  resolved : LampsNormal s → ClaimsResolved u

theorem deliverLevel_reported (i : Fin 24) (level : Bool) (s : State) : TelltalesReported s (deliverLevel i level s) :=
  .after (.of_signalGauge (deliver_only _ _ s) fun _ h => h) (deliver_shown _ _ s) (settleUnits_reported _)

theorem presented_levels (i : Fin 24) (level : Bool) {s : State} (hc : s.cycle.state ≠ .load) :
    Presented i level s (deliverLevel i level s) (presentedState i level s) := by
  have delivered : Delivered (.switch i) (levelUpdate level) s (deliverLevel i level s) := (deliver_spec _ _ s hc).ended (settleUnits_eventEnd true _)
  have forms : LampsNormal s → LampsNormal (deliverLevel i level s) := delivered.table.settingsKept.forms.lamps
  have switches : (deliverLevel i level s).switches = s.switches := delivered.table.switches
  have entries : EntriesReported s (deliverLevel i level s) := (deliver_reported _ _ s).ended (settleUnits_eventEnd true _)
  have telltales := deliverLevel_reported i level s
  have settled : LampsSettled (deliverLevel i level s) ∧ ChimesSettled (deliverLevel i level s) :=
    ⟨settleUnits_lampsSettled _, settleUnits_chimesSettled _⟩
  unfold presentedState
  generalize deliverLevel i level s = m at delivered forms switches entries telltales settled ⊢
  have set : setInput i { s.switches.inputs[i] with accepted := some s.switches.inputs[i].raw, debounce := .stopped } m =
      m.setSwitches (acceptedBank i s) := by
    rw [setInput, switches]
    rfl
  unfold presentLevel
  rw [set]
  exact ⟨delivered, entries, telltales, settled, settleUnits_eventEnd true _, (settleUnits_reported (m.setSwitches (acceptedBank i s))).congr rfl rfl rfl rfl,
    ⟨settleUnits_lampsSettled _, settleUnits_chimesSettled _⟩, settleUnits_failedCondition _, fun h => settleUnits_resolved (forms h)⟩

theorem Presented.accepted {i : Fin 24} {level : Bool} {s m u : State} (h : Presented i level s m u) :
    Delivered (.switch i) (levelUpdate level) (s.setSwitches (acceptedBank i s)) u := (h.delivered.setSwitches _).ended h.ended

theorem telltaleItem_ne_cycleItem (k : Fin 40) : telltaleItem k ≠ cycleItem := by
  intro h
  have := congrArg Fin.val h
  simp only [telltaleItem, cycleItem] at this
  omega

theorem TelltaleDiffers.congr_right {a b c : Telltale} (h : TelltaleDiffers a b) (k : ¬ TelltaleDiffers b c) : TelltaleDiffers a c := by
  obtain ⟨hr, hs, hf, hd⟩ := not_telltaleDiffers.1 k
  unfold TelltaleDiffers
  rw [hr, hs, hf, hd]
  exact h

/-- The end of an acceptance that hands no ignition event reports no telltale but those of its two stages. -/
theorem Presented.finish_reported {i : Fin 24} {level : Bool} {s m u : State} (h : Presented i level s m u) (hn : LampsNormal s) (woken : Bool) :
    TelltalesReported m (finishEvent s (withCause woken u)) := by
  have silent : SameShown (withCause woken u) (settleUnits true (withCause woken u)) := by
    have inputs : SameInputs u (withCause woken u) := ⟨rfl, rfl, fun _ _ => rfl, rfl, rfl, fun _ => ⟨rfl, rfl, rfl⟩⟩
    exact settleUnits_same ((h.resolved hn).congr inputs rfl (fun _ => rfl) (fun _ => rfl) rfl) (h.failed.congr rfl (fun _ => rfl) rfl)
      fun st hst j => h.shown.1.patterns st hst j
  have same : SameShown u (finishEvent s (withCause woken u)) := by
    intro j
    rw [finishEvent_telltales]
    exact silent j
  intro p j hj
  rcases (finishEvent_reports s (withCause woken u)).1 p j hj with old | ⟨k, -, differs⟩ | ⟨rfl, -⟩
  · rcases h.reported p j old with old | new
    · exact .inl old
    · exact .inr fun k hk => (new k hk).congr_right (same k)
  · exact absurd differs (same k)
  · exact .inr fun k hk => absurd hk (telltaleItem_ne_cycleItem k).symm

theorem Presented.cycle {i : Fin 24} {level : Bool} {s m u : State} (h : Presented i level s m u) : u.cycle = m.cycle := h.ended.cycle

/-- The cause of an acceptance, over the part as its update left it. -/
theorem Presented.ended_cause {i : Fin 24} {level : Bool} {s m u : State} (h : Presented i level s m u) (woken : Bool) :
    EventEnd ((m.setSwitches (acceptedBank i s)).setCycle { m.cycle with causeSwitch := s.cycle.causeSwitch || woken }) (withCause woken u) := by
  have cause : u.cycle.causeSwitch = s.cycle.causeSwitch := by rw [h.cycle]; exact h.delivered.table.causeSwitch
  have e := h.ended.setCycle { m.cycle with causeSwitch := s.cycle.causeSwitch || woken }
  unfold withCause
  rw [cause, h.cycle]
  exact e

theorem Presented.accepted_cause {i : Fin 24} {level : Bool} {s m u : State} (h : Presented i level s m u) (woken : Bool) :
    Delivered (.switch i) (levelUpdate level)
      ((s.setSwitches (acceptedBank i s)).setCycle { s.cycle with causeSwitch := s.cycle.causeSwitch || woken }) (withCause woken u) := by
  have cause : u.cycle.causeSwitch = s.cycle.causeSwitch := by rw [h.cycle]; exact h.delivered.table.causeSwitch
  have d := h.accepted.setCauseSwitch (s.cycle.causeSwitch || woken)
  unfold withCause
  rw [cause]
  exact d

end

theorem finishEvent_causeNoticed {before u : State} (h : (finishEvent before u).cycle.causeSwitch ≠ before.cycle.causeSwitch) :
    noticed cycleItem (finishEvent before u) := finishEvent_noticed fun k => h (congrArg CycleView.causeSwitch k)

/-- An acceptance that changes the level: its two stages, the ignition event and the wake cause. -/
theorem debounceExpiry_changed {st : SwitchSettings} {i : Fin 24} {s : State} (h : s.switches.inputs[i].accepted ≠ some s.switches.inputs[i].raw) :
    debounceExpiry st i s =
      let before : Option Bool := s.switches.inputs[i].accepted.map fun l => (l == .high) == st.polarity i
      let level := (s.switches.inputs[i].raw == .high) == st.polarity i
      wakeOf st.wake[i] before level (ignitionOf i before level (presentedState i level s)) := if_neg h

theorem onDebounce_running {i : Fin 24} {ms : Nat} {st : SwitchSettings} {s : State} (hs : s.switches.settings = some st)
    (hr : s.switches.inputs[i].debounce = .running ms) : onDebounce i s = debounceExpiry st i s := by
  have running : s.switches.inputs[i].debounce.isRunning = true := by rw [hr]; rfl
  unfold onDebounce
  rw [hs]
  exact if_pos running

/-- Settles O34: the two stages of an acceptance, and the end of its event, at which a unit that the second stage has left resolved reports
nothing. -/
theorem acceptance : Obligations.Acceptance := by
  unfold Obligations.Acceptance
  refine ⟨fun s => by simp [wakeOutput], fun i ms st s hs hr => ?_⟩
  have step : exec (.debounceTimerExpiry i) s = .next (complete s (debounceExpiry st i s)) := by
    show Host.Outcome.next (complete s (onDebounce i s)) = _
    rw [onDebounce_running hs hr]
  refine ⟨fun same => completes_end (step.trans ?_) rfl, fun changed idle hc => ?_⟩
  · rw [debounceExpiry, if_pos same]
    rfl
  · generalize hb : s.switches.inputs[i].accepted.map (fun l => (l == .high) == st.polarity i) = before at idle ⊢
    generalize hl : ((s.switches.inputs[i].raw == .high) == st.polarity i) = level at idle ⊢
    have present := presented_levels i level hc
    have done : exec (.debounceTimerExpiry i) s = .next (complete s (withCause
        (wakes st.wake[i] before level (presentedState i level s)) (presentedState i level s))) := by
      rw [step, debounceExpiry_changed changed]
      dsimp only
      rw [hb, hl, ignitionOf, if_neg (by tauto), wakeOf_eq]
    generalize deliverLevel i level s = m at present
    generalize presentedState i level s = u at present done
    refine completes_finish done ?_
    have cycle := finishEvent_cycle s (withCause (wakes st.wake[i] before level u) u)
    have e := finishEvent_eventEnd s (withCause (wakes st.wake[i] before level u) u)
    have woken : (st.wake[i] && before == some (!level) &&
        (finishEvent s (withCause (wakes st.wake[i] before level u) u)).cycle.state == .parked) = wakes st.wake[i] before level u := by
      rw [cycle]
      rfl
    dsimp only
    rw [woken]
    have cause : (withCause (wakes st.wake[i] before level u) u).cycle.causeSwitch = (s.cycle.causeSwitch || wakes st.wake[i] before level u) := by
      rw [← present.delivered.table.causeSwitch, ← present.cycle]
      rfl
    exact ⟨⟨m, present.delivered, present.entries, present.telltales, present.settled.1, present.settled.2, (present.ended_cause _).trans e,
      fun hn => present.finish_reported hn _⟩, (present.accepted_cause _).ended e, by rw [cycle, cause], finishEvent_causeNoticed⟩

end Sys2Proof.Machine
end

section
/-! Proofs: the ignition events, and the entries into STARTING and STOPPING (R84, R100, R101, R151 to R157). -/

namespace Sys2Proof.Machine

/-! ## What a gauge does at an ignition event -/

section
variable (gs : GaugeSettings) (v : View) (g : Gauge)

theorem Gauge.enterSweep_arrived (hv : g.velocity = 0) (hp : g.position = gs.desc.fullScale) :
    g.enterSweep gs v = { g with state := .sweep, leg := .back, target := 0 } := by
  have rest : ({ g with state := .sweep, leg := .out, target := (gs.desc.fullScale : Int) } : Gauge).atRest = true :=
    (Gauge.atRest_iff _).2 ⟨hv, hp⟩
  exact Gauge.arrive_sweep _ _ _ rest rfl

theorem trackingDecision_parking : (trackingDecision gs v).1 = .parking ↔ ¬ gs.Shows v := by
  by_cases h : gs.Shows v
  · simp [trackingDecision_shows gs v h, h]
  · simp [trackingDecision_parks gs v h, h]

variable {gs g}

theorem Gauge.reparks_iff (hs : g.settings = some gs) : g.reparks v = true ↔ g.state = .parked ∧ gs.desc.sweepEnable = false ∧ ¬ gs.Shows v := by
  rw [← trackingDecision_parking]
  simp [Gauge.reparks, hs]

theorem Gauge.startingEntry_moves (hs : g.settings = some gs) (h : g.state = .parked ∨ g.state = .parking) :
    g.startingEntry v = if gs.desc.sweepEnable then g.enterSweep gs v else g.takeDecision gs v := by
  rcases h with h | h <;> simp only [Gauge.startingEntry, hs, h]

theorem Gauge.startingEntry_stays (h : g.state = .homing ∨ g.state = .sweep ∨ g.state = .tracking) : g.startingEntry v = g := by
  unfold Gauge.startingEntry
  rcases h with h | h | h <;> rw [h] <;> split <;> rfl

theorem Gauge.startingEntry_held (hs : g.settings = some gs) (h : g.state = .held) (hr : g.remembered = some .parked ∨ g.remembered = some .parking) :
    g.startingEntry v =
      if gs.desc.sweepEnable then { g with remembered := some .sweep, leg := .out, target := gs.desc.fullScale }
      else { g with remembered := some (trackingDecision gs v).1, target := (trackingDecision gs v).2, leg := .none } := by
  rcases hr with hr | hr <;> simp only [Gauge.startingEntry, hs, h, hr]

theorem Gauge.startingEntry_keeps (hs : g.settings = some gs) (h : g.state = .held) (hr : g.remembered ≠ some .parked)
    (hr' : g.remembered ≠ some .parking) : g.startingEntry v = g := by
  simp only [Gauge.startingEntry, hs, h]
  split <;> simp_all

theorem Gauge.ignitionOff_parks (hs : g.settings = some gs) (h : g.state = .sweep ∨ g.state = .tracking ∨ g.state = .parking) :
    g.ignitionOff = g.enterParking gs := by
  rcases h with h | h | h <;> simp only [Gauge.ignitionOff, hs, h]

theorem Gauge.ignitionOff_held (hs : g.settings = some gs) (h : g.state = .held) :
    g.ignitionOff =
      if g.remembered = some .homing then g else { g with remembered := some .parking, target := gs.desc.park, leg := .none } := by
  simp only [Gauge.ignitionOff, hs, h]

theorem Gauge.ignitionOff_stays (h : g.state = .homing ∨ g.state = .unhomed ∨ g.state = .parked) : g.ignitionOff = g := by
  unfold Gauge.ignitionOff
  rcases h with h | h | h <;> rw [h] <;> split <;> rfl

/-- What a gauge does at the ignition events (R100, R101). -/
theorem gauge_ignition (hs : g.settings = some gs) :
    let start := g.startingEntry v
    let shows := gs.curveValid = true ∧ (v.state = .live ∨ v.state = .stale ∨ gs.desc.holdOnLoss = true)
    (∀ supply : Supply, g.start supply v = if supply = .low then start.hold .starting else start) ∧
    (g.reparks v = true ↔ g.state = .parked ∧ gs.desc.sweepEnable = false ∧ ¬ shows) ∧
    (g.state = .unhomed →
      start =
        { g with
          state := .homing, position := gs.desc.fullScale + 240, homingCount := gs.desc.fullScale + 240, fraction := 0
          velocity := 0, target := 0, leg := .none }) ∧
    (g.state = .homing ∨ g.state = .sweep ∨ g.state = .tracking → start = g) ∧
    (g.state = .parked ∨ g.state = .parking →
      (gs.desc.sweepEnable = true → g.velocity ≠ 0 ∨ g.position ≠ gs.desc.fullScale →
        start = { g with state := .sweep, leg := .out, target := gs.desc.fullScale }) ∧
      (gs.desc.sweepEnable = true → g.velocity = 0 → g.position = gs.desc.fullScale →
        start = { g with state := .sweep, leg := .back, target := 0 }) ∧
      (gs.desc.sweepEnable = false → start = g.takeDecision gs v)) ∧
    (g.state = .held →
      (g.remembered = some .parked ∨ g.remembered = some .parking →
        (gs.desc.sweepEnable = true →
          start = { g with remembered := some .sweep, leg := .out, target := gs.desc.fullScale }) ∧
        (gs.desc.sweepEnable = false → shows →
          start = { g with remembered := some .tracking, leg := .none, target := gs.curvePosition v.value }) ∧
        (gs.desc.sweepEnable = false → ¬ shows →
          start = { g with remembered := some .parking, leg := .none, target := gs.desc.park })) ∧
      (g.remembered ≠ some .parked → g.remembered ≠ some .parking → start = g)) := by
  refine ⟨fun _ => rfl, Gauge.reparks_iff v hs, fun h => by simp only [Gauge.startingEntry, hs, h, Gauge.enterHoming],
    Gauge.startingEntry_stays v, fun h => ?_, fun h => ⟨fun hr => ?_, Gauge.startingEntry_keeps v hs h⟩⟩
  · rw [Gauge.startingEntry_moves v hs h]
    refine ⟨fun he hm => ?_, fun he hv hp => ?_, fun he => by rw [he]; rfl⟩
    · rw [if_pos he, Gauge.enterSweep_moving gs v g hm]
    · rw [if_pos he, Gauge.enterSweep_arrived gs v g hv hp]
  · rw [Gauge.startingEntry_held v hs h hr]
    refine ⟨fun he => by rw [if_pos he], fun he shows => ?_, fun he shows => ?_⟩
    · rw [trackingDecision_shows gs v shows, he]
      rfl
    · rw [trackingDecision_parks gs v shows, he]
      rfl

theorem gauge_ignitionOff (hs : g.settings = some gs) :
    (g.state = .sweep ∨ g.state = .tracking ∨ g.state = .parking →
      g.ignitionOff =
        { g with
          state := if g.velocity = 0 ∧ g.position = gs.desc.park then .parked else .parking
          target := gs.desc.park, leg := .none }) ∧
    (g.state = .held → g.remembered ≠ some .homing →
      g.ignitionOff = { g with remembered := some .parking, target := gs.desc.park, leg := .none }) ∧
    (g.state = .homing ∨ g.state = .unhomed ∨ g.state = .parked ∨ (g.state = .held ∧ g.remembered = some .homing) →
      g.ignitionOff = g) := by
  refine ⟨fun h => by rw [Gauge.ignitionOff_parks hs h, Gauge.enterParking_eq], fun h hr => by rw [Gauge.ignitionOff_held hs h, if_neg hr], ?_⟩
  rintro (h | h | h | ⟨h, hr⟩)
  · exact Gauge.ignitionOff_stays (.inl h)
  · exact Gauge.ignitionOff_stays (.inr (.inl h))
  · exact Gauge.ignitionOff_stays (.inr (.inr h))
  · rw [Gauge.ignitionOff_held hs h, if_pos hr]

end

/-! ## The gauges at a STARTING entry -/

section
variable {s t u m : State}

/-- In STARTING with its window running no passage opens (R154). -/
theorem judgePassage_opening (hc : s.cycle.state = .starting) (hw : s.cycle.window.isRunning = true) : judgePassage s = s := by
  unfold judgePassage
  rw [hc]
  simp [hw]

/-- A gauge put where no passage opens: nothing but the gauges and the ports changes. -/
theorem putGauge_opening (i : Fin 6) (g : Gauge) (hc : s.cycle.state = .starting) (hw : s.cycle.window.isRunning = true) :
    ∃ x p, putGauge i g s = (s.setGauges x).setPorts p := by
  have idle (t : State) (ht : t.cycle = s.cycle) : judgePassage t = t := judgePassage_opening (by rw [ht, hc]) (by rw [ht, hw])
  unfold putGauge
  dsimp only
  generalize hm : (if gaugeNotice s.gauges[i] g then raiseItem (gaugeItem i) (s.setGauges (s.gauges.set i g)) else s.setGauges (s.gauges.set i g)) = m
  have form : ∃ x p, m = (s.setGauges x).setPorts p := by
    rw [← hm]
    split
    · exact ⟨_, _, rfl⟩
    · exact ⟨s.gauges.set i g, s.ports, rfl⟩
  obtain ⟨x, p, rfl⟩ := form
  rw [idle ((s.setGauges x).setPorts p) rfl]
  exact ⟨x, p, ite_self _⟩

/-- The gauges and the ports as they may be, all else as it is. -/
def GaugesMoved (s t : State) : Prop := ∃ x p, t = (s.setGauges x).setPorts p

theorem GaugesMoved.refl (s : State) : GaugesMoved s s := ⟨s.gauges, s.ports, rfl⟩

theorem GaugesMoved.trans (a : GaugesMoved s t) (b : GaugesMoved t u) : GaugesMoved s u := by
  obtain ⟨x, p, rfl⟩ := a
  obtain ⟨y, q, rfl⟩ := b
  exact ⟨y, q, rfl⟩

/-- The blocks that the entries into STARTING and STOPPING leave as they are. -/
structure SameBlocks (s t : State) : Prop where
  signals : t.signals = s.signals
  pulse : t.pulse = s.pulse
  dist : t.dist = s.dist
  switches : t.switches = s.switches
  tacho : t.tacho = s.tacho
  store : t.store = s.store
  pending : t.pending = s.pending
  conditions : ∀ c, t.cond c = s.cond c

theorem SameBlocks.trans (a : SameBlocks s t) (b : SameBlocks t u) : SameBlocks s u :=
  ⟨b.signals.trans a.signals, b.pulse.trans a.pulse, b.dist.trans a.dist, b.switches.trans a.switches, b.tacho.trans a.tacho,
    b.store.trans a.store, b.pending.trans a.pending, fun c => (b.conditions c).trans (a.conditions c)⟩

theorem GaugesMoved.blocks (h : GaugesMoved s t) : SameBlocks s t := by
  obtain ⟨x, p, rfl⟩ := h
  exact ⟨rfl, rfl, rfl, rfl, rfl, rfl, rfl, fun _ => rfl⟩

theorem GaugesMoved.units (h : GaugesMoved s t) : t.cycle = s.cycle ∧ t.conv = s.conv ∧ t.lamps = s.lamps := by
  obtain ⟨x, p, rfl⟩ := h
  exact ⟨rfl, rfl, rfl⟩

/-- What the loop over the gauges has made of a state in STARTING with its window running. -/
structure GaugesStarted (supply : Supply) (u t : State) : Prop where
  moved : GaugesMoved u t
  gauges : ∀ i : Fin 6, t.gauges[i] = u.gauges[i].start supply (gaugeView u u.gauges[i])
  items : ∀ i : Fin 6, gaugeNotice u.gauges[i] t.gauges[i] = true ∨ u.gauges[i].reparks (gaugeView u u.gauges[i]) = true →
    noticed (gaugeItem i) t
  silent : ReportedOnly (fun j => ∀ i : Fin 6, j = gaugeItem i →
    GaugeDiffers u.gauges[i] t.gauges[i] ∨ u.gauges[i].reparks (gaugeView u u.gauges[i]) = true) u t
  others : NoTelltale u t
  ports : PortsTook u t

theorem startGauge_step (supply : Supply) (i : Fin 6) (hc : s.cycle.state = .starting) (hw : s.cycle.window.isRunning = true) :
    let g := s.gauges[i].start supply (gaugeView s s.gauges[i])
    let due := gaugeNotice s.gauges[i] g = true ∨ s.gauges[i].reparks (gaugeView s s.gauges[i]) = true
    GaugesMoved s (startGauge supply i s) ∧ (startGauge supply i s).gauges = s.gauges.set i g ∧ PortsTook s (startGauge supply i s) ∧
      (due → noticed (gaugeItem i) (startGauge supply i s)) ∧
      ReportedOnly (fun j => j = gaugeItem i ∧ due) s (startGauge supply i s) := by
  unfold startGauge
  dsimp only
  generalize s.gauges[i].reparks (gaugeView s s.gauges[i]) = reparks
  generalize hg : s.gauges[i].start supply (gaugeView s s.gauges[i]) = g
  cases reparks with
  | false =>
    obtain ⟨took, notice, only⟩ := putGauge_reported i g s
    simp only [Bool.false_eq_true, if_false, or_false]
    exact ⟨putGauge_opening i g hc hw, putGauge_gauges i g s, took, fun h => notice ((gaugeNotice_iff _ _).1 h),
      only.mono fun j ⟨hj, hd⟩ => ⟨hj, (gaugeNotice_iff _ _).2 hd⟩⟩
  | true =>
    obtain ⟨took, -, only⟩ := putGauge_reported i g (raiseItem (gaugeItem i) s)
    obtain ⟨x, p, h⟩ := putGauge_opening (s := raiseItem (gaugeItem i) s) i g hc hw
    simp only [if_true, or_true, and_true, true_imp_iff]
    refine ⟨?_, putGauge_gauges i g _, (PortsTook.raiseItem s _).trans took, (noticed_raiseItem s _).took took,
      (ReportedOnly.raiseItem (N := fun j => j = gaugeItem i) s rfl).trans (only.mono fun j hj => hj.1)⟩
    rw [h]
    exact ⟨x, p, rfl⟩

theorem telltaleItem_ne_gaugeItem (k : Fin 40) (i : Fin 6) : telltaleItem k ≠ gaugeItem i := by
  intro h
  have := congrArg Fin.val h
  simp only [telltaleItem, gaugeItem] at this
  omega

theorem startGauges_spec (supply : Supply) (hc : u.cycle.state = .starting) (hw : u.cycle.window.isRunning = true) :
    GaugesStarted supply u (startGauges supply u) := by
  have each (i : Fin 6) (s : State) (h : GaugesMoved u s) := by
    have hs : s.cycle = u.cycle ∧ s.signals = u.signals := by
      obtain ⟨x, p, rfl⟩ := h
      exact ⟨rfl, rfl⟩
    have step := startGauge_step (s := s) supply i (by rw [hs.1, hc]) (by rw [hs.1, hw])
    simp only [gaugeView_congr hs.2] at step
    exact step
  have gauges := forAll_gauges (f := startGauge supply) (g := fun _ g => g.start supply (gaugeView u g)) (C := GaugesMoved u)
    (fun i s h => ⟨h.trans (each i s h).1, (each i s h).2.1⟩) u (.refl u)
  have reports := forAll_gauges_reported (f := startGauge supply) (g := fun _ g => g.start supply (gaugeView u g)) (C := GaugesMoved u)
    (Q := fun _ g => gaugeNotice g (g.start supply (gaugeView u g)) = true ∨ g.reparks (gaugeView u g) = true)
    (fun i s h => by
      obtain ⟨moved, set, took, notice, only⟩ := each i s h
      exact ⟨h.trans moved, set, took, notice, only.mono fun j ⟨hj, due⟩ k hk => ⟨gaugeItem_inj (hk.symm.trans hj), due⟩⟩) u (.refl u)
  have rest := forAll_keeps (startGauge supply)
    (P := fun t => GaugesMoved u t ∧ PortsTook u t ∧ NoTelltale u t) (fun i s ⟨moved, took, silent⟩ => by
      obtain ⟨step, -, stepTook, -, only⟩ := each i s moved
      exact ⟨moved.trans step, took.trans stepTook,
        silent.trans (only.mono fun j hj k hk => telltaleItem_ne_gaugeItem k i (hk.symm.trans hj.1))⟩) u ⟨.refl u, .refl u, .refl u _⟩
  change GaugesStarted supply u (forAll 6 (startGauge supply) u)
  generalize forAll 6 (startGauge supply) u = t at gauges reports rest ⊢
  obtain ⟨moved, at'⟩ := gauges
  obtain ⟨items, silent⟩ := reports
  obtain ⟨-, took, other⟩ := rest
  refine ⟨moved, at', fun i h => items i (by rw [at'] at h; exact h), silent.mono fun j h i hi => ?_, other, took⟩
  exact (h i hi).imp_left fun k => by rw [at']; exact (gaugeNotice_iff _ _).1 k

/-! ## The drivers at a STARTING entry -/

/-- The telltales and the ports as they may be, all else as it is. -/
def TelltalesMoved (s t : State) : Prop := ∃ x p, t = (s.setLamps { s.lamps with telltales := x }).setPorts p

theorem TelltalesMoved.refl (s : State) : TelltalesMoved s s := ⟨s.lamps.telltales, s.ports, rfl⟩

theorem TelltalesMoved.trans (a : TelltalesMoved s t) (b : TelltalesMoved t u) : TelltalesMoved s u := by
  obtain ⟨x, p, rfl⟩ := a
  obtain ⟨y, q, rfl⟩ := b
  exact ⟨y, q, rfl⟩

theorem TelltalesMoved.blocks (h : TelltalesMoved s t) : SameBlocks s t := by
  obtain ⟨x, p, rfl⟩ := h
  exact ⟨rfl, rfl, rfl, rfl, rfl, rfl, rfl, fun _ => rfl⟩

theorem TelltalesMoved.units (h : TelltalesMoved s t) :
    t.cycle = s.cycle ∧ t.conv = s.conv ∧ t.gauges = s.gauges ∧ t.lamps.settings = s.lamps.settings ∧ t.lamps.slowOn = s.lamps.slowOn ∧
      t.lamps.fastOn = s.lamps.fastOn ∧ t.lamps.chimes = s.lamps.chimes := by
  obtain ⟨x, p, rfl⟩ := h
  exact ⟨rfl, rfl, rfl, rfl, rfl, rfl, rfl⟩

theorem putTelltale_moved (i : Fin 40) (y : Telltale) (s : State) : TelltalesMoved s (putTelltale i y s) := by
  rw [putTelltale_eq]
  split
  · exact ⟨_, _, rfl⟩
  · exact ⟨s.lamps.telltales.set i y, s.ports, rfl⟩

theorem putTelltale_only (i : Fin 40) (y : Telltale) (s : State) :
    ReportedOnly (fun j => j = telltaleItem i ∧ TelltaleDiffers s.lamps.telltales[i] y) s (putTelltale i y s) := by
  rw [putTelltale_eq]
  split
  next h => exact (ReportedOnly.of_ports (t := withTelltale i y s) _ rfl).trans (.raiseItem _ ⟨rfl, (telltaleChanged_iff _ _).1 h⟩)
  · exact .of_ports _ rfl

theorem putTelltale_took (i : Fin 40) (y : Telltale) (s : State) : PortsTook s (putTelltale i y s) := by
  rw [putTelltale_eq]
  split
  · exact (PortsTook.of_ports (t := withTelltale i y s) rfl).trans (.raiseItem _ _)
  · exact .of_ports rfl

theorem putTelltale_get (i k : Fin 40) (y : Telltale) (s : State) :
    (putTelltale i y s).lamps.telltales[k] = if k = i then y else s.lamps.telltales[k] := by
  rw [putTelltale_lamps, withTelltale_get]

/-- What the renewal of the drivers of the telltales in a list has made of the part. -/
structure DriversRenewed (l : List (Fin 40)) (u t : State) : Prop where
  moved : TelltalesMoved u t
  telltales : ∀ k : Fin 40, t.lamps.telltales[k] = if k ∈ l then u.lamps.telltales[k].newCycle else u.lamps.telltales[k]
  only : ReportedOnly (fun j => ∃ k : Fin 40, j = telltaleItem k ∧ TelltaleDiffers u.lamps.telltales[k] t.lamps.telltales[k]) u t
  took : PortsTook u t

theorem driversRenewed_foldl (l : List (Fin 40)) (hl : l.Nodup) : ∀ u : State,
    DriversRenewed l u (l.foldl (fun s i => putTelltale i s.lamps.telltales[i].newCycle s) u) := by
  induction l with
  | nil => exact fun u => ⟨.refl u, fun k => by simp, .refl u _, .refl u⟩
  | cons i l ih =>
    intro u
    obtain ⟨notin, nodup⟩ := List.nodup_cons.1 hl
    have rest := ih nodup (putTelltale i u.lamps.telltales[i].newCycle u)
    rw [List.foldl_cons]
    generalize l.foldl (fun s i => putTelltale i s.lamps.telltales[i].newCycle s) (putTelltale i u.lamps.telltales[i].newCycle u) = t at rest ⊢
    obtain ⟨moved, each, only, took⟩ := rest
    have telltales (k : Fin 40) :
        t.lamps.telltales[k] = if k ∈ i :: l then u.lamps.telltales[k].newCycle else u.lamps.telltales[k] := by
      rw [each k, putTelltale_get]
      by_cases h : k = i
      · subst h
        simp [notin]
      · simp [h]
    have here : t.lamps.telltales[i] = u.lamps.telltales[i].newCycle := by rw [telltales i, if_pos (by simp)]
    refine ⟨(putTelltale_moved i _ u).trans moved, telltales, ?_, (putTelltale_took i _ u).trans took⟩
    refine (putTelltale_only i _ u).trans' only (fun j ⟨hj, hd⟩ => ⟨i, hj, by rw [here]; exact hd⟩) fun j ⟨k, hj, hd⟩ => ⟨k, hj, ?_⟩
    by_cases h : k = i
    · subst h
      rw [putTelltale_get, if_pos rfl, here] at hd
      exact absurd hd (TelltaleDiffers.irrefl _)
    · rwa [putTelltale_get, if_neg h] at hd

theorem newLampCycle_renewed (u : State) : DriversRenewed (List.finRange 40) u (newLampCycle u) := driversRenewed_foldl _ (List.nodup_finRange 40) u

/-! ## The STARTING entry -/

/-- The converter at a STARTING entry (R60, R69). -/
def startedConverter (s : State) : Converter :=
  { s.conv with
    parkedTimer := .stopped
    scanTimer := if s.conv.scanTimer.isRunning then s.conv.scanTimer else s.config.elim .stopped fun c => .running c.timing.scanMs
    slots := s.conv.seedFast.slots }

theorem startConverter_eq (s : State) : startConverter s = s.setConv (startedConverter s) := rfl

theorem startConverter_ports (s : State) : (startConverter s).ports = s.ports := rfl

theorem startedConverter_congr (hc : t.conv = s.conv) (hs : t.store = s.store) : startedConverter t = startedConverter s := by
  unfold startedConverter State.config
  rw [hc, hs]

theorem sameBlocks_startConverter (s : State) : SameBlocks s (startConverter s) := by
  rw [startConverter_eq]
  exact ⟨rfl, rfl, rfl, rfl, rfl, rfl, rfl, fun _ => rfl⟩

theorem sameBlocks_openCycle (s : State) : SameBlocks s (openCycle s) := ⟨rfl, rfl, rfl, rfl, rfl, rfl, rfl, fun _ => rfl⟩



theorem port_of_ports (h : t.ports = s.ports) (p : Port) : t.port p = s.port p := by simp only [State.port, h]

/-- A driver that its renewal changes is one in SHORT or LATCHED. -/
theorem newCycle_differs {x : Telltale} (h : TelltaleDiffers x x.newCycle) : x.newCycle.fault ≠ x.fault := by
  rcases h with h | h | h | h
  · exact absurd rfl h
  · exact absurd rfl h
  · exact h
  · exact absurd rfl h

/-- What differs from a renewed driver's telltale, its fault kept, differs from the telltale before the renewal. -/
theorem newCycle_then {x y : Telltale} (h : TelltaleDiffers x.newCycle y) (hf : y.fault = x.newCycle.fault) : TelltaleDiffers x y := by
  rcases h with h | h | h | h
  · exact .inl h
  · exact .inr (.inl h)
  · exact absurd hf h
  · exact .inr (.inr (.inr h))

/-- From a state to the end of the event of a STARTING entry from it; item 112 is noticed at the event's end (R162). -/
theorem startingEntered (before u : State) (hb : before.cycle.state ≠ .starting) : StartingEntered u (finishEvent before (enterStarting u)) := by
  have started := startGauges_spec u.conv.supply (u := openCycle u) rfl rfl
  have open' : PortsTook u (openCycle u) ∧ Released .cycle (openCycle u) ∧ ∀ N, ReportedOnly N u (openCycle u) := by
    unfold openCycle
    exact ⟨(PortsTook.of_ports rfl).trans (.signalEvent _ _), released_changeCycle _ _, fun N => (ReportedOnly.of_ports N rfl).trans (.signalEvent _ N _)⟩
  have view (g : Gauge) : gaugeView (openCycle u) g = gaugeView u g := rfl
  unfold enterStarting
  generalize hg : startGauges u.conv.supply (openCycle u) = a at started
  have renewed := newLampCycle_renewed (startConverter a)
  generalize newLampCycle (startConverter a) = m at renewed ⊢
  have e := finishEvent_eventEnd before m
  have reports := finishEvent_reports before m
  have kept := (sameBlocks_openCycle u).trans (started.moved.blocks.trans ((sameBlocks_startConverter a).trans renewed.moved.blocks))
  obtain ⟨cycleA, convA, lampsA⟩ := started.moved.units
  obtain ⟨cycleM, convM, gaugesM, settingsM, slowM, fastM, chimesM⟩ := renewed.moved.units
  have lampsOf : (startConverter a).lamps = u.lamps := lampsA
  have cycle : m.cycle = (openCycle u).cycle := cycleM.trans cycleA
  have conv : m.conv = startedConverter u := by
    rw [convM, startConverter_eq]
    exact startedConverter_congr convA started.moved.blocks.store
  have gauges : m.gauges = a.gauges := gaugesM
  have telltale (k : Fin 40) : m.lamps.telltales[k] = u.lamps.telltales[k].newCycle := by
    rw [renewed.telltales k, if_pos (List.mem_finRange k), lampsOf]
  have tookM : PortsTook u m := open'.1.trans (started.ports.trans ((PortsTook.of_ports (startConverter_ports a)).trans renewed.took))
  generalize ht : finishEvent before m = t at e reports ⊢
  have atGauges : t.gauges = a.gauges := e.gauges.trans gauges
  have later : PortsTook a t := ((PortsTook.of_ports (startConverter_ports a)).trans renewed.took).trans e.ports
  have item : noticed cycleItem t := by
    refine reports.2.2 fun k => hb ?_
    have state : t.cycle.state = before.cycle.state := congrArg CycleView.state k
    rw [← state, e.cycle, cycle]
    rfl
  refine
    { cycle := e.cycle.trans cycle
      gauges := fun i => by rw [atGauges]; exact started.gauges i
      parkedTimer := by rw [e.conv, conv]; rfl
      scanTimer := by
        rw [e.conv, conv, startedConverter]
        cases u.conv.scanTimer <;> rfl
      seeds := fun i => by rw [e.conv, conv, startedConverter, Converter.seedFast, Fin.getElem_fin, Vector.getElem_ofFn]
      converter := by rw [e.conv, conv]; exact ⟨rfl, rfl, rfl, rfl, rfl, rfl⟩
      drivers := fun i => ?_
      unit := ⟨e.lamps.settings.trans (settingsM.trans (by rw [lampsOf])), e.lamps.slowOn.trans (slowM.trans (by rw [lampsOf])),
        e.lamps.fastOn.trans (fastM.trans (by rw [lampsOf]))⟩
      chimes := fun i => by
        obtain ⟨hl, hp⟩ := e.lamps.chimes i
        rw [hl, hp, chimesM, lampsOf]
        exact ⟨rfl, rfl⟩
      others := ⟨e.signals.trans kept.signals, e.pulse.trans kept.pulse, e.dist.trans kept.dist, e.switches.trans kept.switches,
        e.tacho.trans kept.tacho, e.store.trans kept.store, e.pending.trans kept.pending⟩
      conditions := fun c hc => (e.conditions c hc).trans (kept.conditions c)
      ports := tookM.trans e.ports
      items := fun i h => (started.items i (by rw [atGauges] at h; exact h)).took later
      silent := ?_
      telltales := ?_
      item := item
      event := open'.2.1.took (started.ports.trans later) }
  · obtain ⟨latches, patterns, fault, retries, retryTimer⟩ := e.lamps.telltales i
    rw [latches, patterns, fault, retries, retryTimer, telltale i]
    exact ⟨rfl, rfl, rfl, rfl, rfl⟩
  · intro p j hj
    rcases e.silent p j hj with old | new
    · rcases renewed.only p j old with old | ⟨k, rfl, -⟩
      · rcases started.silent p j (by rwa [port_of_ports (startConverter_ports a)] at old) with old | new
        · exact .inl ((open'.2.2 (fun _ => False) p j old).resolve_right id)
        · refine .inr fun i hi => ?_
          have := new i hi
          rw [atGauges]
          exact this
      · exact .inr fun i hi => absurd hi (telltaleItem_ne_gaugeItem k i)
    · exact .inr fun i hi => absurd (hi ▸ ofTable_gauge i) new
  · intro p j hj
    rcases reports.1 p j hj with old | ⟨k, rfl, differs⟩ | ⟨rfl, -⟩
    · rcases renewed.only p j old with old | ⟨k, rfl, differs⟩
      · rcases started.others p j (by rwa [port_of_ports (startConverter_ports a)] at old) with old | new
        · exact .inl ((open'.2.2 (fun _ => False) p j old).resolve_right id)
        · exact .inr fun k hk => absurd hk (new k)
      · refine .inr fun k' hk => ?_
        obtain rfl : k = k' := telltaleItem_inj hk
        rw [lampsOf, telltale k] at differs
        exact TelltaleDiffers.of_fault (by rw [(e.lamps.telltales k).2.2.1, telltale k]; exact newCycle_differs differs)
    · refine .inr fun k' hk => ?_
      obtain rfl : k = k' := telltaleItem_inj hk
      rw [telltale k] at differs
      exact newCycle_then differs (by rw [(e.lamps.telltales k).2.2.1, telltale k])
    · exact .inr fun k hk => absurd hk (telltaleItem_ne_cycleItem k).symm

/-! ## The STOPPING entry -/

/-- The converter at a PARKED entry (R60, R157). -/
def parkedConverter (s : State) : Converter :=
  { s.conv with scanTimer := .stopped, parkedTimer := s.conv.settings.elim .stopped fun c => .running (1000 * c.parkedS) }

/-- From a state in STOPPING, the gauges have taken their IGN_OFF one after another, with the passage to PARKED where the last has parked. -/
structure GaugesStopped (b t : State) : Prop where
  blocks : SameBlocks b t
  lamps : t.lamps = b.lamps
  took : PortsTook b t
  only : ReportedOnly (fun j => ∃ i, j = gaugeItem i) b t
  stands : (t.cycle = b.cycle ∧ t.conv = b.conv) ∨
    ((∀ k : Fin 6, t.gauges[k].state = .parked) ∧ t.cycle = { b.cycle with state := .parked } ∧ t.conv = parkedConverter b)

theorem GaugesStopped.refl (s : State) : GaugesStopped s s :=
  ⟨⟨rfl, rfl, rfl, rfl, rfl, rfl, rfl, fun _ => rfl⟩, rfl, .refl s, .refl s _, .inl ⟨rfl, rfl⟩⟩

theorem enterParked_eq (s : State) :
    enterParked s = signalEvent .cycle ((s.setConv (parkedConverter s)).setCycle { s.cycle with state := .parked }) := rfl

theorem judgePassage_stopping (hc : s.cycle.state = .stopping) :
    judgePassage s = if ∀ k : Fin 6, s.gauges[k].state = .parked then enterParked s else s := by
  have all : (s.gauges.toList.all fun g => g.state == .parked) = true ↔ ∀ k : Fin 6, s.gauges[k].state = .parked := by
    rw [vector_all_iff]
    simp only [beq_iff_eq]
  simp only [judgePassage, hc, all]

theorem judgePassage_parked (hc : s.cycle.state = .parked) : judgePassage s = s := by simp only [judgePassage, hc]

theorem GaugesStopped.judged (hb : s.cycle.state = .stopping) (h : GaugesStopped s t) : GaugesStopped s (judgePassage t) := by
  rcases h.stands with ⟨cycle, conv⟩ | ⟨all, cycle, conv⟩
  · rw [judgePassage_stopping (by rw [cycle, hb])]
    split
    next all =>
      rw [enterParked_eq]
      obtain ⟨⟨b1, b2, b3, b4, b5, b6, b7, b8⟩, lamps, took, only, -⟩ := h
      refine ⟨⟨b1, b2, b3, b4, b5, b6, b7, b8⟩, lamps, took.trans ((PortsTook.of_ports rfl).trans (.signalEvent _ _)),
        only.trans ((ReportedOnly.of_ports _ rfl).trans (.signalEvent _ _ _)), .inr ⟨all, ?_, ?_⟩⟩
      · show ({ t.cycle with state := .parked } : CycleController) = _
        rw [cycle]
      · show parkedConverter t = _
        unfold parkedConverter
        rw [conv]
    · exact h
  · rw [judgePassage_parked (by rw [cycle])]
    exact h

theorem judgePassage_quiet (s : State) (N : Fin 113 → Prop) : ReportedOnly N s (judgePassage s) := by
  unfold judgePassage enterRun enterParked changeCycle
  split
  · split
    · exact ReportedOnly.congr rfl rfl (.signalEvent s N .cycle)
    · exact .refl s N
  · split
    · exact ReportedOnly.congr rfl rfl (.signalEvent s N .cycle)
    · exact .refl s N
  all_goals exact .refl s N

theorem GaugesStopped.put (hb : s.cycle.state = .stopping) (h : GaugesStopped s t) (i : Fin 6) :
    GaugesStopped s (putGauge i t.gauges[i].ignitionOff t) := by
  have set : GaugesStopped s (t.setGauges (t.gauges.set i t.gauges[i].ignitionOff)) := by
    obtain ⟨⟨b1, b2, b3, b4, b5, b6, b7, b8⟩, lamps, took, only, stands⟩ := h
    refine ⟨⟨b1, b2, b3, b4, b5, b6, b7, b8⟩, lamps, took.trans (.of_ports rfl), only.trans (.of_ports _ rfl), stands.imp_right ?_⟩
    rintro ⟨all, cycle, conv⟩
    refine ⟨?_, cycle, conv⟩
    rw [Gauge.ignitionOff_stays (.inr (.inr (all i)))]
    simpa [-Fin.getElem_fin, vector_set_self] using all
  unfold putGauge
  dsimp only
  generalize hm : (if gaugeNotice t.gauges[i] t.gauges[i].ignitionOff then
    raiseItem (gaugeItem i) (t.setGauges (t.gauges.set i t.gauges[i].ignitionOff)) else t.setGauges (t.gauges.set i t.gauges[i].ignitionOff)) = m
  have noticed : GaugesStopped s m := by
    rw [← hm]
    split
    · obtain ⟨⟨b1, b2, b3, b4, b5, b6, b7, b8⟩, lamps, took, only, stands⟩ := set
      exact ⟨⟨b1, b2, b3, b4, b5, b6, b7, b8⟩, lamps, took.trans (.raiseItem _ _), only.trans (.raiseItem _ ⟨i, rfl⟩), stands⟩
    · exact set
  split
  · exact noticed
  · exact noticed.judged hb

theorem gaugesStopped_forGauges (hb : s.cycle.state = .stopping) : GaugesStopped s (forGauges (fun _ g => g.ignitionOff) s) :=
  forAll_keeps _ (fun i _ h => h.put hb i) s (.refl s)

/-- A STOPPING entry, with the passage through it to PARKED. -/
structure Stopped (u t : State) : Prop where
  blocks : SameBlocks u t
  lamps : t.lamps = u.lamps
  took : PortsTook u t
  only : ReportedOnly (fun j => ∃ i, j = gaugeItem i) u t
  gauges : ∀ i : Fin 6, t.gauges[i] = u.gauges[i].ignitionOff
  cycle : t.cycle = { u.cycle with state := stoppingState u, window := .stopped }
  converter : t.conv = if stoppingState u = .parked then parkedConverter u else u.conv
  items : ∀ i : Fin 6, gaugeNotice u.gauges[i] t.gauges[i] = true → noticed (gaugeItem i) t
  silent : ReportedOnly (fun j => ∀ i : Fin 6, j = gaugeItem i → GaugeDiffers u.gauges[i] t.gauges[i]) u t
  event : Released .cycle t

/-- The part as a STOPPING entry begins. -/
def closeCycle (u : State) : State := changeCycle .stopping (u.setCycle { u.cycle with window := .stopped })

theorem enterStopping_stopped (u : State) : Stopped u (enterStopping u) := by
  have opened : PortsTook u (closeCycle u) ∧ Released .cycle (closeCycle u) ∧ ∀ N, ReportedOnly N u (closeCycle u) :=
    ⟨(PortsTook.of_ports rfl).trans (.signalEvent _ _), released_changeCycle _ _, fun N => (ReportedOnly.of_ports N rfl).trans (.signalEvent _ N _)⟩
  have blocks : SameBlocks u (closeCycle u) := ⟨rfl, rfl, rfl, rfl, rfl, rfl, rfl, fun _ => rfl⟩
  have units : (closeCycle u).lamps = u.lamps ∧ (closeCycle u).gauges = u.gauges ∧ (closeCycle u).conv = u.conv ∧
      (closeCycle u).cycle = { u.cycle with state := .stopping, window := .stopped } := ⟨rfl, rfl, rfl, rfl⟩
  show Stopped u (judgePassage (forGauges (fun _ g => g.ignitionOff) (closeCycle u)))
  generalize closeCycle u = b at opened blocks units ⊢
  obtain ⟨lamps, gaugesB, convB, cycleB⟩ := units
  have hb : b.cycle.state = .stopping := by rw [cycleB]
  have loop := gaugesStopped_forGauges hb
  have reports := forGauges_reported (fun _ g => g.ignitionOff) b
  have gauges := (forAll_gauges (f := fun i s => putGauge i s.gauges[i].ignitionOff s) (g := fun _ g => g.ignitionOff) (C := fun _ => True)
    (fun i s _ => ⟨trivial, putGauge_gauges ..⟩) b trivial).2
  change ∀ i : Fin 6, (forGauges (fun _ g => g.ignitionOff) b).gauges[i] = b.gauges[i].ignitionOff at gauges
  generalize forGauges (fun _ g => g.ignitionOff) b = f at loop reports gauges ⊢
  have judged := loop.judged hb
  have took : PortsTook f (judgePassage f) := (afterView_judgePassage f).table.ports
  have quiet := judgePassage_quiet f
  have off : stoppingState u = if ∀ k : Fin 6, f.gauges[k].state = .parked then .parked else .stopping := by
    simp only [stoppingState, gauges, gaugesB]
  have stands : (judgePassage f).cycle = { u.cycle with state := stoppingState u, window := .stopped } ∧
      (judgePassage f).conv = if stoppingState u = .parked then parkedConverter u else u.conv := by
    have parked : parkedConverter b = parkedConverter u := by rw [parkedConverter, convB, parkedConverter]
    rcases loop.stands with ⟨cycle, conv⟩ | ⟨all, cycle, conv⟩
    · rw [judgePassage_stopping (by rw [cycle, hb]), off]
      by_cases all : ∀ k : Fin 6, f.gauges[k].state = .parked
      · rw [if_pos all, if_pos all, enterParked_eq]
        constructor
        · show ({ f.cycle with state := .parked } : CycleController) = _
          rw [cycle, cycleB]
        · show parkedConverter f = _
          rw [if_pos rfl, ← parked, parkedConverter, conv, parkedConverter]
      · rw [if_neg all, if_neg all, if_neg (by decide), cycle, cycleB, conv, convB]
        exact ⟨rfl, rfl⟩
    · rw [judgePassage_parked (by rw [cycle]), off, if_pos all, if_pos rfl, cycle, cycleB, conv, parked]
      exact ⟨rfl, rfl⟩
  have here (i : Fin 6) : (judgePassage f).gauges[i] = u.gauges[i].ignitionOff := by rw [judgePassage_gauges, gauges, gaugesB]
  refine ⟨blocks.trans judged.blocks, judged.lamps.trans lamps, opened.1.trans judged.took, (opened.2.2 _).trans judged.only, here, stands.1, stands.2,
    fun i hi => ?_, ?_, opened.2.1.took judged.took⟩
  · rw [here] at hi
    refine (reports.1 i ?_).took took
    rw [gaugesB]
    exact (gaugeNotice_iff _ _).1 hi
  · refine (opened.2.2 _).trans ((reports.2.mono fun j hj i hi => ?_).trans (quiet _))
    have := hj i hi
    rw [gaugesB] at this
    rw [here]
    exact this

/-- From a state to the end of the event of a STOPPING entry from it, with the wake cause that may follow (R155, R156, R159). -/
theorem stoppingEntered (wake : Bool) (before u : State) (hb : before.cycle.state = .starting ∨ before.cycle.state = .run) :
    StoppingEntered wake u (finishEvent before (withCause (wake && stoppingState u == .parked) (enterStopping u))) := by
  have stopped := enterStopping_stopped u
  generalize enterStopping u = m at stopped ⊢
  obtain ⟨blocks, lamps, took, only, gauges, cycle, converter, items, silent, event⟩ := stopped
  have e := finishEvent_eventEnd before (withCause (wake && stoppingState u == .parked) m)
  have reports := finishEvent_reports before (withCause (wake && stoppingState u == .parked) m)
  have cycleW : (withCause (wake && stoppingState u == .parked) m).cycle =
      { u.cycle with
        state := stoppingState u
        window := .stopped
        causeSwitch := u.cycle.causeSwitch || (wake && stoppingState u == .parked) } := by
    unfold withCause
    rw [cycle]
    rfl
  generalize finishEvent before (withCause (wake && stoppingState u == .parked) m) = t at e reports ⊢
  have tookT : PortsTook m t := (PortsTook.of_ports rfl).trans e.ports
  have gaugesT : t.gauges = m.gauges := e.gauges
  refine
    { cycle := e.cycle.trans cycleW
      gauges := fun i => by rw [gaugesT, gauges]
      converter := by rw [e.conv]; exact converter
      claims := lamps ▸ e.lamps
      others := ⟨e.signals.trans blocks.signals, e.pulse.trans blocks.pulse, e.dist.trans blocks.dist, e.switches.trans blocks.switches,
        e.tacho.trans blocks.tacho, e.store.trans blocks.store, e.pending.trans blocks.pending⟩
      conditions := fun c hc => (e.conditions c hc).trans (blocks.conditions c)
      ports := took.trans tookT
      items := fun i hi => (items i (by rwa [gaugesT] at hi)).took tookT
      silent := ?_
      telltales := ?_
      item := ?_
      event := event.took tookT }
  · rw [gaugesT]
    refine silent.trans fun p j hj => ?_
    exact (e.silent p j hj).imp_right fun new i hi => absurd (hi ▸ ofTable_gauge i) new
  · intro p j hj
    rcases reports.1 p j hj with old | ⟨k, rfl, differs⟩ | ⟨rfl, -⟩
    · exact (only p j old).imp_right fun ⟨i, hi⟩ k hk => absurd (hk.symm.trans hi) (telltaleItem_ne_gaugeItem k i)
    · refine .inr fun k' hk => ?_
      obtain rfl : k = k' := telltaleItem_inj hk
      rw [← lamps]
      exact differs
    · exact .inr fun k hk => absurd hk (telltaleItem_ne_cycleItem k).symm
  · refine reports.2.2 fun k => ?_
    have state : t.cycle.state = before.cycle.state := congrArg CycleView.state k
    rw [e.cycle, cycleW] at state
    change stoppingState u = before.cycle.state at state
    rw [stoppingState] at state
    rcases hb with hb | hb <;> rw [hb] at state <;> split at state <;> exact absurd state (by decide)

end

end Sys2Proof.Machine
end

section
/-! Proofs: the acceptance of SW23 with the ignition event that it hands (R82 to R85, R151). -/

namespace Sys2Proof.Machine

section
variable {s t u m : State}

theorem Passage.off {a b : CycleState} (h : Passage a b) (ha : a = .parked ∨ a = .stopping) : b = .parked ∨ b = .stopping := by
  rcases h with rfl | ⟨rfl, -⟩ | ⟨-, rfl⟩
  · exact ha
  · simp at ha
  · exact .inl rfl

theorem Passage.on {a b : CycleState} (h : Passage a b) (ha : a = .starting ∨ a = .run) : b = .starting ∨ b = .run := by
  rcases h with rfl | ⟨-, rfl⟩ | ⟨rfl, -⟩
  · exact ha
  · exact .inr rfl
  · simp at ha

theorem Passage.parked {b : CycleState} (h : Passage .parked b) : b = .parked := by
  rcases h with rfl | ⟨h, -⟩ | ⟨h, -⟩
  · rfl
  · simp at h
  · simp at h

/-- The ignition level set (R151). -/
def withIgnition (on : Bool) (s : State) : State := s.setCycle { s.cycle with ignition := on }

/-- What an ignition event makes of the part once the ignition level is set. -/
def ignite (on : Bool) (v : State) : State :=
  match v.cycle.state with
  | .parked => if on && !v.cycle.commitInFlight then enterStarting v else v
  | .starting | .run => if on then v else enterStopping v
  | .stopping => if on then enterStarting v else v
  | .load => v

theorem ignitionEvent_eq (on : Bool) (s : State) : ignitionEvent on s = ignite on (withIgnition on s) := rfl

theorem ignite_starts (h : (s.cycle.state = .parked ∧ s.cycle.commitInFlight = false) ∨ s.cycle.state = .stopping) :
    ignite true s = enterStarting s := by
  rcases h with ⟨h, k⟩ | h
  · simp only [ignite, h, k, Bool.not_false, Bool.and_true, if_true]
  · simp only [ignite, h, if_true]

theorem ignite_stops (h : s.cycle.state = .starting ∨ s.cycle.state = .run) : ignite false s = enterStopping s := by
  rcases h with h | h <;> simp only [ignite, h, Bool.false_eq_true, if_false]

theorem ignite_idle {on : Bool}
    (h : (on = true ∧ (s.cycle.state = .starting ∨ s.cycle.state = .run ∨ (s.cycle.state = .parked ∧ s.cycle.commitInFlight = true))) ∨
      (on = false ∧ (s.cycle.state = .parked ∨ s.cycle.state = .stopping))) : ignite on s = s := by
  rcases h with ⟨rfl, h | h | ⟨h, k⟩⟩ | ⟨rfl, h | h⟩
  · simp only [ignite, h, if_true]
  · simp only [ignite, h, if_true]
  · simp only [ignite, h, k, Bool.not_true, Bool.and_false, Bool.false_eq_true, if_false]
  · simp only [ignite, h, Bool.false_and, Bool.false_eq_true, if_false]
  · simp only [ignite, h, Bool.false_eq_true, if_false]

/-- The two stages of an acceptance, as the statement spells them. -/
theorem Presented.stages {i : Fin 24} {level : Bool} {s m u : State} (h : Presented i level s m u) :
    (∃ m, Delivered (.switch i) (levelUpdate level) s m ∧ EntriesReported s m ∧ TelltalesReported s m ∧ LampsSettled m ∧ ChimesSettled m ∧
      EventEnd (m.setSwitches (acceptedBank i s)) u ∧ TelltalesReported m u) ∧
    Delivered (.switch i) (levelUpdate level) (s.setSwitches (acceptedBank i s)) u ∧ LampsSettled u ∧ ChimesSettled u :=
  ⟨⟨m, h.delivered, h.entries, h.telltales, h.settled.1, h.settled.2, h.ended, h.reported⟩, h.accepted, h.shown.1, h.shown.2⟩

theorem Delivered.setIgnition {src : Source} {x : Update} (h : Delivered src x s t) (b : Bool) :
    Delivered src x (withIgnition b s) (withIgnition b t) :=
  h.congr { h.table with ignition := rfl } (.of_eq rfl rfl rfl) rfl rfl (.of_eq rfl rfl rfl) (.of_ports rfl)

theorem enterStarting_state (u : State) (hb : u.cycle.state ≠ .starting) : (enterStarting u).cycle.state = .starting := by
  have entered := startingEntered u u hb
  rw [← finishEvent_cycle u, entered.cycle]

end

/-- Settles O35: the two stages of the acceptance, behind which the ignition event enters STARTING or STOPPING, or sets the ignition level alone. -/
theorem ignitionEvents : Obligations.IgnitionEvents := by
  unfold Obligations.IgnitionEvents
  refine ⟨fun v g gs hs => ?_, fun ms st s hs hr => ?_⟩
  · obtain ⟨h1, h2, h3, h4, h5, h6⟩ := gauge_ignition v hs
    obtain ⟨h7, h8, h9⟩ := gauge_ignitionOff hs
    exact ⟨h1, h2, h3, h4, h5, h6, h7, h8, h9⟩
  · dsimp only
    generalize hb : s.switches.inputs[(23 : Fin 24)].accepted.map (fun l => (l == .high) == st.polarity 23) = before
    generalize hl : ((s.switches.inputs[(23 : Fin 24)].raw == .high) == st.polarity 23) = level
    intro differs changed
    have done : exec (.debounceTimerExpiry 23) s = .next (complete s
        (wakeOf st.wake[(23 : Fin 24)] before level (ignitionEvent level (presentedState 23 level s)))) := by
      show Host.Outcome.next (complete s (onDebounce 23 s)) = _
      rw [onDebounce_running hs hr, debounceExpiry_changed changed]
      dsimp only
      rw [hb, hl, ignitionOf, if_pos ⟨rfl, differs⟩]
    have present (hc : s.cycle.state ≠ .load) := presented_levels 23 level hc
    generalize deliverLevel 23 level s = m at present
    generalize presentedState 23 level s = u at present done
    have passage (hc : s.cycle.state ≠ .load) : Passage s.cycle.state u.cycle.state := by
      rw [(present hc).cycle]
      exact (present hc).delivered.table.passage
    have commit (hc : s.cycle.state ≠ .load) : u.cycle.commitInFlight = s.cycle.commitInFlight := by
      rw [(present hc).cycle]
      exact (present hc).delivered.table.commitInFlight
    have state : (withIgnition level u).cycle.state = u.cycle.state := rfl
    have flight : (withIgnition level u).cycle.commitInFlight = u.cycle.commitInFlight := rfl
    rw [ignitionEvent_eq] at done
    refine ⟨fun on free h => ?_, fun on busy h wake => ?_, fun off h => ?_, fun h => ?_⟩
    · subst on
      have hc : s.cycle.state ≠ .load := by rcases h with h | h <;> rw [h] <;> decide
      have notStarting : s.cycle.state ≠ .starting := by rcases h with h | h <;> rw [h] <;> decide
      have off := (passage hc).off h
      have notStarting' : (withIgnition true u).cycle.state ≠ .starting := by rw [state]; rcases off with h | h <;> rw [h] <;> decide
      rw [ignite_starts (by rw [state, flight, commit hc]; exact off.imp_left fun h => ⟨h, free⟩), wakeOf_eq, wakes,
        enterStarting_state _ notStarting', show (CycleState.starting == .parked) = false from rfl, Bool.and_false, withCause_false] at done
      exact completes_finish done ⟨u, (present hc).stages, startingEntered s _ notStarting⟩
    · subst on
      have hc : s.cycle.state ≠ .load := by rw [h]; decide
      have parked : u.cycle.state = .parked := (h ▸ passage hc).parked
      rw [ignite_idle (.inl ⟨rfl, .inr (.inr ⟨state.trans parked, flight.trans ((commit hc).trans busy)⟩)⟩), wakeOf_eq, wakes, wake,
        Bool.false_and, Bool.false_and, withCause_false] at done
      exact completes_finish done (((present hc).accepted.setIgnition true).ended (finishEvent_eventEnd s _))
    · subst off
      have hc : s.cycle.state ≠ .load := by rcases h with h | h <;> rw [h] <;> decide
      have was : before = some true := by
        cases before with
        | none => exact absurd rfl differs
        | some b => cases b <;> simp_all
      rw [ignite_stops (by rw [state]; exact (passage hc).on h), wakeOf_eq, wakes, was, (enterStopping_stopped _).cycle,
        show (some true == some !false) = true from rfl, Bool.and_true] at done
      exact completes_finish done ⟨u, (present hc).stages, stoppingEntered _ s _ h⟩
    · have hc : s.cycle.state ≠ .load := by rcases h with ⟨-, h | h | ⟨h, -⟩⟩ | ⟨-, h | h⟩ <;> rw [h] <;> decide
      have idle : ignite level (withIgnition level u) = withIgnition level u := by
        refine ignite_idle ?_
        rw [state, flight, commit hc]
        rcases h with ⟨hl, h | h | ⟨h, busy⟩⟩ | ⟨hl, h⟩
        · exact .inl ⟨hl, ((passage hc).on (.inl h)).imp_right .inl⟩
        · exact .inl ⟨hl, ((passage hc).on (.inr h)).imp_right .inl⟩
        · exact .inl ⟨hl, .inr (.inr ⟨(h ▸ passage hc).parked, busy⟩)⟩
        · exact .inr ⟨hl, (passage hc).off h⟩
      rw [idle, wakeOf_eq] at done
      have cause : u.cycle.causeSwitch = s.cycle.causeSwitch := by
        rw [(present hc).cycle]
        exact (present hc).delivered.table.causeSwitch
      have woken : wakes st.wake[(23 : Fin 24)] before level (withIgnition level u) =
          (st.wake[(23 : Fin 24)] && before == some (!level) && u.cycle.state == .parked) := rfl
      rw [woken] at done
      have stages := (present hc).stages
      refine completes_finish done ⟨u, stages, ?_, fun changes => finishEvent_noticed fun k => ?_⟩
      · rw [← cause]
        exact finishEvent_eventEnd s _
      · have cycle := congrArg CycleView.state k
        have ignition := congrArg CycleView.ignition k
        have causes := congrArg CycleView.causeSwitch k
        exact changes.elim (· ignition) (Or.elim · (· causes) (· cycle))

end Sys2Proof.Machine
end

section
/-! Proofs: the tachograph readout (R137 to R146) and the end of the bulb-check window (R153, R154). -/

namespace Sys2Proof.Machine

/-! ## Reports of the readout -/

section
variable {s t : State}

theorem reportTacho_eventEnd (s : State) : EventEnd s (reportTacho s) := (settleUnits_eventEnd true s).trans (.raiseItem not_ofTable_tacho _)

theorem reportTacho_due (due : Bool) (s : State) : EventEnd s (if due then reportTacho s else s) := by
  split
  · exact reportTacho_eventEnd s
  · exact .refl s

theorem reportTacho_noticed (s : State) : noticed tachoItem (reportTacho s) := noticed_raiseItem _ _



theorem judgeStale_eq {b : Bool} (h : (s.tacho.state = .estimated ∨ s.tacho.state = .lost) ↔ b = true) : judgeStale s = setCond .tachoStale b s := by
  unfold judgeStale
  congr 1
  rw [Bool.eq_iff_iff, ← h]
  simp

theorem judgeDriving_eq {st : ReadoutSettings} (h : s.tacho.state ≠ .none) :
    judgeDriving st s =
      setCond .tachoLimit (decide (st.limit ≤ s.tacho.continuous)) (setCond .tachoPrewarn (decide (st.prewarn ≤ s.tacho.continuous)) s) := by
  have on : (s.tacho.state != .none) = true := by simpa using h
  unfold judgeDriving
  simp only [on, Bool.true_and]

end

/-! ## The record's age -/

/-- Settles O46: the age rises, and at the stale time of CURRENT estimation begins. -/
theorem recordAge : Obligations.RecordAge := by
  intro ms st s hs hr
  dsimp only
  have running : s.tacho.ageTimer.isRunning = true := by rw [hr]; rfl
  have top : min 65535 (s.tacho.age + 1) = if s.tacho.age < 65535 then s.tacho.age + 1 else 65535 := by split <;> omega
  generalize (if s.tacho.age < 65535 then s.tacho.age + 1 else 65535) = age at top ⊢
  have done : exec .recordAgeTimerExpiry s = .next (complete s
      (if s.tacho.state = .current ∧ 10 * st.staleS ≤ age then enterEstimated (s.setTacho { s.tacho with age := age })
        else s.setTacho { s.tacho with age := age })) := by
    show Host.Outcome.next (complete s (onRecordAge s)) = _
    simp only [onRecordAge, hs, recordAgeExpiry, running, if_true, top]
    rfl
  refine ⟨fun h => ?_, fun hc ha => ?_⟩
  · rw [if_neg (fun k => h.elim (· k.1) fun h => by omega)] at done
    exact completes_end done rfl
  · rw [if_pos ⟨hc, ha⟩, enterEstimated, judgeStale_eq (b := true) (by simp)] at done
    exact completes_finish done ⟨(reportTacho_eventEnd _).trans (finishEvent_eventEnd s _), (reportTacho_noticed _).took (finishEvent_eventEnd s _).ports⟩

/-! ## Estimation -/

theorem drivingSecond_iff (st : ReadoutSettings) (v : View) :
    drivingSecond st v = true ↔ (v.state = .live ∨ v.state = .stale) ∧ (st.motion : Int) ≤ v.value := by
  simp [drivingSecond, View.serves_iff]

/-- Settles O47: a second of estimation by the readout's equation, which is reported where it adds a minute or ends estimation. -/
theorem estimation : Obligations.Estimation := by
  intro ms st s hs hr hstate below
  dsimp only
  have running : s.tacho.estimation.isRunning = true := by rw [hr]; rfl
  have eq := Readout.estimate_eq st (drivingSecond st s.signals[(0 : Fin 64)].view) s.tacho
  have after : s.tacho.secondsAfter (drivingSecond st s.signals[(0 : Fin 64)].view) =
      if (s.signals[(0 : Fin 64)].view.state = .live ∨ s.signals[(0 : Fin 64)].view.state = .stale) ∧
        (st.motion : Int) ≤ s.signals[(0 : Fin 64)].view.value then s.tacho.drivingSeconds + 1 else s.tacho.drivingSeconds := by
    simp only [← drivingSecond_iff, Readout.secondsAfter]
    cases drivingSecond st s.signals[(0 : Fin 64)].view <;> rfl
  have most : s.tacho.secondsAfter (drivingSecond st s.signals[(0 : Fin 64)].view) ≤ 60 ∧
      s.tacho.secondsAfter (drivingSecond st s.signals[(0 : Fin 64)].view) ≤ s.tacho.drivingSeconds + 1 := by
    rw [after]
    split <;> omega
  rw [← after]
  have done : exec .estimationTimerExpiry s = .next (complete s
      (if estimateReported s.tacho (s.tacho.estimate st (drivingSecond st s.signals[(0 : Fin 64)].view)) then
        reportTacho (judgeStale (judgeDriving st (s.setTacho (s.tacho.estimate st (drivingSecond st s.signals[(0 : Fin 64)].view)))))
      else judgeStale (judgeDriving st (s.setTacho (s.tacho.estimate st (drivingSecond st s.signals[(0 : Fin 64)].view)))))) := by
    show Host.Outcome.next (complete s (onEstimation s)) = _
    simp only [onEstimation, hs, estimationExpiry, running, if_true]
  generalize s.tacho.secondsAfter (drivingSecond st s.signals[(0 : Fin 64)].view) = n at eq most ⊢
  obtain ⟨most, next⟩ := most
  have minute : 60 ≤ n ↔ n = 60 := by omega
  simp only [minute, hstate, reduceCtorEq, if_false, hr] at eq
  generalize s.tacho.estimate st (drivingSecond st s.signals[(0 : Fin 64)].view) = r at eq done
  have known : r.state ≠ .none := by
    rw [eq]
    dsimp only
    split <;> simp
  have stale : r.state = .estimated ∨ r.state = .lost := by
    rw [eq]
    dsimp only
    split <;> simp
  have reported : n = 60 ∨ 1800 ≤ s.tacho.estimationTime + 1 → estimateReported s.tacho r = true := by
    rw [eq]
    simp only [estimateReported, hstate, Bool.or_eq_true, decide_eq_true_eq]
    rintro (h | h)
    · right
      rw [if_pos h]
      omega
    · left
      rw [if_pos h]
      rfl
  have judged : judgeStale (judgeDriving st (s.setTacho r)) =
      setCond .tachoStale true (setCond .tachoLimit (decide (st.limit ≤ r.continuous))
        (setCond .tachoPrewarn (decide (st.prewarn ≤ r.continuous)) (s.setTacho r))) := by
    rw [judgeDriving_eq known]
    exact judgeStale_eq ⟨fun _ => rfl, fun _ => stale⟩
  rw [judged] at done
  have ended {x u : State} (h : EventEnd x u) : EventEnd x (finishEvent s u) := h.trans (finishEvent_eventEnd s u)
  subst eq
  refine completes_finish done ⟨ended ?_, fun h => ?_⟩
  · exact reportTacho_due _ _
  · rw [if_pos (reported h)]
    exact (reportTacho_noticed _).took (finishEvent_eventEnd s _).ports

/-! ## The bulb-check window -/

theorem judgePassage_starting {s : State} (hc : s.cycle.state = .starting) (hw : s.cycle.window = .stopped) :
    judgePassage s = if ∀ i : Fin 6, s.gauges[i].state ∈ [.tracking, .parking, .parked] then enterRun s else s := by
  have all : (s.gauges.toList.all fun g => g.state.isReady) = true ↔ ∀ i : Fin 6, s.gauges[i].state ∈ [.tracking, .parking, .parked] := by
    rw [vector_all_iff]
    simp only [GaugeState.isReady_iff]
  have stopped : s.cycle.window.isRunning = false := by rw [hw]; rfl
  simp only [judgePassage, hc, stopped, Bool.not_false, Bool.true_and, all]

/-- The notice of item 112 where the window no longer runs (R162). -/
theorem finishEvent_windowNoticed {before u : State} (h : before.cycle.window.isRunning = true) (hu : u.cycle.window = .stopped) :
    noticed cycleItem (finishEvent before u) := by
  refine finishEvent_noticed fun k => ?_
  have window : (finishEvent before u).cycle.window.isRunning = before.cycle.window.isRunning := congrArg CycleView.windowRunning k
  rw [finishEvent_cycle, hu, h] at window
  exact absurd window (by decide)

/-- Settles O48: the window stops, and the passage to RUN is judged with it stopped. -/
theorem bulbCheckEnds : Obligations.BulbCheckEnds := by
  intro ms s hw hc
  have running : s.cycle.window.isRunning = true := by rw [hw]; rfl
  have done : exec .bulbCheckExpiry s = .next (complete s (judgePassage (s.setCycle { s.cycle with window := .stopped }))) := by
    show Host.Outcome.next (complete s (onBulbCheck s)) = _
    rw [onBulbCheck, if_pos running]
  rw [judgePassage_starting (s := s.setCycle { s.cycle with window := .stopped }) hc rfl] at done
  refine ⟨fun ⟨i, hi⟩ => ?_, fun all => ?_⟩
  · rw [if_neg (fun h => hi (h i))] at done
    exact completes_finish done ⟨finishEvent_eventEnd s _, finishEvent_settled s _, finishEvent_windowNoticed running rfl⟩
  · rw [if_pos (by exact all)] at done
    refine completes_finish done ⟨(EventEnd.signalEvent .cycle _).trans (finishEvent_eventEnd s _), finishEvent_settled s _,
      finishEvent_chimesSettled s _, finishEvent_windowNoticed running rfl,
      (released_changeCycle _ _).took (finishEvent_eventEnd s _).ports⟩

end Sys2Proof.Machine
end

section
/-! Proofs: a record's arrival and its validation (R137, R138). -/

namespace Sys2Proof.Machine

/-! ## What an arrival changes outside the table -/

section
variable {s t u : State}

theorem TableEvent.setTacho (h : TableEvent s t) (x : Readout) : TableEvent (s.setTacho x) (t.setTacho x) := { h with tacho := rfl }

theorem TableEvent.setCond (h : TableEvent s t) (c : Condition) (b : Bool) : TableEvent (setCond c b s) (setCond c b t) :=
  { h with
    conditions := fun d hd => by
      rw [cond_setCond, cond_setCond]
      split
      · rfl
      · exact h.conditions d hd }

theorem SameTable.setTacho (x : Readout) (s : State) : SameTable s (s.setTacho x) := .of_eq rfl rfl rfl

theorem SameTable.setCond (c : Condition) (b : Bool) (s : State) : SameTable s (setCond c b s) := .of_eq rfl rfl rfl

/-- The readout of an arrival (R138). -/
def arrivedReadout (rec : TachoRecord) (st : ReadoutSettings) (r : Readout) : Readout :=
  { r with
    record := some rec, age := 0, ageTimer := .running 100, state := .current, continuous := rec.continuous, daily := rec.daily
    remaining := st.limit - rec.continuous, estimation := .stopped, drivingSeconds := 0, estimationTime := 0 }

/-- What an arrival of a record makes of the distance counter, the readout and the conditions (R138). -/
def arrived (rec : TachoRecord) (st : ReadoutSettings) (d : Distance) (r : Readout) (s : State) : State :=
  setCond .tachoStale false
    (setCond .tachoWarning (decide (rec.warnings ≠ []))
      (setCond .tachoCardDriving (decide (rec.driver1 = .drive ∧ rec.card1 = .absent))
        (setCond .tachoLimit (decide (st.limit ≤ rec.continuous))
          (setCond .tachoPrewarn (decide (st.prewarn ≤ rec.continuous))
            (setCond .odoMismatch d.mismatch ((s.setDist d).setTacho (arrivedReadout rec st r)))))))

theorem TableEvent.arrived (h : TableEvent s t) (rec : TachoRecord) (st : ReadoutSettings) (d : Distance) (r : Readout) :
    TableEvent (arrived rec st d r s) (arrived rec st d r t) :=
  (((((((h.setDist d).setTacho _).setCond _ _).setCond _ _).setCond _ _).setCond _ _).setCond _ _).setCond _ _

theorem arrived_sameTable (rec : TachoRecord) (st : ReadoutSettings) (d : Distance) (r : Readout) (s : State) : SameTable s (arrived rec st d r s) :=
  .of_eq rfl rfl rfl

/-- The notice of the distance counter, where it is due. -/
def distanceDue (due : Bool) (s : State) : State := if due then raiseItem distanceItem s else s

theorem judgeRecord_eq (rec : TachoRecord) (s : State) :
    judgeRecord rec s =
      setCond .tachoWarning (decide (rec.warnings ≠ []))
        (setCond .tachoCardDriving (decide (rec.driver1 = .drive ∧ rec.card1 = .absent)) s) := by
  have card : (rec.driver1 == .drive && rec.card1 == .absent) = decide (rec.driver1 = .drive ∧ rec.card1 = .absent) := by
    rw [Bool.eq_iff_iff]
    simp
  have warning : (!rec.warnings.isEmpty) = decide (rec.warnings ≠ []) := by cases rec.warnings <;> rfl
  rw [judgeRecord, card, warning]

theorem becomeCurrent_eq (rec : TachoRecord) (st : ReadoutSettings) (d : Distance) (r : Readout) (s : State)
    (hs : s.tacho = { r with record := some rec, age := 0, ageTimer := .running 100 }) :
    becomeCurrent st rec (putDistance d s) = distanceDue (distanceChanged s.dist d) (arrived rec st d r s) := by
  have readout : becomeCurrent st rec (putDistance d s) =
      judgeStale (judgeRecord rec (judgeDriving st ((putDistance d s).setTacho (arrivedReadout rec st r)))) := by
    unfold becomeCurrent
    rw [putDistance_tacho, hs]
    rfl
  rw [readout, judgeDriving_eq (by simp [arrivedReadout]), judgeRecord_eq, judgeStale_eq (b := false) (by simp [arrivedReadout])]
  unfold putDistance
  dsimp only
  cases distanceChanged s.dist d <;> rfl

theorem distanceChanged_iff (a b : Distance) : distanceChanged a b = true ↔ DistanceDiffers a b := by
  simp only [distanceChanged, DistanceDiffers, Bool.or_eq_true, bne_iff_ne, or_assoc, ne_comm]

theorem distanceDue_eventEnd (due : Bool) (s : State) : EventEnd s (distanceDue due s) := by
  unfold distanceDue
  split
  · exact .raiseItem not_ofTable_distance s
  · exact .refl s

theorem distanceDue_only (due : Bool) (s : State) : ReportedOnly (fun i => i = distanceItem ∧ due = true) s (distanceDue due s) := by
  unfold distanceDue
  split
  next h => exact .raiseItem _ ⟨rfl, h⟩
  · exact .refl s _

theorem distanceDue_shown (due : Bool) (s : State) : SameShown s (distanceDue due s) := by
  unfold distanceDue
  split
  · exact .of_lamps rfl
  · exact .refl s

/-- The stages of an arrival behind its update: the counter's notice, item 110 behind the claims, and the event (R138, R145). -/
def arrivalReported (due : Bool) (a : State) : State := signalEvent .tachoRecord (reportTacho (distanceDue due a))

theorem arrivalReported_eventEnd (due : Bool) (a : State) : EventEnd a (arrivalReported due a) :=
  (distanceDue_eventEnd due a).trans ((reportTacho_eventEnd _).trans (.signalEvent _ _))

theorem arrivalReported_only (due : Bool) (a : State) :
    ReportedOnly (fun i => (∃ k : Fin 40, i = telltaleItem k) ∨ i = tachoItem ∨ (i = distanceItem ∧ due = true)) a (arrivalReported due a) := by
  have counter := (distanceDue_only due a).mono (M := fun i => (∃ k : Fin 40, i = telltaleItem k) ∨ i = tachoItem ∨ (i = distanceItem ∧ due = true))
    fun i h => .inr (.inr h)
  have claims := (settleUnits_shown (distanceDue due a)).1.mono
    (M := fun i => (∃ k : Fin 40, i = telltaleItem k) ∨ i = tachoItem ∨ (i = distanceItem ∧ due = true)) fun i ⟨k, h, _⟩ => .inl ⟨k, h⟩
  exact counter.trans (claims.trans ((ReportedOnly.raiseItem _ (.inr (.inl rfl))).trans (.signalEvent _ _ _)))

theorem telltaleItem_ne_tachoItem (k : Fin 40) : telltaleItem k ≠ tachoItem := by
  intro h
  have := congrArg Fin.val h
  simp only [telltaleItem, tachoItem] at this
  omega

theorem telltaleItem_ne_distanceItem (k : Fin 40) : telltaleItem k ≠ distanceItem := by
  intro h
  have := congrArg Fin.val h
  simp only [telltaleItem, distanceItem] at this
  omega

theorem arrivalReported_telltales (due : Bool) (a : State) : TelltalesReported a (arrivalReported due a) := by
  have counter : NoTelltale a (distanceDue due a) :=
    (distanceDue_only due a).mono fun i h k hk => telltaleItem_ne_distanceItem k (hk.symm.trans h.1)
  refine .after counter (distanceDue_shown due a) ?_
  have claims := settleUnits_reported (distanceDue due a)
  intro p i hi
  have item : ReportedOnly (fun i => i = tachoItem) (settleUnits true (distanceDue due a)) (arrivalReported due a) :=
    (ReportedOnly.raiseItem (N := fun i => i = tachoItem) _ rfl).trans (.signalEvent _ _ _)
  rcases item p i hi with old | rfl
  · exact claims p i old
  · exact .inr fun k hk => absurd hk.symm (telltaleItem_ne_tachoItem k)

/-- One operation on an entry, fed or not. -/
theorem Stepped.followedWhere {b : Bool} {i : Fin 64} {fed : Prop} (T : TableEvent s t) (S : Stepped b i fed s t) :
    Followed b (fun e => e = i ∧ fed) s t :=
  ((LoopFollowed.refl (fun _ => False) (fun _ => id) t).cons id T S).followed |> fun h => by
    have e : (fun e : Fin 64 => (e = i ∧ fed) ∨ False) = fun e => e = i ∧ fed := by
      funext e
      rw [or_false]
    exact e ▸ h

/-- The part of an arrival that the signal table takes. -/
def arrivalDelivered (rec : TachoRecord) (s : State) : State := deliverTo (.link .tlink) (.value rec.speed) 2 (storeRecord rec s)

theorem recordArrival_eq {rec : TachoRecord} {st : ReadoutSettings} (hs : s.tacho.settings = some st) :
    recordArrival rec s =
      arrivalReported (distanceChanged s.dist (s.dist.adopt rec.odometer))
        (arrived rec st (s.dist.adopt rec.odometer) s.tacho (arrivalDelivered rec s)) := by
  have table : TableEvent (storeRecord rec s) (arrivalDelivered rec s) := deliverTo_table _ _ _ _
  have steps : recordArrival rec s = signalEvent .tachoRecord (reportTacho (becomeCurrent st rec
      (putDistance ((arrivalDelivered rec s).dist.adopt rec.odometer) (arrivalDelivered rec s)))) := by
    unfold recordArrival
    rw [hs]
    rfl
  have dist : (arrivalDelivered rec s).dist = s.dist := table.dist
  rw [steps, becomeCurrent_eq rec st _ s.tacho _ table.tacho, dist]
  rfl

end

/-! ## Validation -/

/-- Driver 1's activity by its code; ABSENT is none of its own (R137). -/
theorem activity1_eq (code : Nat) :
    (activity1 code).1 = (([.rest, .available, .work, .drive, .unknown] : List Activity)[code]?).getD .unknown ∧
      ((activity1 code).2 = true ↔ 4 < code) ∧ (activity1 code).1 ≠ .absent := by
  match code with
  | 0 | 1 | 2 | 3 | 4 | 5 => decide
  | n + 6 => simp [activity1, Activity.ofCode]

theorem activity2_eq (code : Nat) :
    (activity2 code).1 = (([.rest, .available, .work, .drive, .unknown, .absent] : List Activity)[code]?).getD .unknown ∧
      ((activity2 code).2 = true ↔ 5 < code) := by
  match code with
  | 0 | 1 | 2 | 3 | 4 | 5 => decide
  | n + 6 => simp [activity2, Activity.ofCode]

theorem cardOf_eq (code : Nat) :
    (cardOf code).1 = (([.absent, .present, .fault] : List Card)[code]?).getD .fault ∧ ((cardOf code).2 = true ↔ 2 < code) := by
  match code with
  | 0 | 1 | 2 => decide
  | n + 3 => simp [cardOf, Card.ofCode]

theorem warningOf_eq (code : Nat) :
    (warningOf code).1 =
        (if code = 1 then .overspeed else if code = 2 then .cardMissing else if code = 3 then .driveLimit
        else if code = 4 then .powerInterrupt else if code = 5 then .sensorFault else .other) ∧
      ((warningOf code).2 = true ↔ code = 0 ∨ 6 < code) := by
  match code with
  | 0 | 1 | 2 | 3 | 4 | 5 | 6 => decide
  | n + 7 => simp [warningOf, Warning.ofCode]

theorem localTimeOf_eq (x : Nat) :
    (localTimeOf x).1 = (if x ≤ 1439 then some x else none) ∧ ((localTimeOf x).2 = true ↔ 1439 < x ∧ x ≠ 0xFFFF) := by
  unfold localTimeOf
  by_cases h : x = 0xFFFF
  · subst h
    decide
  · by_cases k : 1439 < x
    · simp [h, k]
    · simp [h, k, Nat.le_of_not_lt k]

/-- Settles O45: the arrival's update of TSPD between the storing of the record and what the counter, the readout and the conditions take; each
field's validation by its equation. -/
theorem recordArrival_arrives : Obligations.RecordArrival := by
  unfold Obligations.RecordArrival
  refine ⟨fun rec st s hs hc => ?_, fun p data s => rfl, fun data => ?_, fun data => ?_⟩
  · have stored : SameTable s (storeRecord rec s) := .of_eq rfl rfl rfl
    have table : TableEvent (storeRecord rec s) (arrivalDelivered rec s) := deliverTo_table _ _ _ _
    have becomes := deliverTo_spec (.link .tlink) (.value rec.speed) 2 (storeRecord rec s) hc
    have stepped := deliverTo_stepped (.link .tlink) (.value rec.speed) 2 (storeRecord rec s) hc
    have reports := (deliverTo_reports (.link .tlink) (.value rec.speed) 2 (storeRecord rec s)).entries
    have only := deliverTo_only (.link .tlink) (.value rec.speed) 2 (storeRecord rec s)
    have shown := deliverTo_shown (.link .tlink) (.value rec.speed) 2 (storeRecord rec s)
    change EntryBecomes 2 _ _ (arrivalDelivered rec s) at becomes
    change Stepped true 2 _ _ (arrivalDelivered rec s) at stepped
    change EntriesReported _ (arrivalDelivered rec s) at reports
    change ReportedOnly _ _ (arrivalDelivered rec s) at only
    change SameShown _ (arrivalDelivered rec s) at shown
    dsimp only
    rw [recordArrival_eq hs]
    generalize arrivalDelivered rec s = m at table becomes stepped reports only shown ⊢
    generalize hd : s.dist.adopt rec.odometer = d
    have ended := arrivalReported_eventEnd (distanceChanged s.dist d) (arrived rec st d s.tacho m)
    have tail := arrivalReported_only (distanceChanged s.dist d) (arrived rec st d s.tacho m)
    have telltales := arrivalReported_telltales (distanceChanged s.dist d) (arrived rec st d s.tacho m)
    have tacho : noticed tachoItem (arrivalReported (distanceChanged s.dist d) (arrived rec st d s.tacho m)) :=
      (reportTacho_noticed _).took (EventEnd.signalEvent .tachoRecord _).ports
    have released : Released .tachoRecord (arrivalReported (distanceChanged s.dist d) (arrived rec st d s.tacho m)) := released_signalEvent _ _
    have counter : distanceChanged s.dist d = true →
        noticed distanceItem (arrivalReported (distanceChanged s.dist d) (arrived rec st d s.tacho m)) := fun h => by
      rw [h]
      exact (noticed_raiseItem _ _).took ((reportTacho_eventEnd _).trans (.signalEvent _ _)).ports
    generalize arrivalReported (distanceChanged s.dist d) (arrived rec st d s.tacho m) = t at ended tail telltales tacho released counter ⊢
    have dist : t.dist = d := ended.dist
    have signals : t.signals = m.signals := ended.signals
    have toArrived : NoTelltale s (arrived rec st d s.tacho m) :=
      NoTelltale.of_signalGauge (ReportedOnly.congr (s := storeRecord rec s) (t := m) rfl rfl only) fun _ h => h
    refine ⟨(table.arrived rec st d s.tacho).trans ended.table, ?_, fun e he => ?_, ?_, tacho, released, fun h => counter (by rwa [dist] at h),
      ?_, .after toArrived shown telltales, ?_⟩
    · rw [signals]
      exact becomes.here
    · rw [signals]
      exact becomes.others e he
    · have followed := stepped.followedWhere table
      have fed : (fun e : Fin 64 => e = 2 ∧ fedBy (.link .tlink) (storeRecord rec s) 2) = fun e => e = 2 ∧ fedBy (.link .tlink) s e := by
        funext e
        exact propext ⟨fun ⟨h, k⟩ => ⟨h, h ▸ k⟩, fun ⟨h, k⟩ => ⟨h, h ▸ k⟩⟩
      rw [fed] at followed
      exact followed.congr stored rfl rfl ((arrived_sameTable rec st d s.tacho m).trans ended.sameTable) ended.ports
    · exact (reports.congr (s' := s) (t' := arrived rec st d s.tacho m) rfl rfl rfl rfl).ended ended
    · refine (ReportedOnly.congr (s := storeRecord rec s) (t := m) rfl rfl (only.mono fun i hi => ?_)).trans
        (tail.mono fun i hi => ?_)
      · exact ⟨fun h => not_ofTable_cycle (h ▸ hi), fun h => absurd (h ▸ hi) not_ofTable_distance⟩
      · rw [dist]
        rcases hi with ⟨k, rfl⟩ | rfl | ⟨rfl, h⟩
        · exact ⟨telltaleItem_ne_cycleItem k, fun h => absurd h (telltaleItem_ne_distanceItem k)⟩
        · exact ⟨by decide, fun h => absurd h (by decide)⟩
        · exact ⟨by decide, fun _ => (distanceChanged_iff _ _).1 h⟩
  · exact ⟨rfl, rfl, rfl, rfl, rfl, rfl, (localTimeOf_eq _).1, by simp [validateRecord, atMost]; rfl, (activity1_eq _).2.2⟩
  · refine ⟨(activity1_eq _).1, (activity2_eq _).1, (cardOf_eq _).1, (cardOf_eq _).1, ?_, ?_⟩
    · simp only [validateRecord, List.map_map]
      exact List.map_congr_left fun k _ => (warningOf_eq _).1
    · simp only [validateRecord, atMost, Bool.or_eq_true, decide_eq_true_eq, List.any_map, List.any_eq_true, List.mem_range,
        Function.comp_apply, (activity1_eq _).2.1, (activity2_eq _).2, (cardOf_eq _).2, (localTimeOf_eq _).2, (warningOf_eq _).2, or_assoc]
      rfl

end Sys2Proof.Machine
end

section
/-! Proofs: the running of the frames. -/

namespace Sys2Proof.Machine

/-! ## No request adds work -/

section
variable {s t u : State}

theorem work_ite {p : Prop} [Decidable p] (ht : p → WorkKept s t) (hu : ¬p → WorkKept s u) : WorkKept s (if p then t else u) := by
  split
  · exact ht ‹_›
  · exact hu ‹_›

end

section
variable (s : State)

theorem work_putDistance (d : Distance) : WorkKept s (putDistance d s) :=
  have marked : WorkKept s (setCond .odoMismatch d.mismatch (s.setDist d)) := .of_ports rfl
  work_ite (fun _ => marked.trans (steady_raiseItem ..).work) (fun _ => marked)

theorem work_setTacho (r : Readout) : WorkKept s (s.setTacho r) := .of_ports rfl

theorem work_becomeCurrent (st : ReadoutSettings) (rec : TachoRecord) : WorkKept s (becomeCurrent st rec s) :=
  have judged (c : Condition) (b : Bool) (u : State) : WorkKept u (setCond c b u) := .of_ports rfl
  .trans (work_setTacho ..) <| .trans ((judged ..).trans (judged ..)) <| .trans (judged ..) <| .trans (judged ..) (judged ..)

theorem work_recordArrival (rec : TachoRecord) : WorkKept s (recordArrival rec s) := by
  unfold recordArrival
  split
  · exact .refl s
  · exact .trans (work_setTacho ..) <| .trans (steady_deliverTo ..).work <| .trans (work_putDistance ..) <|
      .trans (work_becomeCurrent ..) <| .trans (steady_reportTacho _).work (steady_signalEvent ..).work

theorem work_restart : WorkKept s (restart s) := ⟨fun p => by cases p <;> exact Nat.zero_le _⟩

theorem work_runControl (p : Port) (i : Nat) : WorkKept s (runControl p i s) := by
  refine work_ite (fun _ => ?commit) fun _ => work_ite (fun _ => ?restart) (fun _ => (steady_setCycle ..).work)
  case commit =>
    have marked : WorkKept s (s.setStore { s.store with state := .committing }) := .of_ports rfl
    exact marked.trans ((steady_setCycle ..).work.trans (workKept_mapExec (f := fun f => { f with commit := true }) (fun _ => rfl) ..))
  case restart => exact work_ite (fun _ => (steady_setCycle ..).work) (fun _ => work_restart s)

theorem work_setWatch (x : PortState) (j bits : Nat) : (x.setWatch j bits).work = x.work := by
  simp [PortState.work, PortState.setWatch]

theorem work_writeElement (r : Region) (p : Port) (i : Nat) (data : List Byte) : WorkKept s (writeElement r p i data s) := by
  cases r with
  | signals =>
    simp only [writeElement]
    cases finOf 64 i with
    | none => exact .refl s
    | some e => exact (steady_deliverTo ..).work
  | telltales =>
    simp only [writeElement]
    cases finOf 40 i with
    | none => exact .refl s
    | some t => exact (steady_setLamps ..).work
  | chimes =>
    simp only [writeElement]
    cases finOf 8 i with
    | none => exact .refl s
    | some k => exact (steady_setLamps ..).work
  | tacho => exact work_recordArrival ..
  | distance => exact work_putDistance ..
  | watch => exact workKept_setPort (work_setWatch ..).le
  | config => exact .of_ports rfl
  | control => exact work_runControl ..
  | directory | signalDetail | gauges | links | cycleState => exact .refl s

theorem work_pushResult (p : Port) (o : RequestOutcome) (n : Nat) (data : List Byte) : WorkKept s (pushResult p o n data s) :=
  have joined := workKept_mapExec (f := fun f => { f with results := f.results ++ resultBytes o n data, room := f.room - data.length })
    (fun _ => rfl) p s
  work_ite (fun _ => joined.trans (workKept_setPort le_rfl)) (fun _ => joined)

theorem work_setCursor (p : Port) (r : Region) (i : Nat) : WorkKept s (setCursor p r i s) := workKept_setPort le_rfl

theorem work_runWrite (p : Port) (r : Region) (index count : Nat) (data : List Byte) : WorkKept s (runWrite p r index count data s) := by
  refine work_ite (fun _ => work_pushResult ..) fun _ => work_ite (fun _ => work_pushResult ..) fun _ => ?_
  dsimp only
  split
  · exact work_pushResult ..
  · have written (items : List (Nat × List Byte)) (u : State) : WorkKept u (items.foldl (fun s it => writeElement r p it.1 it.2 s) u) :=
      workKept_foldl _ (fun s it => work_writeElement s r p it.1 it.2) items u
    exact (work_setCursor ..).trans ((written ..).trans (work_pushResult ..))

theorem work_runRead (p : Port) (region index count : Nat) : WorkKept s (runRead p region index count s) := by
  unfold runRead
  split
  · exact work_pushResult ..
  · refine work_ite (fun _ => work_pushResult ..) fun _ => work_ite (fun _ => work_pushResult ..) fun _ => ?_
    exact .trans (work_ite (fun _ => .refl s) (fun _ => work_setCursor ..)) (work_pushResult ..)

theorem work_runWait (p : Port) (index count : Nat) : WorkKept s (runWait p index count s) := by
  unfold runWait
  split
  · exact work_pushResult ..
  · next ev _ =>
    have held := workKept_mapExec (f := fun f => { f with hold := some (ev, .running (10 * count)) }) (fun _ => rfl) p s
    exact work_ite (fun _ => work_pushResult ..) fun _ => work_ite (fun _ => work_pushResult ..) fun _ =>
      held.trans (workKept_setPort le_rfl)

theorem work_runChanges (p : Port) (count : Nat) :
    WorkKept s (runChanges p count s) := by
  have taken (n : Nat) : WorkKept s (setPort p { s.port p with changes := (s.port p).changes.drop n } s) := workKept_setPort (by rfl)
  exact work_ite (fun _ => work_pushResult ..) (fun _ => (taken _).trans (work_pushResult ..))

theorem work_runRequest (p : Port) (q : Request) : WorkKept s (runRequest p q s) := by
  cases q with
  | read region index count => exact work_runRead ..
  | write r index count data => exact work_runWrite ..
  | wait index count => exact work_runWait ..
  | changes count => exact work_runChanges ..
  | faulty o => exact work_pushResult ..

/-! ## The work falls with every request and every end -/

theorem WorkKept.total {s t : State} (h : WorkKept s t) : t.work ≤ s.work :=
  Nat.add_le_add (Nat.add_le_add (h.le .dlink) (h.le .nlink)) (h.le .tlink)

theorem work_setPort (p : Port) (x : PortState) : (setPort p x s).work + (s.port p).work = s.work + x.work := by
  cases p with
  | dlink =>
    show x.work + s.ports.nlink.work + s.ports.tlink.work + s.ports.dlink.work = s.work + x.work
    unfold State.work
    omega
  | nlink =>
    show s.ports.dlink.work + x.work + s.ports.tlink.work + s.ports.nlink.work = s.work + x.work
    unfold State.work
    omega
  | tlink =>
    show s.ports.dlink.work + s.ports.nlink.work + x.work + s.ports.tlink.work = s.work + x.work
    unfold State.work
    omega

theorem endedPort_exec (inLoad : Bool) (f : FrameExec) (x : PortState) : (endedPort inLoad f x).exec = none := by
  unfold endedPort resumeLinkTimer
  split <;> rfl

theorem work_finishFrame (p : Port) (f : FrameExec) (h : (s.port p).exec = some f) : (finishFrame p f s).work < s.work := by
  have ended := work_setPort s p (endedPort s.inLoad f (s.port p))
  have nothing : (endedPort s.inLoad f (s.port p)).work = 0 := by simp [PortState.work, endedPort_exec]
  have before : 0 < (s.port p).work := by simp [PortState.work, h]
  have same : (finishFrame p f s).work = (setPort p (endedPort s.inLoad f (s.port p)) s).work := by
    rw [finishFrame_eq]
    split <;> rfl
  omega

theorem work_frameRequest (p : Port) (f : FrameExec) (q : Request) (rest : List Request) (h : (s.port p).exec = some f)
    (hr : f.rest = q :: rest) : (frameRequest p f q rest s).work < s.work := by
  have opened := work_setPort s p { s.port p with exec := some { f with rest := rest } }
  have before : (s.port p).work = rest.length + 2 := by simp [PortState.work, h, hr]
  have after : PortState.work { s.port p with exec := some { f with rest := rest } } = rest.length + 1 := rfl
  have kept : (frameRequest p f q rest s).work ≤ (setPort p { s.port p with exec := some { f with rest := rest } } s).work :=
    ((work_runRequest _ p q).trans (steady_finishEvent s _).work).total
  omega

theorem advanceFrame_end {p : Port} {f : FrameExec} (h : (s.port p).exec = some f) (hr : f.rest = []) :
    advanceFrame p s = finishFrame p f s := by
  unfold advanceFrame
  rw [h]
  dsimp only
  rw [hr]

theorem advanceFrame_request {p : Port} {f : FrameExec} {q : Request} {rest : List Request} (h : (s.port p).exec = some f)
    (hr : f.rest = q :: rest) : advanceFrame p s = frameRequest p f q rest s := by
  unfold advanceFrame
  rw [h]
  dsimp only
  rw [hr]

theorem runnable_iff (x : PortState) : x.runnable = true ↔ ∃ f, x.exec = some f ∧ f.hold = none := by
  simp [PortState.runnable, Option.any_eq_true]

theorem work_advanceFrame {p : Port} (h : (s.port p).runnable = true) : (advanceFrame p s).work < s.work := by
  obtain ⟨f, hf, -⟩ := (runnable_iff _).1 h
  cases hr : f.rest with
  | nil => rw [advanceFrame_end s hf hr]; exact work_finishFrame s p f hf
  | cons q rest => rw [advanceFrame_request s hf hr]; exact work_frameRequest s p f q rest hf hr

/-! ## The next runnable frame -/

theorem nextRunnable_iff (p : Port) :
    s.nextRunnable = some p ↔
      (s.port p).runnable = true ∧ (p = .nlink → ¬(s.port .dlink).runnable = true) ∧
        (p = .tlink → ¬(s.port .dlink).runnable = true ∧ ¬(s.port .nlink).runnable = true) := by
  unfold State.nextRunnable
  have order (p : Port) (d n t : Bool) (own : Bool) (h : own = match p with | .dlink => d | .nlink => n | .tlink => t) :
      (if d then some Port.dlink else if n then some .nlink else if t then some .tlink else none) = some p ↔
        own = true ∧ (p = .nlink → ¬d = true) ∧ (p = .tlink → ¬d = true ∧ ¬n = true) := by
    subst h
    cases p <;> revert d n t <;> decide
  exact order p _ _ _ _ (by cases p <;> rfl)

theorem work_pos_of_next {p : Port} (h : s.nextRunnable = some p) : (advanceFrame p s).work < s.work :=
  work_advanceFrame s ((nextRunnable_iff s p).1 h).1

end

/-- With fuel for the work there is, the frames run until none is runnable. -/
theorem runFramesFor_settles : ∀ (n : Nat) (s : State), s.work ≤ n → (runFramesFor n s).nextRunnable = none
  | 0, s, h => by
    cases hn : s.nextRunnable with
    | none => exact hn
    | some p => have := work_pos_of_next s hn; omega
  | n + 1, s, h => by
    cases hn : s.nextRunnable with
    | none => simp [runFramesFor, hn]
    | some p =>
      have falls := work_pos_of_next s hn
      simpa [runFramesFor, hn] using runFramesFor_settles n (advanceFrame p s) (by omega)

/-- Fuel beyond the work there is changes nothing. -/
theorem runFramesFor_fuel : ∀ (n m : Nat) (s : State), s.work ≤ n → s.work ≤ m → runFramesFor n s = runFramesFor m s
  | 0, m, s, hn, _ => by
    have idle : s.nextRunnable = none := runFramesFor_settles 0 s hn
    cases m <;> simp [runFramesFor, idle]
  | n + 1, m, s, hn, hm => by
    cases next : s.nextRunnable with
    | none => cases m <;> simp [runFramesFor, next]
    | some p =>
      have falls := work_pos_of_next s next
      obtain ⟨m, rfl⟩ : ∃ k, m = k + 1 := ⟨m - 1, by omega⟩
      simpa [runFramesFor, next] using runFramesFor_fuel n m (advanceFrame p s) (by omega) (by omega)

/-- See `runFramesFor_settles`. -/
theorem runFrames_settles (s : State) : (runFrames s).nextRunnable = none := runFramesFor_settles _ s le_rfl

/-- The next runnable frame's request or end, and then the frames that are runnable behind it. -/
theorem runFrames_next {s : State} {p : Port} (h : s.nextRunnable = some p) : runFrames s = runFrames (advanceFrame p s) := by
  have falls := work_pos_of_next s h
  unfold runFrames
  obtain ⟨n, hn⟩ : ∃ n, s.work = n + 1 := ⟨s.work - 1, by omega⟩
  rw [hn, runFramesFor, h]
  exact runFramesFor_fuel _ _ _ (by omega) le_rfl

/-! ## The statement -/

/-- The port of a frame that has ended. -/
theorem endedPort_eq (s : State) (f : FrameExec) (x : PortState) :
    endedPort s.inLoad f x =
      { x with
        exec := none, reply := some (replyFrame f.sequence .ok f.results)
        linkTimer := if x.link = .up ∧ x.linkTimer = .stopped ∧ s.cycle.state ≠ .load then .running x.timeout else x.linkTimer } := by
  have load : s.inLoad = false ↔ s.cycle.state ≠ .load := by simp [State.inLoad]
  unfold endedPort resumeLinkTimer
  simp only [load]
  split <;> rfl

/-- The image behind the erasure of block 239, the last 16 bytes of its 3,840. -/
theorem Memory.read_eraseLastBlock {m : Memory} (h : m.wf) (a : Nat) :
    (Memory.eraseLastBlock m).read a = if 3824 ≤ a ∧ a < 3840 then 0xFF else m.read a := by
  rw [Memory.eraseLastBlock, Memory.read_writeBlock m h]
  simp only [List.length_replicate]
  split
  · next inside =>
    rw [List.getD_eq_getElem _ _ (by simp; omega), List.getElem_replicate]
  · rfl

/-- Settles O2: every request and every end lowers the work that is left, so that the fuel that `runFrames` has suffices. -/
theorem framesHeldKept : Obligations.FramesHeldKept := by
  unfold Obligations.FramesHeldKept
  refine ⟨fun s => ⟨runFrames_settles s, runFrames_idle s⟩, fun s p => runFrames_next, fun s p => ?order, fun s p f hf => ⟨?request, ?ended⟩, ?step⟩
  case order => simp only [nextRunnable_iff, runnable_iff]
  case request =>
    intro q rest hr
    rw [advanceFrame_request s hf hr]
    have view (before u : State) : (finishEvent before u).cycleView = u.cycleView := by
      rw [State.cycleView, (finishEvent_eventEnd before u).cycle, (finishEvent_eventEnd before u).conv]
      rfl
    exact ⟨finishEvent_eventEnd s _, fun h => finishEvent_noticed fun same => h (by rw [← same]; exact view s _)⟩
  case ended =>
    intro hr
    rw [advanceFrame_end s hf hr, finishFrame_eq, endedPort_eq]
    refine ⟨fun hc => by rw [hc]; rfl, fun hc => ⟨Memory.eraseLastBlock s.store.image, by rw [hc]; rfl, fun wf a => ?_⟩⟩
    exact Memory.read_eraseLastBlock wf a
  case step =>
    intro s t held h
    obtain rfl | ⟨c, rest, -, hx⟩ := step_cases h
    · exact held
    · obtain ⟨strap, -, he⟩ | ⟨u, he, -⟩ := exec_forms (s.setPending rest) c
      · obtain rfl := Host.Outcome.next.inj (he.symm.trans hx)
        rfl
      · obtain rfl := Host.Outcome.next.inj (he.symm.trans hx)
        exact runFrames_settles _

end Sys2Proof.Machine
end

section
/-! Proofs: the transports. -/

namespace Sys2Proof.Machine

/-! ## A frame judged -/

/-- A port that has accepted a good frame. -/
def PortState.accepted (inLoad : Bool) (sequence : Byte) (body : List Byte) (x : PortState) : PortState :=
  { ({ x with counters := { x.counters with good := x.counters.good + 1 } }.recover.comeUp inLoad) with exec := some (openExec sequence body) }

theorem PortState.accepted_eq (s : State) (sequence : Byte) (body : List Byte) (x : PortState) :
    x.accepted s.inLoad sequence body =
      { x with
        link := .up
        linkTimer := if s.cycle.state = .load then x.linkTimer else .running x.timeout
        counters := { x.counters with good := x.counters.good + 1 }
        cursors := if x.link = .lost then .replicate 13 0 else x.cursors
        changes := if x.link = .lost then (List.finRange 113).filter (fun i => x.watch[i]) else x.changes
        exec := some
          { sequence := sequence, rest := requestsOf body, results := [], room := 239 - 2 * (requestsOf body).length
            hold := none, commit := false } } := by
  have load : s.inLoad = true ↔ s.cycle.state = .load := by simp [State.inLoad]
  unfold PortState.accepted PortState.comeUp PortState.recover
  simp only [load]
  by_cases hl : x.link = .lost
  · simp only [hl, if_true]
    rfl
  · simp only [hl, if_false]
    rfl

/-- A port that has taken a bad frame. -/
def PortState.bad (status : FrameStatus) (sequence : Byte) (x : PortState) : PortState :=
  { x with
    counters :=
      if status = .badCheck then { x.counters with badCheck := x.counters.badCheck + 1 }
      else { x.counters with badLength := x.counters.badLength + 1 }
    reply := some (replyFrame sequence status []) }

section
variable (p : Port) (y : PortState) (s : State)

theorem port_setPort_self : (setPort p y s).port p = y := by simp

theorem acceptFrame_setPort (sequence : Byte) (body : List Byte) :
    acceptFrame p sequence body (setPort p y s) =
      setPort p (y.accepted s.inLoad sequence body) (if y.link = .lost then setCond (linkLostCondition p) false s else s) := by
  unfold acceptFrame PortState.accepted
  simp only [port_setPort_self]
  by_cases h : y.link = .lost
  · simp only [h, if_true]
    rw [show setCond (linkLostCondition p) false (setPort p y s) = setPort p y (setCond (linkLostCondition p) false s) from rfl, setPort_setPort]
    rfl
  · simp only [h, if_false]
    rw [setPort_setPort]
    rfl

theorem badFrame_setPort {status : FrameStatus} (h : status ≠ .ok) (sequence : Byte) :
    badFrame p status sequence (setPort p y s) = setPort p (y.bad status sequence) s := by
  unfold badFrame PortState.bad
  simp only [port_setPort_self, setPort_setPort]
  cases status with
  | ok => exact absurd rfl h
  | badCheck | badLength => rfl

theorem busyFrame_setPort :
    busyFrame p (setPort p y s) = setPort p { y with counters := { y.counters with busy := y.counters.busy + 1 } } s := by
  unfold busyFrame
  simp only [port_setPort_self, setPort_setPort]

end

section
variable {bs : List Byte}

/-- A length field outside its range, or a period too short for it (R165). -/
theorem judgeFrame_short (h : ¬(1 ≤ (bs.getD 0 0).toNat ∧ (bs.getD 0 0).toNat ≤ 240) ∨ bs.length < (bs.getD 0 0).toNat + 4) :
    judgeFrame bs = .bad .badLength (bs.getD 1 0) := by
  unfold judgeFrame legalLength byteAt
  dsimp only
  by_cases legal : 1 ≤ (bs.getD 0 0).toNat ∧ (bs.getD 0 0).toNat ≤ 240
  · have short := h.resolve_left fun k => k legal
    simp only [legal, and_self, decide_true, Bool.not_true, Bool.false_eq_true, if_false, short, if_true]
  · simp only [legal, decide_false, Bool.not_false, if_true]

/-- A whole frame is judged by its CRC (R165). -/
theorem judgeFrame_whole (legal : 1 ≤ (bs.getD 0 0).toNat ∧ (bs.getD 0 0).toNat ≤ 240) (whole : (bs.getD 0 0).toNat + 4 ≤ bs.length) :
    judgeFrame bs =
      if crc16 (bs.take ((bs.getD 0 0).toNat + 2)) =
          BitVec.ofNat 16 ((bs.getD ((bs.getD 0 0).toNat + 2) 0).toNat * 256 + (bs.getD ((bs.getD 0 0).toNat + 3) 0).toNat)
      then .good (bs.getD 1 0) ((bs.drop 2).take (bs.getD 0 0).toNat) else .bad .badCheck (bs.getD 1 0) := by
  unfold judgeFrame legalLength
  dsimp only
  simp only [byteAt, legal, and_self, decide_true, Bool.not_true, Bool.false_eq_true, if_false, whole.not_gt]
  rfl

end

/-! ## Chip-select periods -/

theorem PortState.closePeriod_eq (b : Byte) (bs : List Byte) (x : PortState) :
    x.closePeriod (b :: bs) = { x with period := .idle, reply := if x.period = .idle then none else x.reply } := by
  unfold PortState.closePeriod PortState.keptReply
  cases x.period <;> rfl

theorem spiPort_inExecution (port : SpiPort) (x : PortState) : x.inExecution port.toPort = x.exec.isSome := by
  cases port <;> exact Bool.or_false _

section
variable {p : SpiPort} {b : Byte} {bs : List Byte} {s : State}

/-- A period that was not discarded, with the frame that it carries. -/
theorem endPeriod_frame (h : (s.port p.toPort).period ≠ .discarded) :
    endPeriod p.toPort (b :: bs) s =
      (periodVerdict (b :: bs)).elim (setPort p.toPort ((s.port p.toPort).closePeriod (b :: bs)) s) fun v =>
        frameArrived p.toPort v (setPort p.toPort ((s.port p.toPort).closePeriod (b :: bs)) s) := by
  unfold endPeriod
  simp only [h, if_false]
  cases periodVerdict (b :: bs) <;> rfl

theorem frameArrived_busy {y : PortState} {v : Verdict} (h : y.exec ≠ none) :
    frameArrived p.toPort v (setPort p.toPort y s) =
      setPort p.toPort { y with counters := { y.counters with busy := y.counters.busy + 1 } } s := by
  have busy : y.inExecution p.toPort = true := by rw [spiPort_inExecution]; exact Option.isSome_iff_ne_none.2 h
  unfold frameArrived
  rw [port_setPort_self, busy, if_pos rfl, busyFrame_setPort]

theorem frameArrived_idle {y : PortState} {v : Verdict} (h : y.exec = none) :
    frameArrived p.toPort v (setPort p.toPort y s) = takeVerdict p.toPort v (setPort p.toPort y s) := by
  have idle : y.inExecution p.toPort = false := by rw [spiPort_inExecution, h]; rfl
  unfold frameArrived
  rw [port_setPort_self, idle, if_neg (by simp)]

end

/-- Settles O50: the period closes, and the frame that it carries is judged. -/
theorem spiPeriodEnds : Obligations.SpiPeriodEnds := by
  unfold Obligations.SpiPeriodEnds
  intro port b bs s p x closed c n body sums legal bad
  have hc : exec (.spiPeriodEnd port (b :: bs)) s = .next (complete s (endPeriod p (b :: bs) s)) := rfl
  have close : x.closePeriod (b :: bs) = closed := PortState.closePeriod_eq b bs x
  refine ⟨fun h => completes_end hc ?_, fun h => ?_⟩
  · have kept : closed = { x with period := .idle } := by simp [closed, h]
    rw [← kept, ← close]
    unfold endPeriod
    exact if_pos h
  have frame := endPeriod_frame (b := b) (bs := bs) h
  rw [show (s.port port.toPort).closePeriod (b :: bs) = closed from close] at frame
  have carries {v : Verdict} (hv : periodVerdict (b :: bs) = some v) : endPeriod p (b :: bs) s = frameArrived p v (setPort p closed s) := by
    rw [frame, hv]
    rfl
  have judged {v : Verdict} (hv : periodVerdict (b :: bs) = some v) (he : x.exec = none) :
      endPeriod p (b :: bs) s = takeVerdict p v (setPort p closed s) := (carries hv).trans (frameArrived_idle he)
  have isBad {status : FrameStatus} {sequence : Byte} (hs : status ≠ .ok) (he : x.exec = none)
      (hv : periodVerdict (b :: bs) = some (.bad status sequence)) : endPeriod p (b :: bs) s = bad status sequence :=
    (judged hv he).trans (badFrame_setPort p closed s hs sequence)
  have opened (hb : b = 0xB4) : periodVerdict (b :: bs) = some (judgeFrame bs) := by
    subst hb
    rfl
  refine ⟨fun hb => ?_, fun hb he => ?_, fun hb hb' he => ?_, fun hb he hl => ?_, fun hb he hl whole wrong => ?_, fun hb he hl whole right => ?_⟩
  · exact completes_end hc (by rw [frame, hb]; rfl)
  · obtain ⟨v, hv⟩ : ∃ v, periodVerdict (b :: bs) = some v := by
      unfold periodVerdict
      simp only [hb, if_false]
      split <;> exact ⟨_, rfl⟩
    exact completes_end hc ((carries hv).trans (frameArrived_busy he))
  · have hv : periodVerdict (b :: bs) = some (.bad .badCheck (wrongOpeningSequence (b :: bs))) := by
      have hb'' : b ≠ requestOpening := hb'
      simp only [periodVerdict, hb, hb'', if_false]
    have result := isBad (by decide) he hv
    refine completes_finish hc ?_
    rw [result]
    by_cases echo : Config.wrongOpeningEchoesSequence = true
    · refine .inr ?_
      have sequence : wrongOpeningSequence (b :: bs) = bs.getD 1 0 := if_pos echo
      rw [sequence]
      exact finishEvent_eventEnd ..
    · refine .inl ?_
      have sequence : wrongOpeningSequence (b :: bs) = 0 := if_neg echo
      rw [sequence]
      exact finishEvent_eventEnd ..
  · exact completes_end hc (isBad (by decide) he ((opened hb).trans (congrArg some (judgeFrame_short hl))))
  · exact completes_end hc (isBad (by decide) he ((opened hb).trans (congrArg some ((judgeFrame_whole hl whole).trans (if_neg wrong)))))
  · have good := (opened hb).trans (congrArg some ((judgeFrame_whole hl whole).trans (if_pos right)))
    refine completes_end hc ((judged good he).trans ((acceptFrame_setPort p closed s _ _).trans ?_))
    rw [PortState.accepted_eq]

/-! ## The T-link receiver -/

theorem setPort_self (p : Port) (s : State) : setPort p (s.port p) s = s := by cases p <;> rfl

theorem setReceiver_setPort (r : Receiver) (y : PortState) (s : State) :
    setReceiver r (setPort .tlink y s) = setPort .tlink { y with receiver := r } s := by
  unfold setReceiver
  rw [port_setPort_self, setPort_setPort]

theorem tlink_inExecution (x : PortState) : x.inExecution .tlink = true ↔ x.exec ≠ none ∨ x.reply ≠ none := by
  simp [PortState.inExecution, Option.isSome_iff_ne_none]

section
variable {s : State} {began : Bool} {v : Verdict} {next : Receiver}

theorem tlinkDiscards_busy (h : (s.port .tlink).exec ≠ none ∨ (s.port .tlink).reply ≠ none) : tlinkDiscards began s = true := by
  rw [tlinkDiscards, (tlink_inExecution _).2 h, Bool.true_or]

theorem tlinkDiscards_idle (h : ¬((s.port .tlink).exec ≠ none ∨ (s.port .tlink).reply ≠ none)) : tlinkDiscards false s = false := by
  rw [tlinkDiscards, Bool.false_and, Bool.or_false, ← Bool.not_eq_true, tlink_inExecution]
  exact h

theorem tlinkFrame_busy (h : (s.port .tlink).exec ≠ none ∨ (s.port .tlink).reply ≠ none) :
    tlinkFrame began v next s =
      setPort .tlink
        { s.port .tlink with
          receiver := next, counters := { (s.port .tlink).counters with busy := (s.port .tlink).counters.busy + 1 } } s := by
  rw [tlinkFrame, tlinkDiscards_busy h, if_pos rfl]
  exact setReceiver_setPort ..

theorem tlinkFrame_bad (h : ¬((s.port .tlink).exec ≠ none ∨ (s.port .tlink).reply ≠ none)) {status : FrameStatus} (hs : status ≠ .ok)
    (sequence : Byte) :
    tlinkFrame false (.bad status sequence) next s = setPort .tlink { (s.port .tlink).bad status sequence with receiver := next } s := by
  have bad := badFrame_setPort .tlink (s.port .tlink) s hs sequence
  rw [setPort_self] at bad
  rw [tlinkFrame, tlinkDiscards_idle h, if_neg (by simp), takeVerdict, bad, setReceiver_setPort]

theorem tlinkFrame_good (h : ¬((s.port .tlink).exec ≠ none ∨ (s.port .tlink).reply ≠ none)) (sequence : Byte) (body : List Byte) :
    tlinkFrame false (.good sequence body) next s =
      setPort .tlink { (s.port .tlink).accepted s.inLoad sequence body with receiver := next }
        (if (s.port .tlink).link = .lost then setCond .linkLostT false s else s) := by
  have good := acceptFrame_setPort .tlink (s.port .tlink) s sequence body
  rw [setPort_self] at good
  rw [tlinkFrame, tlinkDiscards_idle h, if_neg (by simp), takeVerdict, good, setReceiver_setPort]
  rfl

/-- A byte in a frame that is not judged at its stop bit: judged at its length field, at its end, or taken (R164). -/
theorem tlinkFrameByte_taken {bs : List Byte} {b : Byte} {stopBit : Bool} (h : stopBit = true ∨ tlinkDiscards began s = true) :
    tlinkFrameByte bs began b stopBit s =
      if ¬(1 ≤ ((bs ++ [b]).getD 0 0).toNat ∧ ((bs ++ [b]).getD 0 0).toNat ≤ 240) then
        tlinkFrame began (.bad .badLength ((bs ++ [b]).getD 1 0)) .ignoring s
      else if (bs ++ [b]).length = ((bs ++ [b]).getD 0 0).toNat + 4 then tlinkFrame began (judgeFrame (bs ++ [b])) .waiting s
      else setReceiver (.inFrame (bs ++ [b]) began) s := by
  have taken : (!stopBit && !tlinkDiscards began s) = false := by rcases h with h | h <;> simp [h]
  unfold tlinkFrameByte
  rw [taken, if_neg (by simp)]
  by_cases legal : 1 ≤ ((bs ++ [b]).getD 0 0).toNat ∧ ((bs ++ [b]).getD 0 0).toNat ≤ 240
  · have field : legalLength (byteAt (bs ++ [b]) 0) = true := decide_eq_true legal
    rw [if_neg (not_not_intro legal)]
    exact if_neg (by simp [field])
  · have field : legalLength (byteAt (bs ++ [b]) 0) = false := decide_eq_false legal
    rw [if_pos legal]
    exact if_pos (by simp [field])

end

/-- Settles O51: the receiver's three states, and within a frame its judgements in turn. -/
theorem tlinkBytes : Obligations.TlinkBytes := by
  unfold Obligations.TlinkBytes
  refine ⟨fun b stopBit s => ?_, fun s => ?_⟩
  · intro x busy c withReceiver bad discarded
    have hc : exec (.tlinkByteReceived b stopBit) s = .next (complete s (tlinkByte b stopBit s)) := rfl
    refine ⟨fun hr => ?ignoring, fun hr => ?waiting, fun bs began hr => ?inFrame⟩
    case ignoring => exact completes_end hc (by unfold tlinkByte; rw [show (s.port .tlink).receiver = _ from hr])
    case waiting =>
      have opening : tlinkByte b stopBit s = tlinkOpening b stopBit s := by unfold tlinkByte; rw [show (s.port .tlink).receiver = _ from hr]
      rw [opening] at hc
      have begun (hb : b = 0xB4) (hs : stopBit = true) {began : Bool} (h : x.inExecution .tlink = began) :
          tlinkOpening b stopBit s = withReceiver (.inFrame [] began) := by
        subst hb hs h
        rfl
      have unframed (hb : b = 0xB4) (hs : stopBit = false) :
          tlinkOpening b stopBit s = if Config.framingErrorOpens then tlinkFrame false (.bad .badCheck 0) .ignoring s else s := by
        subst hb hs
        rfl
      refine ⟨fun hb => ?_, fun hb hs h => ?_, fun hb hs h => ?_, fun hb hs h => ?_, fun hb hs h => ?_⟩
      · exact completes_end hc (if_pos hb)
      · exact completes_end hc (begun hb hs ((tlink_inExecution x).2 h))
      · exact completes_end hc (begun hb hs (Bool.eq_false_iff.2 fun k => h ((tlink_inExecution x).1 k)))
      · rw [unframed hb hs, tlinkFrame_busy h] at hc
        refine completes_finish hc ?_
        split
        · exact .inr (finishEvent_eventEnd ..)
        · exact .inl (finishEvent_eventEnd ..)
      · rw [unframed hb hs, tlinkFrame_bad h (by decide)] at hc
        refine completes_finish hc ?_
        split
        · exact .inr (finishEvent_eventEnd ..)
        · exact .inl (finishEvent_eventEnd ..)
    case inFrame =>
      intro all n body sums legal
      have framed : tlinkByte b stopBit s = tlinkFrameByte bs began b stopBit s := by
        unfold tlinkByte
        rw [show (s.port .tlink).receiver = _ from hr]
      rw [framed] at hc
      refine ⟨fun h => ?_, fun h hb => ?_⟩
      · rw [tlinkFrameByte_taken (.inr (tlinkDiscards_busy h))] at hc
        refine ⟨fun hl => ?_, fun hl short => ?_, fun hl whole => ?_⟩
        · exact completes_end hc ((if_pos hl).trans (tlinkFrame_busy h))
        · exact completes_end hc ((if_neg fun k => k hl).trans (if_neg short.ne))
        · exact completes_end hc ((if_neg fun k => k hl).trans ((if_pos whole).trans (tlinkFrame_busy h)))
      · subst hb
        refine ⟨fun hs => ?_, fun hs hl => ?_, fun hs hl short => ?_, fun hs hl whole wrong => ?_, fun hs hl whole right => ?_⟩
        · refine completes_end hc (.trans ?_ (tlinkFrame_bad h (by decide) _))
          unfold tlinkFrameByte
          rw [hs, tlinkDiscards_idle h]
          rfl
        all_goals rw [tlinkFrameByte_taken (.inl hs)] at hc
        · exact completes_end hc ((if_pos hl).trans (tlinkFrame_bad h (by decide) _))
        · exact completes_end hc ((if_neg fun k => k hl).trans (if_neg short.ne))
        all_goals have judged := judgeFrame_whole hl (Nat.le_of_eq (Eq.symm whole))
        · rw [if_neg wrong] at judged
          refine completes_end hc ((if_neg fun k => k hl).trans ((if_pos whole).trans ?_))
          rw [judged]
          exact tlinkFrame_bad h (by decide) _
        · rw [if_pos right] at judged
          refine completes_end hc ((if_neg fun k => k hl).trans ((if_pos whole).trans ?_))
          rw [judged, tlinkFrame_good h, PortState.accepted_eq]
  · intro x busy c
    have hc : exec .tlinkGapTimeout s = .next (complete s (tlinkGap s)) := rfl
    refine ⟨fun hr => completes_end hc ?waiting, fun hr => completes_end hc ?ignoring, fun bs began hr => ?inFrame⟩
    case waiting => unfold tlinkGap; rw [show (s.port .tlink).receiver = _ from hr]
    case ignoring => unfold tlinkGap; rw [show (s.port .tlink).receiver = _ from hr]; rfl
    case inFrame =>
      have framed : tlinkGap s = tlinkFrame began (.bad .badLength (receivedSequence bs)) .waiting s := by
        unfold tlinkGap
        rw [show (s.port .tlink).receiver = _ from hr]
      refine ⟨fun h => completes_end hc (framed.trans (tlinkFrame_busy h)), fun h hb => ?_⟩
      subst hb
      exact completes_end hc (framed.trans (tlinkFrame_bad h (by decide) _))

/-! ## Replies -/

/-- The two bytes of a CRC, high byte first. -/
theorem crcBytes_eq (bs : List Byte) :
    ∃ high low, crcBytes bs = [high, low] ∧ high.toNat * 256 + low.toNat = (crc16 bs).toNat := by
  refine ⟨_, _, rfl, ?_⟩
  have bound := (crc16 bs).isLt
  simp only [byte, BitVec.toNat_ofNat]
  omega

/-- Settles O52: by the fields of the port that each command puts, and the bytes of a period as its reply and zeros. -/
theorem repliesGoOut : Obligations.RepliesGoOut := by
  unfold Obligations.RepliesGoOut
  refine ⟨fun port s hp => ?opened, fun port n s => ⟨by simp [clockedOut], fun k hk => ⟨fun r hr => ?offered, fun hr => ?empty⟩⟩,
    fun port s => ?attention, fun port s hp => ?opening, fun s => completes_end rfl rfl, fun sequence status results hl => ?reply⟩
  case opened =>
    refine completes_end (u := openPeriod port.toPort s) rfl ?_
    unfold openPeriod
    simp only [hp]
    cases (s.port port.toPort).reply <;> rfl
  case offered =>
    simp [clockedOut, hk, hr, Period.outgoing]
  case empty =>
    have silent : (s.port port.toPort).period.outgoing = none := by
      cases hq : (s.port port.toPort).period with
      | openOffering r => exact absurd hq (hr r)
      | idle | openEmpty | discarded => rfl
    simp [clockedOut, hk, silent]
  case attention =>
    have outgoing : (s.port port.toPort).period.outgoing.isSome = true ↔ ∃ r, (s.port port.toPort).period = .openOffering r := by
      cases (s.port port.toPort).period <;> simp [Period.outgoing]
    simp [attention, outgoing, Option.isSome_iff_exists, or_assoc]
  case opening =>
    refine completes_end (u := openPeriod port.toPort s) rfl ?_
    unfold openPeriod
    cases hq : (s.port port.toPort).period with
    | idle => exact absurd hq hp
    | openOffering | openEmpty | discarded => simp only [hq]
  case reply =>
    obtain ⟨high, low, bytes, sum⟩ := crcBytes_eq (byte (1 + results.length) :: sequence :: byte status.code :: results)
    refine ⟨_, high, low, ?_, ?_, sum⟩
    · rw [← bytes]
      rfl
    · cases status <;> rfl

/-! ## WAIT -/

theorem mapExec_eq {p : Port} {f : FrameExec} {s : State} (h : (s.port p).exec = some f) (g : FrameExec → FrameExec) :
    mapExec g p s = setPort p { s.port p with exec := some (g f) } s := by
  unfold mapExec
  rw [h]
  rfl

theorem pushResult_eq {p : Port} {f : FrameExec} {s : State} (h : (s.port p).exec = some f) (o : RequestOutcome) (n : Nat) (data : List Byte) :
    pushResult p o n data s =
      setPort p
        { s.port p with
          exec := some { f with results := f.results ++ resultBytes o n data, room := f.room - data.length }
          counters := { (s.port p).counters with refused := (s.port p).counters.refused + if o.isRefusal then 1 else 0 } } s := by
  unfold pushResult
  rw [mapExec_eq h]
  simp only [port_setPort_self, setPort_setPort]
  cases o.isRefusal <;> simp

theorem waitEvent_none {index : Nat} : WaitEvent.ofIndex index = none ↔ 3 < index := by
  match index with
  | 0 | 1 | 2 | 3 => simp [WaitEvent.ofIndex]
  | n + 4 => simp [WaitEvent.ofIndex]

/-- Settles O53: by the judgement of a WAIT in its three outcomes, and the end of a hold as a port put. -/
theorem waitHoldsAndExpires : Obligations.WaitHoldsAndExpires := by
  unfold Obligations.WaitHoldsAndExpires
  refine ⟨fun p index count f s hf => ?_, ⟨rfl, rfl, rfl, rfl⟩, fun p f ev tm s hf hh => ?expiry⟩
  · intro x ends
    have answered (o : RequestOutcome) : pushResult p o 0 [] s = ends o (if o.isRefusal then 1 else 0) := pushResult_eq hf o 0 []
    refine ⟨fun h => ?refused, fun ev hev low high => ⟨fun he hx => ?atOnce, fun he => ?held⟩⟩
    case refused =>
      show runWait p index count s = _
      unfold runWait
      split
      · exact answered .range
      · next ev hev =>
        have named : ¬3 < index := fun k => by simp [waitEvent_none.2 k] at hev
        rw [if_pos (h.resolve_left named)]
        exact answered .range
    all_goals
      have legal : ¬(count = 0 ∨ 200 < count) := by omega
      have waits : runRequest p (.wait index count) s =
          if ev = .change ∧ (s.port p).changes ≠ [] then pushResult p .ok 0 [] s else holdFrame p ev count s := by
        show runWait p index count s = _
        unfold runWait
        rw [hev]
        exact if_neg legal
      rw [waits]
    case atOnce =>
      rw [if_pos ⟨he, hx⟩]
      exact answered .ok
    case held =>
      rw [if_neg fun k => he.elim (fun n => n k.1) k.2]
      unfold holdFrame
      simp only [mapExec_eq hf, port_setPort_self, setPort_setPort]
      rfl
  case expiry =>
    refine completes_end (u := waitExpiry p s) rfl ?_
    unfold waitExpiry
    rw [mapExec_eq hf, hh]
    rfl

end Sys2Proof.Machine
end

section
/-! Proofs: the loss of a link (R174, R175). -/

namespace Sys2Proof.Machine

theorem PortPatterns.of_put (x : PortPatterns) (p q : Port) (v : Pattern) : (x.put p v).of q = if q = p then v else x.of q := by
  cases p <;> cases q <;> rfl

theorem Slot.loseLink_eq (p : Port) :
    Slot.loseLink p = fun src x => if src = .link p ∧ (x.state = .live ∨ x.state = .stale) then { x with state := .lost } else x := by
  funext src x
  simp [Slot.loseLink, Slot.serves_iff]

section
variable {s t : State}

theorem TableEvent.setPort_lost (h : TableEvent s t) (p : Port) : TableEvent (clearPortClaims p s) (clearPortClaims p t) :=
  { h with
    lampSettings := h.lampSettings
    flashers := h.flashers
    patterns := fun i => by
      have kept := h.patterns i
      simp only [clearPortClaims, State.setLamps_lamps, Fin.getElem_fin, Vector.getElem_map] at kept ⊢
      rw [kept]
    drivers := fun i => by
      have kept := h.drivers i
      simpa only [clearPortClaims, State.setLamps_lamps, Fin.getElem_fin, Vector.getElem_map] using kept
    portClaims := fun i => by
      have kept := h.portClaims i
      simp only [clearPortClaims, State.setLamps_lamps, Fin.getElem_fin, Vector.getElem_map] at kept ⊢
      rw [kept] }

theorem clearPortClaims_took (p : Port) (s : State) : PortsTook s (clearPortClaims p s) := .of_ports rfl

theorem clearPortClaims_sameTable (p : Port) (s : State) : SameTable s (clearPortClaims p s) where
  signals := rfl
  gauges := rfl
  telltales i := by simp [clearPortClaims]
  chimes i := by simp [clearPortClaims]
  noGauge := noGauge_of_ports rfl

/-- The T-link's loss in the readout (R142): its figures stand, and TACHO_STALE is raised. -/
theorem readoutLinkLoss_eq (s : State) :
    readoutLinkLoss s =
      if s.tacho.state = .current ∨ s.tacho.state = .estimated then
        reportTacho (setCond .tachoStale true (s.setTacho { s.tacho with state := .lost, estimation := .stopped }))
      else s := by
  have stale : judgeStale (s.setTacho { s.tacho with state := .lost, estimation := .stopped }) =
      setCond .tachoStale true (s.setTacho { s.tacho with state := .lost, estimation := .stopped }) := judgeStale_eq (by simp)
  unfold readoutLinkLoss
  cases s.tacho.state <;> simp [stale]

end

/-- The port and its condition at the loss of its link, before anything follows from it. -/
def linkLost (p : Port) (s : State) : State :=
  setCond (linkLostCondition p) true (setPort p { s.port p with link := .lost, linkTimer := .stopped } s)

theorem tacho_lostClaims (p : Port) (s : State) : (clearPortClaims p (forceLost p (linkLost p s))).tacho = s.tacho := by
  have kept := (forceLost_spec p (linkLost p s)).1.tacho
  generalize forceLost p (linkLost p s) = t at kept ⊢
  exact kept

section
variable {p : Port} {s : State}

/-- The loss of the T-link with the readout CURRENT or ESTIMATED (R142). -/
theorem loseLink_lost (hp : p = .tlink) (h : s.tacho.state = .current ∨ s.tacho.state = .estimated) :
    loseLink p s = reportTacho (setCond .tachoStale true
      ((clearPortClaims p (forceLost p (linkLost p s))).setTacho { s.tacho with state := .lost, estimation := .stopped })) := by
  have claims : loseLink p s = readoutLinkLoss (clearPortClaims p (forceLost p (linkLost p s))) := if_pos hp
  rw [claims, readoutLinkLoss_eq, tacho_lostClaims, if_pos h]

/-- Any other loss of a link. -/
theorem loseLink_kept (h : ¬(p = .tlink ∧ (s.tacho.state = .current ∨ s.tacho.state = .estimated))) :
    loseLink p s = clearPortClaims p (forceLost p (linkLost p s)) := by
  by_cases hp : p = .tlink
  · have claims : loseLink p s = readoutLinkLoss (clearPortClaims p (forceLost p (linkLost p s))) := if_pos hp
    rw [claims, readoutLinkLoss_eq, tacho_lostClaims, if_neg fun k => h ⟨hp, k⟩]
  · exact if_neg hp

theorem linkLost_sameTable : SameTable s (linkLost p s) where
  signals := rfl
  gauges := rfl
  telltales _ := rfl
  chimes _ := rfl
  noGauge := by
    intro q i hi
    refine .inl ?_
    simp only [linkLost, port_setCond, port_setPort] at hi
    split at hi
    next h => exact h ▸ hi
    · exact hi

end

section
variable {p : Port} {s t : State}

/-- The entries behind the loss of a link, and what follows from the slots forced LOST (R9). -/
theorem forceLost_entries (k : SameTable (forceLost p (linkLost p s)) t) (hp : PortsTook (forceLost p (linkLost p s)) t) :
    (∀ i : Fin 64, EntryKept (s.signals[i].afterSlots (Slot.loseLink p)) t.signals[i]) ∧
      Followed false (slotsChanged (fun i => s.signals[i].afterSlots (Slot.loseLink p)) s) s t := by
  constructor
  · intro i
    rw [k.signals]
    exact (forceLost_spec p (linkLost p s)).2 i
  · exact (forceLost_followed p (linkLost p s)).congr linkLost_sameTable rfl rfl k hp

theorem patterns_lost {i : Fin 40} (patterns : t.lamps.telltales[i].patterns = (clearPortClaims p s).lamps.telltales[i].patterns) :
    t.lamps.telltales[i].patterns.of p = .off ∧
      ∀ q, q ≠ p → t.lamps.telltales[i].patterns.of q = s.lamps.telltales[i].patterns.of q := by
  simp only [clearPortClaims, State.setLamps_lamps, Fin.getElem_fin, Vector.getElem_map] at patterns
  simp only [Fin.getElem_fin, patterns]
  exact ⟨by rw [PortPatterns.of_put, if_pos rfl], fun q hq => by rw [PortPatterns.of_put, if_neg hq]⟩

end

/-- Settles O54: by the stages of a lost link (`loseLink_lost`, `loseLink_kept`), the claims cleared behind them. -/
theorem linkLoss : Obligations.LinkLoss := by
  unfold Obligations.LinkLoss
  intro p ms s hl ht lost u
  rw [← Slot.loseLink_eq p]
  have hc : exec (.linkTimerExpiry p) s = .next (complete s (loseLink p s)) := by
    show Host.Outcome.next (complete s (linkExpiry p s)) = _
    congr 2
    exact if_pos ⟨hl, by rw [ht]; rfl⟩
  have forced := (forceLost_spec p (linkLost p s)).1
  have cleared := forced.setPort_lost p
  have claims := clearPortClaims_sameTable p (forceLost p (linkLost p s))
  have claimsPorts := clearPortClaims_took p (forceLost p (linkLost p s))
  have kept := loseLink_kept (p := p) (s := s)
  have readout := loseLink_lost (p := p) (s := s)
  generalize hm : clearPortClaims p (forceLost p (linkLost p s)) = m at cleared claims claimsPorts kept readout
  refine completes_finish hc ?_
  by_cases h : lost
  · rw [readout h.1 h.2, if_pos h]
    have hu : u = (clearPortClaims p (linkLost p s)).setTacho { s.tacho with state := .lost, estimation := .stopped } := by
      simp only [u, if_pos h]
      rfl
    have started := (cleared.setTacho { s.tacho with state := .lost, estimation := .stopped }).setCond .tachoStale true
    have same := (SameTable.setTacho { s.tacho with state := .lost, estimation := .stopped } m).trans (.setCond .tachoStale true _)
    have ports : PortsTook m (setCond .tachoStale true (m.setTacho { s.tacho with state := .lost, estimation := .stopped })) := .of_ports rfl
    generalize setCond .tachoStale true (m.setTacho { s.tacho with state := .lost, estimation := .stopped }) = t at started same ports ⊢
    have ended : EventEnd t (finishEvent s (reportTacho t)) := (reportTacho_eventEnd t).trans (finishEvent_eventEnd s _)
    have table := started.trans ended.table
    obtain ⟨entries, followed⟩ := forceLost_entries (claims.trans (same.trans ended.sameTable)) (claimsPorts.trans (ports.trans ended.ports))
    rw [hu]
    refine ⟨table, entries, followed, fun i => ?_, fun _ => (reportTacho_noticed t).took (finishEvent_eventEnd s _).ports⟩
    exact patterns_lost (s := linkLost p s) (table.patterns i)
  · rw [kept h, if_neg h]
    have hu : u = clearPortClaims p (linkLost p s) := by
      simp only [u, if_neg h]
      rfl
    have ended := finishEvent_eventEnd s m
    obtain ⟨entries, followed⟩ := forceLost_entries (claims.trans ended.sameTable) (claimsPorts.trans ended.ports)
    rw [hu]
    have table := cleared.trans ended.table
    exact ⟨table, entries, followed, fun i => patterns_lost (s := linkLost p s) (table.patterns i), fun k => absurd k h⟩

end Sys2Proof.Machine
end

section
/-! Proofs: the exit from LOAD (R149, R150, R183). -/

namespace Sys2Proof.Machine

/-! ## The frames stand -/

section
variable {x y z : PortState} {s t u : State}

theorem PortState.FrameStands.refl (x : PortState) : x.FrameStands x := ⟨id, fun _ h => .inl h⟩

theorem PortState.FrameStands.trans (a : x.FrameStands y) (b : y.FrameStands z) : x.FrameStands z where
  none h := b.none (a.none h)
  frame f hf := by
    obtain same | ⟨held, ended⟩ := a.frame f hf
    · exact b.frame f same
    · obtain same | ⟨⟨ev, tm, -, again⟩, -⟩ := b.frame _ ended
      · exact .inr ⟨held, same⟩
      · exact absurd again nofun

theorem PortState.FrameStands.of_exec (h : y.exec = x.exec) : x.FrameStands y := ⟨fun n => h.trans n, fun _ f => .inl (h.trans f)⟩

theorem PortState.signal_stands {ev : WaitEvent} (h : ev = .change ∨ ev = .cycle) (x : PortState) : x.FrameStands (x.signal ev) := by
  unfold PortState.signal
  cases hx : x.exec with
  | none => exact .of_exec rfl
  | some f =>
    rcases hh : f.hold with _ | ⟨w, tm⟩
    · simp only [hh]
      exact .of_exec rfl
    · simp only [hh]
      split
      next e =>
        refine ⟨fun n => absurd (n.symm.trans hx) nofun, fun g hg => .inr ?_⟩
        cases hx.symm.trans hg
        exact ⟨⟨ev, tm, h, by rw [hh, e]⟩, rfl⟩
      · exact .of_exec rfl

theorem PortState.notice_stands (i : Fin 113) (x : PortState) : x.FrameStands (x.notice i) := by
  unfold PortState.notice
  split
  · exact .trans (y := { x with changes := x.changes ++ [i] }) (.of_exec rfl) (signal_stands (.inl rfl) _)
  · exact .refl x

/-- At every port the frame in execution stands, but for a hold for CHANGE or CYCLE. -/
def FramesStand (s t : State) : Prop := ∀ p, (s.port p).FrameStands (t.port p)

theorem FramesStand.refl (s : State) : FramesStand s s := fun _ => .refl _

theorem FramesStand.trans (a : FramesStand s t) (b : FramesStand t u) : FramesStand s u := fun p => (a p).trans (b p)

theorem FramesStand.of_ports (h : t.ports = s.ports) : FramesStand s t := fun p => .of_exec (by rw [State.port, State.port, h])

theorem framesStand_raiseItem (i : Fin 113) (s : State) : FramesStand s (raiseItem i s) := fun p => by
  rw [port_raiseItem]
  exact PortState.notice_stands i _

theorem framesStand_telltaleNotices (before : Vector Telltale 40) (s : State) : FramesStand s (telltaleNotices before s) :=
  forAll_rel .refl (fun _ _ _ => .trans) _ (fun i s => by split; exacts [framesStand_raiseItem _ s, .refl s]) s

theorem framesStand_settleUnits (notify : Bool) (s : State) : FramesStand s (settleUnits notify s) := by
  refine .trans ?_ (.of_ports (settleChimes_ports _))
  unfold settleLamps
  split
  · exact .refl s
  · next st _ =>
    have shown : (showAll st (lampRounds 3 st s)).ports = s.ports := (showAll_ports st _).trans (lampRounds_ports st 3 s)
    dsimp only
    split
    · exact .trans (.of_ports shown) (framesStand_telltaleNotices _ _)
    · exact .of_ports shown

theorem framesStand_finishEvent (before s : State) : FramesStand s (finishEvent before s) := by
  refine (framesStand_settleUnits true s).trans ?_
  unfold finishEvent cycleNotice
  split
  · exact .refl _
  · exact framesStand_raiseItem _ _

end

/-! ## Settling without notices -/

theorem settleUnits_kept (notify : Bool) (s : State) : ResolutionKept (settleLamps false s) (settleUnits notify s) := by
  refine .trans ?_ (resolutionKept_settleChimes _)
  unfold settleLamps
  split
  · exact .of_lamps rfl rfl
  · cases notify
    · exact .of_lamps rfl rfl
    · exact resolutionKept_telltaleNotices ..

theorem settleUnits_quiet (s : State) : ResolutionKept (settleUnits true s) (settleUnits false s) := by
  have a := settleUnits_kept true s
  have b := settleUnits_kept false s
  exact ⟨b.builtIn.trans a.builtIn.symm, fun i => (b.resolved i).trans (a.resolved i).symm, fun i => (b.failed i).trans (a.failed i).symm,
    b.condition.trans a.condition.symm⟩

theorem settleUnits_quiet_inputs (s : State) : SameInputs (settleUnits true s) (settleUnits false s) := by
  have a := (settleUnits_eventEnd true s).inputs
  have b := (settleUnits_eventEnd false s).inputs
  refine ⟨b.signals.trans a.signals.symm, b.switches.trans a.switches.symm, fun c hc => (b.conditions c hc).trans (a.conditions c hc).symm,
    b.fallback.trans a.fallback.symm, b.settings.trans a.settings.symm, fun i => ?_⟩
  obtain ⟨la, pa, fa⟩ := a.telltales i
  obtain ⟨lb, pb, fb⟩ := b.telltales i
  exact ⟨lb.trans la.symm, pb.trans pa.symm, fb.trans fa.symm⟩

theorem settleUnits_false_settled (s : State) : LampsSettled (settleUnits false s) := by
  have settled := settleLamps_settled false s
  have ended := settleChimes_eventEnd (settleLamps false s)
  exact settled.congr ended.lamps.settings ended.lamps.slowOn ended.lamps.fastOn (settleChimes_telltales _) ended.cycle

/-- The first judgement of the telltales leaves nothing for the event's end to report but item 112 (R134). -/
theorem finishEvent_afterFirst {before s : State} (hn : LampsNormal s) :
    ReportedOnly (fun i => i = cycleItem) s (finishEvent before (settleUnits false s)) := by
  have resolved := (settleUnits_resolved hn).congr (settleUnits_quiet_inputs s) (settleUnits_quiet s).builtIn (settleUnits_quiet s).resolved
    (settleUnits_quiet s).failed (settleUnits_quiet s).condition
  have failed := (settleUnits_failedCondition s).congr (settleUnits_quiet_inputs s).settings (settleUnits_quiet s).failed (settleUnits_quiet s).condition
  have quiet : (settleUnits false s).ports = s.ports := by
    rw [settleUnits, settleChimes_ports]
    unfold settleLamps
    split
    · rfl
    · next st _ => exact (showAll_ports st _).trans (lampRounds_ports st 3 s)
  have same := settleUnits_idle (settleUnits_same resolved failed (settleUnits_false_settled s).patterns)
  generalize settleUnits false s = m at quiet same
  refine (ReportedOnly.of_ports _ (same.trans quiet)).trans ?_
  unfold finishEvent cycleNotice
  split
  · exact .refl _ _
  · exact .raiseItem _ rfl

/-! ## The blocks take their settings -/

/-- A pulse channel at its first gate start (R30, R43). -/
def PulseChannel.started (st : PulseSettings) (x : PulseChannel) : PulseChannel := (x.takeSettings st).startWindow st.gateMs

theorem takeStepSize_unreported (k : Nat) (d : Distance) : distanceChanged d (d.takeStepSize k) = false := by
  simp [distanceChanged, Distance.takeStepSize]

/-- What the first gate starts make of the part (R30, R57). -/
structure GatesStarted (c : Configuration) (s t : State) : Prop where
  pulse : ∀ i : Fin 4, t.pulse[i] = s.pulse[i].started c.pulse[i]
  dist : t.dist = s.dist.takeStepSize c.pulse[0].scale
  conditions : ∀ d, d ≠ .odoMismatch → t.cond d = s.cond d
  blocks : t.signals = s.signals ∧ t.conv = s.conv ∧ t.switches = s.switches ∧ t.gauges = s.gauges ∧ t.lamps = s.lamps ∧ t.tacho = s.tacho
  units : t.cycle = s.cycle ∧ t.ports = s.ports ∧ t.store = s.store ∧ t.pending = s.pending

theorem startGate_taken {i : Fin 4} {x : PulseChannel} {st : PulseSettings} {s : State} (hx : s.pulse[i] = x) (hs : x.settings = some st) :
    startGate i s = setChannel i (x.startWindow st.gateMs) s := by
  unfold startGate
  rw [hx, hs]

theorem firstGateStart_other (c : Configuration) {i : Fin 4} (hi : i ≠ 0) (s : State) :
    firstGateStart c i s = setChannel i (s.pulse[i].started c.pulse[i]) s := by
  have taken : takePulseSettings i c.pulse[i] s = setChannel i (s.pulse[i].takeSettings c.pulse[i]) s := if_neg hi
  unfold firstGateStart
  rw [taken, startGate_taken (setChannel_here ..) rfl, setChannel_setChannel]
  rfl

theorem takePulseSettings_zero (st : PulseSettings) (s : State) :
    takePulseSettings 0 st s =
      setCond .odoMismatch s.dist.mismatch
        ((setChannel 0 (s.pulse[(0 : Fin 4)].takeSettings st) s).setDist (s.dist.takeStepSize st.scale)) := by
  unfold takePulseSettings putDistance
  dsimp only
  rw [if_pos rfl, setChannel_dist, takeStepSize_unreported, if_neg (by simp)]
  rfl

theorem setChannel_marked (x y : PulseChannel) (d : Distance) (b : Bool) (s : State) :
    setChannel 0 y (setCond .odoMismatch b ((setChannel 0 x s).setDist d)) = setCond .odoMismatch b ((setChannel 0 y s).setDist d) := by
  have after : (setCond .odoMismatch b ((setChannel 0 x s).setDist d)).pulse = (setChannel 0 x s).pulse := rfl
  rw [setChannel_after after]
  rfl

theorem firstGateStart_zero (c : Configuration) (s : State) :
    firstGateStart c 0 s =
      setCond .odoMismatch s.dist.mismatch
        ((setChannel 0 (s.pulse[(0 : Fin 4)].started c.pulse[(0 : Fin 4)]) s).setDist (s.dist.takeStepSize c.pulse[(0 : Fin 4)].scale)) := by
  have settings : (s.pulse[(0 : Fin 4)].takeSettings c.pulse[(0 : Fin 4)]).settings = some c.pulse[(0 : Fin 4)] := rfl
  unfold firstGateStart PulseChannel.started
  rw [takePulseSettings_zero]
  generalize s.pulse[(0 : Fin 4)].takeSettings c.pulse[(0 : Fin 4)] = x at settings ⊢
  generalize s.dist.takeStepSize c.pulse[(0 : Fin 4)].scale = d
  have here : (setCond .odoMismatch s.dist.mismatch ((setChannel 0 x s).setDist d)).pulse[(0 : Fin 4)] = x := setChannel_here 0 x s
  rw [startGate_taken here settings, setChannel_marked]

theorem forAll_four (f : Fin 4 → State → State) (s : State) : forAll 4 f s = f 3 (f 2 (f 1 (f 0 s))) := rfl

theorem gatesStarted (c : Configuration) (s : State) : GatesStarted c s (forAll 4 (firstGateStart c) s) := by
  rw [forAll_four, firstGateStart_zero]
  have others (i : Fin 4) (hi : i ≠ 0) := firstGateStart_other c hi
  rw [others 1 (by decide), others 2 (by decide), others 3 (by decide)]
  generalize hd : s.dist.takeStepSize c.pulse[(0 : Fin 4)].scale = d
  refine ⟨fun i => ?_, ?_, fun d hd => ?_, ?_, ?_⟩
  · match i with
    | 0 => simp
    | 1 => simp
    | 2 => simp
    | 3 => simp
  · simp [← hd]
  · simp [hd]
  · simp
  · simp

/-- The part with the settings that the blocks up to the telltale unit have taken. -/
def blocksTaken (c : Configuration) (u : State) : State :=
  takeLampSettings c (takeGaugeSettings c (takeSwitchSettings c (takeConverterSettings c (forAll 4 (firstGateStart c) (takeWindowLength c u)))))

/-- What the blocks up to the telltale unit make of their settings. -/
structure BlocksTaken (c : Configuration) (u v : State) : Prop where
  cycle : v.cycle = { u.cycle with windowLength := c.timing.bulbMs }
  pulse : ∀ i : Fin 4, v.pulse[i] = u.pulse[i].started c.pulse[i]
  dist : v.dist = u.dist.takeStepSize c.pulse[0].scale
  conv : v.conv = { u.conv with settings := some (converterSettings u.store.senderMarks c), slots := .replicate 16 .reset, takeOver := false }
  switches : v.switches.settings = some c.switches ∧ ∀ i : Fin 24, v.switches.inputs[i] =
    { u.switches.inputs[i] with debounce := .running c.switches.debounceMs[i] }
  gauges : ∀ i : Fin 6, v.gauges[i] = { u.gauges[i] with settings := some (gaugeSettings c u.store.gaugeMarks i) }
  lamps : v.lamps.settings = some (lampSettings c) ∧ v.lamps.slowOn = u.lamps.slowOn ∧ v.lamps.fastOn = u.lamps.fastOn
  telltales : ∀ i : Fin 40, v.lamps.telltales[i].latches = c.telltales[i].claims.map (Claim.firstLatch u)
  chimes : ∀ i : Fin 8, v.lamps.chimes[i].latches = c.chimes[i].claims.map (Claim.firstLatch u)
  others : v.signals = u.signals ∧ v.store = u.store ∧ v.pending = u.pending ∧ v.tacho = u.tacho ∧ v.ports = u.ports
  conditions : ∀ d, d ≠ .odoMismatch → v.cond d = u.cond d

theorem firstLatch_congr {s t : State} (h : t.signals = s.signals) : Claim.firstLatch t = Claim.firstLatch s := by
  funext x
  cases x <;> simp only [Claim.firstLatch, h]

theorem takeLampSettings_eq (c : Configuration) (s : State) :
    takeLampSettings c s = s.setLamps
      { s.lamps with
        settings := some (lampSettings c)
        telltales := Vector.ofFn fun i : Fin 40 => { s.lamps.telltales[i] with latches := c.telltales[i].claims.map (Claim.firstLatch s) }
        chimes := Vector.ofFn fun i : Fin 8 => { s.lamps.chimes[i] with latches := c.chimes[i].claims.map (Claim.firstLatch s) } } := by
  unfold takeLampSettings freshLatches
  rw [firstLatch_congr (s := s) (t := s.setLamps { s.lamps with settings := some (lampSettings c) }) rfl]
  rfl

theorem blocksTaken_spec (c : Configuration) (u : State) : BlocksTaken c u (blocksTaken c u) := by
  obtain ⟨pulse, dist, conditions, ⟨signals, conv, switches, gauges, lamps, tacho⟩, ⟨cycle, ports, store, pending⟩⟩ :=
    gatesStarted c (takeWindowLength c u)
  unfold blocksTaken
  rw [takeLampSettings_eq]
  generalize forAll 4 (firstGateStart c) (takeWindowLength c u) = g at *
  exact {
    cycle := cycle
    pulse := pulse
    dist := dist
    conv := by
      show ({ g.conv with settings := some (converterSettings g.store.senderMarks c), slots := .replicate 16 .reset, takeOver := false } : Converter) = _
      rw [conv, store]
      rfl
    switches := ⟨rfl, fun i => by
      simp [takeSwitchSettings, takeGaugeSettings, takeConverterSettings, switches, takeWindowLength]⟩
    gauges := fun i => by
      simp [takeSwitchSettings, takeGaugeSettings, takeConverterSettings, gauges, store, takeWindowLength]
    lamps := by
      have slow : g.lamps.slowOn = u.lamps.slowOn := congrArg TelltaleUnit.slowOn lamps
      have fast : g.lamps.fastOn = u.lamps.fastOn := congrArg TelltaleUnit.fastOn lamps
      exact ⟨rfl, slow, fast⟩
    telltales := fun i => by
      rw [firstLatch_congr (s := u) (t := takeGaugeSettings c (takeSwitchSettings c (takeConverterSettings c g))) signals]
      simp
    chimes := fun i => by
      rw [firstLatch_congr (s := u) (t := takeGaugeSettings c (takeSwitchSettings c (takeConverterSettings c g))) signals]
      simp
    others := ⟨signals, store, pending, tacho, ports⟩
    conditions := conditions }

/-! ## The readout takes its settings -/

/-- The readout behind a taking of settings (R143, R147). -/
def takenReadout (c : Configuration) (r : Readout) : Readout :=
  { r with settings := some c.readout, remaining := if r.state = .none then 0 else c.readout.limit - r.continuous }

/-- What the readout's taking of settings makes of the part (R135, R143, R144, R147). -/
structure ReadoutTaken (c : Configuration) (v b : State) : Prop where
  tacho : b.tacho = takenReadout c v.tacho
  blocks : b.signals = v.signals ∧ b.pulse = v.pulse ∧ b.dist = v.dist ∧ b.conv = v.conv ∧ b.switches = v.switches ∧ b.gauges = v.gauges
  units : b.cycle = v.cycle ∧ b.store = v.store ∧ b.pending = v.pending
  lamps : ClaimsKept v.lamps b.lamps
  conditions : ∀ d, d ∉ [.telltaleFailed, .tachoPrewarn, .tachoLimit] → b.cond d = v.cond d
  ports : PortsTook v b
  frames : FramesStand v b
  only : ReportedOnly (fun i => b.tacho.remaining ≠ v.tacho.remaining ∧ (i = tachoItem ∨ ∃ k, i = telltaleItem k)) v b
  item : b.tacho.remaining ≠ v.tacho.remaining → noticed tachoItem b

theorem reportTacho_only (s : State) : ReportedOnly (fun i => i = tachoItem ∨ ∃ k, i = telltaleItem k) s (reportTacho s) :=
  ((settleUnits_shown s).1.mono fun _ ⟨k, h, _⟩ => .inr ⟨k, h⟩).trans (.raiseItem _ (.inl rfl))

theorem takeReadoutSettings_spec (c : Configuration) (v : State) : ReadoutTaken c v (takeReadoutSettings c v) := by
  have judged : ∃ x y, takeReadoutSettings c v =
      (let m := setCond .tachoLimit x (setCond .tachoPrewarn y (v.setTacho (takenReadout c v.tacho)))
      if v.tacho.remaining = m.tacho.remaining then m else reportTacho m) := ⟨_, _, rfl⟩
  obtain ⟨x, y, judged⟩ := judged
  rw [judged]
  generalize hm : setCond .tachoLimit x (setCond .tachoPrewarn y (v.setTacho (takenReadout c v.tacho))) = m
  have tacho : m.tacho = takenReadout c v.tacho := by rw [← hm]; rfl
  have blocks : m.signals = v.signals ∧ m.pulse = v.pulse ∧ m.dist = v.dist ∧ m.conv = v.conv ∧ m.switches = v.switches ∧ m.gauges = v.gauges := by
    rw [← hm]
    exact ⟨rfl, rfl, rfl, rfl, rfl, rfl⟩
  have units : m.cycle = v.cycle ∧ m.store = v.store ∧ m.pending = v.pending := by
    rw [← hm]
    exact ⟨rfl, rfl, rfl⟩
  have lamps : m.lamps = v.lamps := by rw [← hm]; rfl
  have ports : m.ports = v.ports := by rw [← hm]; rfl
  have conditions : ∀ d, d ∉ [Condition.telltaleFailed, .tachoPrewarn, .tachoLimit] → m.cond d = v.cond d := by
    intro d hd
    simp only [List.mem_cons, List.not_mem_nil, or_false, not_or] at hd
    rw [← hm]
    simp [hd.2.1, hd.2.2]
  have claims : ClaimsKept v.lamps m.lamps := lamps ▸ .refl _
  dsimp only
  split
  next same =>
    exact ⟨tacho, blocks, units, claims, conditions, .of_ports ports, .of_ports ports, .of_ports _ ports, fun h => absurd same.symm h⟩
  next differs =>
    have e := reportTacho_eventEnd m
    have stands : FramesStand m (reportTacho m) := (framesStand_settleUnits true m).trans (framesStand_raiseItem _ _)
    have only := reportTacho_only m
    have item := reportTacho_noticed m
    generalize reportTacho m = b at e stands only item ⊢
    obtain ⟨signals, pulse, dist, conv, switches, gauges⟩ := blocks
    obtain ⟨cycle, store, pending⟩ := units
    have remaining : b.tacho.remaining ≠ v.tacho.remaining := by
      rw [e.tacho]
      exact fun h => differs h.symm
    exact {
      tacho := e.tacho.trans tacho
      blocks := ⟨e.signals.trans signals, e.pulse.trans pulse, e.dist.trans dist, e.conv.trans conv, e.switches.trans switches,
        e.gauges.trans gauges⟩
      units := ⟨e.cycle.trans cycle, e.store.trans store, e.pending.trans pending⟩
      lamps := claims.trans e.lamps
      conditions := fun d hd => (e.conditions d fun h => hd (by simp [h])).trans (conditions d hd)
      ports := (PortsTook.of_ports ports).trans e.ports
      frames := (FramesStand.of_ports ports).trans stands
      only := (ReportedOnly.of_ports _ ports).trans (only.mono fun i h => ⟨remaining, h⟩)
      item := fun _ => item }

/-! ## The exit -/

/-- A port that has taken its timeout, with its link timer started where LOAD is left (R174, R180). -/
def PortState.timed (n : Nat) (x : PortState) : PortState :=
  { x with timeout := n, linkTimer := if x.link = .up ∧ x.held = false then .running n else x.linkTimer }

theorem port_startLinkTimers (c : Configuration) (p : Port) (s : State) :
    (startLinkTimers (takeTimeouts c s)).port p = (s.port p).timed (c.timing.timeout p) := by
  have timed (n : Nat) (x : PortState) :
      (if PortState.link { x with timeout := n } = .up ∧ PortState.held { x with timeout := n } = false
        then PortState.startTimer { x with timeout := n } else { x with timeout := n }) = x.timed n := by
    unfold PortState.timed
    by_cases h : x.link = .up ∧ x.held = false
    · rw [if_pos h]
      exact if_pos h
    · rw [if_neg h]
      exact if_neg h
  unfold startLinkTimers
  rw [port_mapPorts]
  cases p <;> exact timed _ _

/-- The frames stand: what is held after the events was held before them. -/
theorem PortKept.held {x y : PortState} (k : PortKept x y) (h : x.held = false) : y.held = false := by
  unfold PortState.held at h ⊢
  cases hx : x.exec with
  | none =>
    have none : y.exec = none := by simpa [hx] using k.isSome
    rw [none]
    rfl
  | some f =>
    obtain ⟨g, hg, kept⟩ := k.exec f hx
    rw [hx] at h
    rw [hg]
    rcases kept.hold with same | ended
    · simpa [same] using h
    · simp [ended]

theorem Claim.latchedAfresh_first {s t : State} (h : t.signals = s.signals) (x : Claim) : x.latchedAfresh t (x.firstLatch s) := by
  constructor
  · rintro e v y p rfl hp
    simp [Claim.firstLatch, Claim.judge, judgeLatch, hp, h]
  · rintro e v y p rfl hp
    simp [Claim.firstLatch, Claim.judge, judgeLatch, hp, h]

theorem Claim.latchedAfresh_map {s t : State} (h : t.signals = s.signals) {n : Nat} {claims : Vector Claim n} {latches : Vector Bool n}
    (hl : latches = claims.map (Claim.firstLatch s)) (k : Fin n) : claims[k].latchedAfresh t latches[k] := by
  have here : latches[k] = claims[k].firstLatch s := by
    rw [hl]
    exact Vector.getElem_map ..
  rw [here]
  exact latchedAfresh_first h _

theorem lampsNormal_of_settings {s : State} {c : Configuration} (h : s.lamps.settings = some (lampSettings c.normal)) : LampsNormal s := by
  intro st hst
  exact ⟨c, Option.some.inj (hst.symm.trans h)⟩

theorem leaveLoad_parked {s : State} (h : s.cycle.ignition = false) : leaveLoad s = enterParked s := by
  unfold leaveLoad
  rw [h]
  rfl

/-- From the state of the load to the end of the event that leaves LOAD. -/
theorem loadLeft {c : Configuration} {before u : State} (hb : before.cycle.state ≠ .parked) (hc : u.store.inForce = some c)
    (hi : u.cycle.ignition = false) : LoadLeft c.normal u (finishEvent before (loadExit u)) := by
  have taken := blocksTaken_spec c.normal u
  have exit : loadExit u =
      settleUnits false (leaveLoad (startLinkTimers (takeTimeouts c.normal (takeReadoutSettings c.normal (blocksTaken c.normal u))))) := by
    have config : u.config = some c.normal := by rw [State.config, hc]; rfl
    unfold loadExit
    rw [config]
    rfl
  rw [exit]
  generalize blocksTaken c.normal u = v at taken ⊢
  have readout := takeReadoutSettings_spec c.normal v
  generalize takeReadoutSettings c.normal v = b at readout ⊢
  obtain ⟨signalsV, storeV, pendingV, tachoV, portsV⟩ := taken.others
  obtain ⟨settingsV, slowV, fastV⟩ := taken.lamps
  obtain ⟨signalsB, pulseB, distB, convB, switchesB, gaugesB⟩ := readout.blocks
  obtain ⟨cycleB, storeB, pendingB⟩ := readout.units
  have timed (p : Port) := port_startLinkTimers c.normal p b
  have cycle : b.cycle = { u.cycle with windowLength := c.normal.timing.bulbMs } := cycleB.trans taken.cycle
  have off : (startLinkTimers (takeTimeouts c.normal b)).cycle.ignition = false := by
    show b.cycle.ignition = false
    rw [cycle]
    exact hi
  rw [leaveLoad_parked off]
  have same : startLinkTimers (takeTimeouts c.normal b) = b.setPorts (startLinkTimers (takeTimeouts c.normal b)).ports := rfl
  rw [same] at timed ⊢
  generalize (startLinkTimers (takeTimeouts c.normal b)).ports = P at timed ⊢
  clear same off
  have kept (p : Port) : PortKept (u.port p) (b.port p) := by
    have k := readout.ports.kept p
    rwa [State.port, portsV] at k
  have stood (p : Port) : (u.port p).FrameStands (b.port p) := by
    have k := readout.frames p
    rwa [State.port, portsV] at k
  have released : Released .cycle (enterParked (b.setPorts P)) := released_changeCycle _ _
  have signalled (p : Port) : (enterParked (b.setPorts P)).port p = ((b.port p).timed (c.normal.timing.timeout p)).signal .cycle := by
    rw [← timed p]
    exact port_signalEvent _ _ _
  have unit : (enterParked (b.setPorts P)).conv = { b.conv with
      scanTimer := .stopped, parkedTimer := b.conv.settings.elim .stopped fun c => .running (1000 * c.parkedS) } := rfl
  have state : (enterParked (b.setPorts P)).cycle = { b.cycle with state := .parked } := rfl
  have blocks : (enterParked (b.setPorts P)).signals = b.signals ∧ (enterParked (b.setPorts P)).pulse = b.pulse ∧
      (enterParked (b.setPorts P)).dist = b.dist ∧ (enterParked (b.setPorts P)).switches = b.switches ∧
      (enterParked (b.setPorts P)).gauges = b.gauges ∧ (enterParked (b.setPorts P)).lamps = b.lamps ∧
      (enterParked (b.setPorts P)).tacho = b.tacho ∧ (enterParked (b.setPorts P)).store = b.store ∧
      (enterParked (b.setPorts P)).pending = b.pending ∧ (enterParked (b.setPorts P)).conditions = b.conditions :=
    ⟨rfl, rfl, rfl, rfl, rfl, rfl, rfl, rfl, rfl, rfl⟩
  generalize enterParked (b.setPorts P) = d at *
  obtain ⟨signalsD, pulseD, distD, switchesD, gaugesD, lampsD, tachoD, storeD, pendingD, conditionsD⟩ := blocks
  have normal : LampsNormal d := by
    refine lampsNormal_of_settings (c := c) ?_
    rw [lampsD]
    exact readout.lamps.settings.trans settingsV
  have e : EventEnd d (finishEvent before (settleUnits false d)) := (settleUnits_eventEnd false d).trans (finishEvent_eventEnd before _)
  have stands : FramesStand d (finishEvent before (settleUnits false d)) := (framesStand_settleUnits false d).trans (framesStand_finishEvent before _)
  have only := finishEvent_afterFirst (before := before) normal
  have item := finishEvent_noticed (before := before) (s := settleUnits false d)
  generalize finishEvent before (settleUnits false d) = t at e stands only item ⊢
  have ports (p : Port) : PortKept ((b.port p).timed (c.normal.timing.timeout p)) (t.port p) := by
    have k := e.ports.kept p
    rw [signalled p] at k
    exact (PortState.signal_kept _ _).trans k
  have claims : ClaimsKept v.lamps t.lamps := readout.lamps.trans (lampsD ▸ e.lamps)
  have tacho : t.tacho = takenReadout c.normal u.tacho := by rw [e.tacho, tachoD, readout.tacho, tachoV]
  have signals : t.signals = u.signals := by rw [e.signals, signalsD, signalsB, signalsV]
  have cycleT : t.cycle = { u.cycle with state := .parked, windowLength := c.normal.timing.bulbMs } := by rw [e.cycle, state, cycle]
  exact {
    cycle := cycleT
    pulse := fun i => by
      rw [e.pulse, pulseD, pulseB, taken.pulse]
      rfl
    dist := by
      rw [e.dist, distD, distB, taken.dist]
      rfl
    converter := by
      rw [e.conv, unit, convB, taken.conv]
      rfl
    switches := by
      rw [e.switches, switchesD, switchesB]
      exact taken.switches
    gauges := fun i => by
      rw [e.gauges, gaugesD, gaugesB]
      exact taken.gauges i
    lamps := ⟨claims.settings.trans settingsV, claims.slowOn.trans slowV, claims.fastOn.trans fastV⟩
    latches := by
      constructor
      · intro i k
        exact Claim.latchedAfresh_map signals ((claims.telltales i).1.trans (taken.telltales i)) k
      · intro i k
        exact Claim.latchedAfresh_map signals ((claims.chimes i).1.trans (taken.chimes i)) k
    tacho := tacho
    links := fun p => by
      have k := kept p
      have m := ports p
      refine ⟨m.link.trans k.link, m.timeout, fun up free => ?_, fun down => ?_, m.watch.trans k.watch, m.counters.trans k.counters,
        m.cursors.trans k.cursors⟩
      · rw [m.linkTimer]
        exact if_pos ⟨k.link.trans up, k.held free⟩
      · rw [m.linkTimer, ← k.linkTimer]
        exact if_neg fun h => down (k.link.symm.trans h.1)
    transport := fun p => by
      have k := kept p
      have m := ports p
      obtain ⟨l, hl⟩ := k.changes
      obtain ⟨l', hl'⟩ := m.changes
      refine ⟨m.receiver.trans k.receiver, m.period.trans k.period, m.reply.trans k.reply, l ++ l', ?_⟩
      rw [hl', ← List.append_assoc, ← hl]
      rfl
    silent := by
      intro p i hi
      rcases only p i hi with old | rfl
      · rw [signalled p, PortState.signal_changes] at old
        rcases readout.only p i old with old | ⟨differs, item⟩
        · refine .inl ?_
          rwa [State.port, portsV] at old
        · refine .inr (.inr ⟨?_, item⟩)
          rwa [e.tacho, tachoD, ← tachoV]
      · exact .inr (.inl rfl)
    frames := fun p => by
      have d := stands p
      rw [signalled p] at d
      exact (stood p).trans (.trans (y := (b.port p).timed (c.normal.timing.timeout p)) (.of_exec rfl) ((PortState.signal_stands (.inr rfl) _).trans d))
    others := ⟨signals, by rw [e.store, storeD, storeB, storeV], by rw [e.pending, pendingD, pendingB, pendingV]⟩
    conditions := fun d hd => by
      simp only [List.mem_cons, List.not_mem_nil, or_false, not_or] at hd
      obtain ⟨failed, mismatch, prewarn, limit⟩ := hd
      rw [e.conditions d failed, State.cond, conditionsD, ← State.cond, readout.conditions d (by simp [failed, prewarn, limit]),
        taken.conditions d mismatch]
    item := item fun same => hb (by
      have state := congrArg CycleView.state same
      exact state.symm.trans (by show t.cycle.state = _; rw [cycleT]))
    event := released.took e.ports }

/-! ## The load -/

/-- The part with a configuration loaded (R1, R22, R57, R183). -/
def loadedWith (c : Configuration) (st : ConfigStore) (b : Bool) (s : State) : State :=
  setCond .configDefaults b
    (((s.setSignals (c.normal.descriptors.map Entry.emptied)).setDist { s.dist with tolerance := c.normal.odoTolerance }).setStore st)

theorem loadImage_eq {s : State} {c : Configuration} {st : ConfigStore} {b : Bool} (hst : s.store.load = st) (hc : st.inForce = some c)
    (hb : (st.state == .defaults) = b) : loadImage s = loadedWith c st b s := by
  subst hst hb
  have config : (setCond .configDefaults (s.store.load.state == .defaults) (s.setStore s.store.load)).config = some c.normal :=
    congrArg (Option.map Configuration.normal) hc
  unfold loadImage takeLoaded
  dsimp only
  rw [State.setStore_store, config]
  rfl

theorem onLoadComplete_eq {s : State} (hl : s.cycle.state = .load) (hs : s.store.state = .loading) : onLoadComplete s = loadExit (loadImage s) :=
  if_pos ⟨hl, hs⟩

theorem loadComplete_left {s : State} {c : Configuration} {st : ConfigStore} {b : Bool} (hl : s.cycle.state = .load)
    (hs : s.store.state = .loading) (hi : s.cycle.ignition = false) (hst : s.store.load = st) (hc : st.inForce = some c)
    (hb : (st.state == .defaults) = b) : Completes .configLoadComplete s (LoadLeft c.normal (loadedWith c st b s)) := by
  refine completes_finish (u := onLoadComplete s) rfl ?_
  rw [onLoadComplete_eq hl hs, loadImage_eq hst hc hb]
  exact loadLeft (by rw [hl]; exact nofun) hc hi

theorem restartLoad_left {s : State} {c : Configuration} (hl : s.cycle.state = .load) (hs : s.store.state ≠ .loading)
    (hc : s.store.inForce = some c) (hi : s.cycle.ignition = false) : Completes .restartLoadEnd s (LoadLeft c.normal s) := by
  have exit : onRestartLoadEnd s = loadExit s := if_pos ⟨hl, hs⟩
  refine completes_finish (u := onRestartLoadEnd s) rfl ?_
  rw [exit]
  exact loadLeft (by rw [hl]; exact nofun) hc hi

/-! ## Normalisation -/

theorem normal_descriptor (c : Configuration) (i : Fin 64) : c.normal.descriptors[i] = normalDescriptor i c.descriptors[i] := by
  simp [Configuration.normal]

/-! ### The creep threshold (R26) -/

/-- A pulse channel feeds an entry. -/
def Descriptor.fedBy (channel : Fin 4) (d : Descriptor) : Prop := d.primary = .pulse channel ∨ d.alternate = .pulse channel

theorem creepBound_iff (d : Descriptor) (b : Nat) :
    creepBound d = some b ↔ (0 < d.min ∧ (b : Int) = d.min) ∨ (d.min ≤ 0 ∧ 0 < d.max ∧ (b : Int) = d.max) := by
  unfold creepBound
  by_cases low : 0 < d.min
  · rw [if_pos low, Option.some_inj]
    omega
  · rw [if_neg low]
    by_cases high : 0 < d.max
    · rw [if_pos high, Option.some_inj]
      omega
    · rw [if_neg high]
      simp only [reduceCtorEq, false_iff]
      omega

/-- The bounds that the entries of a list give to a channel's creep threshold. -/
def CreepBounds (channel : Fin 4) (l : List Descriptor) (b : Nat) : Prop := ∃ d ∈ l, d.fedBy channel ∧ creepBound d = some b

theorem lowerCreep_spec (channel : Fin 4) : ∀ (l : List Descriptor) (creep : Nat),
    lowerCreep channel l creep ≤ creep ∧ (∀ b, CreepBounds channel l b → lowerCreep channel l creep ≤ b) ∧
      (lowerCreep channel l creep = creep ∨ CreepBounds channel l (lowerCreep channel l creep))
  | [], creep => ⟨le_rfl, fun _ ⟨_, h, _⟩ => absurd h List.not_mem_nil, .inl rfl⟩
  | d :: l, creep => by
    obtain ⟨next, hn⟩ : ∃ n, n = if d.primary = .pulse channel ∨ d.alternate = .pulse channel then (creepBound d).elim creep (min creep) else creep :=
      ⟨_, rfl⟩
    have unfolded : lowerCreep channel (d :: l) creep = lowerCreep channel l next := by rw [hn]; rfl
    obtain ⟨most, each, attained⟩ := lowerCreep_spec channel l next
    rw [unfolded]
    have first : next ≤ creep ∧ (∀ b, d.fedBy channel → creepBound d = some b → next ≤ b) ∧
        (next = creep ∨ (d.fedBy channel ∧ creepBound d = some next)) := by
      by_cases fed : d.fedBy channel
      · replace hn := hn.trans (if_pos fed)
        cases hb : creepBound d with
        | none =>
          rw [hb] at hn
          exact ⟨hn.le, fun _ _ h => absurd h nofun, .inl hn⟩
        | some b =>
          rw [hb] at hn
          have least : next = min creep b := hn
          refine ⟨by omega, fun b' _ h => by cases h; omega, ?_⟩
          by_cases small : creep ≤ b
          · exact .inl (by omega)
          · exact .inr ⟨fed, by rw [least]; exact congrArg some (by omega)⟩
      · replace hn := hn.trans (if_neg fed)
        exact ⟨hn.le, fun _ h => absurd h fed, .inl hn⟩
    obtain ⟨below, bounded, origin⟩ := first
    refine ⟨most.trans below, ?_, ?_⟩
    · rintro b ⟨d', hd, fed, hb⟩
      rcases List.mem_cons.1 hd with rfl | hd
      · exact most.trans (bounded b fed hb)
      · exact each b ⟨d', hd, fed, hb⟩
    · rcases attained with same | ⟨d', hd, fed, hb⟩
      · rw [same]
        exact origin.imp id fun ⟨fed, hb⟩ => ⟨d, List.mem_cons_self, fed, hb⟩
      · exact .inr ⟨d', List.mem_cons_of_mem _ hd, fed, hb⟩

theorem normal_pulse (c : Configuration) (i : Fin 4) : c.normal.pulse[i] = normalPulse i c.normal.descriptors.toList c.pulse[i] := by
  simp [Configuration.normal]

theorem creepBounds_iff (v : Vector Descriptor 64) (i : Fin 4) (b : Nat) :
    CreepBounds i v.toList b ↔
      ∃ e : Fin 64, (v[e].primary = .pulse i ∨ v[e].alternate = .pulse i) ∧
        ((0 < v[e].min ∧ (b : Int) = v[e].min) ∨ (v[e].min ≤ 0 ∧ 0 < v[e].max ∧ (b : Int) = v[e].max)) := by
  unfold CreepBounds
  constructor
  · rintro ⟨d, hd, fed, hb⟩
    obtain ⟨k, hk, rfl⟩ := List.getElem_of_mem hd
    have bound : k < 64 := by simpa using hk
    refine ⟨⟨k, bound⟩, ?_, ?_⟩
    · simpa [Descriptor.fedBy] using fed
    · simpa using (creepBound_iff ..).1 hb
  · rintro ⟨e, fed, hb⟩
    exact ⟨v[e], by simp, fed, (creepBound_iff ..).2 hb⟩

/-! ### Claims (R110) -/

theorem normal_telltale (c : Configuration) (i : Fin 40) : c.normal.telltales[i] = normalTelltale i c.telltales[i] := by
  simp [Configuration.normal]

theorem repeatsPort_of_port {claims : Vector Claim 4} {k : Fin 4} {q : Port} (h : claims[k] = .port q) :
    repeatsPort claims k = true ↔ ∃ j : Fin 4, j < k ∧ claims[j] = .port q := by
  unfold repeatsPort
  rw [h]
  simp only [List.any_eq_true, List.mem_finRange, true_and, Bool.and_eq_true, decide_eq_true_eq, beq_iff_eq]

theorem repeatsPort_of_other {claims : Vector Claim 4} {k : Fin 4} (h : ∀ q, claims[k] ≠ .port q) : repeatsPort claims k = false := by
  unfold repeatsPort
  split
  next q hq => exact absurd hq (h q)
  · rfl

/-- A claim that is no PORT claim and does not name TELLTALE_FAILED where that is barred. -/
theorem normalTelltale_claim_kept {i : Fin 40} {d : TelltaleDesc} {k : Fin 4} (hp : ∀ q, d.claims[k] ≠ .port q)
    (hf : d.claims[k].namesFailed = false) : (normalTelltale i d).claims[k] = normalTelltaleClaim d.claims[k] := by
  rw [normalTelltale_claim, repeatsPort_of_other hp, if_neg (by simp), hf, Bool.and_false, if_neg (by simp)]

theorem barsFailedClaim_iff (i : Fin 40) (d : TelltaleDesc) :
    barsFailedClaim i (normalTelltale i d).render (normalTelltale i d).lampClass (normalTelltale i d).colour = true ↔
      i ≠ 0 ∧ i ≠ 1 ∧ (d.render = .screen ∨ d.colour = .amber ∨ (d.colour = .red ∧ d.lampClass = .mandatory)) := by
  unfold barsFailedClaim
  by_cases h0 : i = 0
  · simp [h0]
  · by_cases h1 : i = 1
    · simp [h1]
    · simp [h0, h1, normalTelltale, or_assoc]

/-- The pulse channels' settings as a channel takes them (R26). -/
theorem normalPulse_spec (i : Fin 4) (v : Vector Descriptor 64) (d : PulseSettings) :
    (normalPulse i v.toList d).scale =
      (match d.kind with
      | .speed => max 2400 (min 25000 d.scale)
      | .rotation => max 1 (min 255 d.scale)
      | .frequency => 1) ∧
    (d.kind ≠ .speed → (normalPulse i v.toList d).creep = min 32767 d.creep) ∧
    (d.kind = .speed → (normalPulse i v.toList d).creep ≤ min 32767 d.creep ∧
      (∀ b, CreepBounds i v.toList b → (normalPulse i v.toList d).creep ≤ b) ∧
      ((normalPulse i v.toList d).creep = min 32767 d.creep ∨ CreepBounds i v.toList (normalPulse i v.toList d).creep)) := by
  refine ⟨?_, fun h => if_neg h, fun h => ?_⟩
  · unfold normalPulse normalScale
    dsimp only
    cases d.kind <;> rfl
  · have creep : (normalPulse i v.toList d).creep = lowerCreep i v.toList (min 32767 d.creep) := if_pos h
    rw [creep]
    exact lowerCreep_spec i v.toList (min 32767 d.creep)

theorem normalTelltale_first (d : TelltaleDesc) :
    (normalTelltale 0 d).render = .lamp ∧ (normalTelltale 0 d).lampClass = .mandatory ∧ (normalTelltale 0 d).colour = .red := ⟨rfl, rfl, rfl⟩

theorem normalTelltale_second (d : TelltaleDesc) :
    (normalTelltale 1 d).render = .lamp ∧ (normalTelltale 1 d).lampClass = .mandatory ∧ (normalTelltale 1 d).colour = .amber := ⟨rfl, rfl, rfl⟩

theorem normalTelltale_other {i : Fin 40} (h0 : i ≠ 0) (h1 : i ≠ 1) (d : TelltaleDesc) :
    (normalTelltale i d).render = d.render ∧ (normalTelltale i d).lampClass = d.lampClass ∧ (normalTelltale i d).colour = d.colour := by
  simp [normalTelltale, h0, h1]

/-- A CONDITION claim of a telltale as the unit takes it (R110). -/
theorem normalTelltale_condition {i : Fin 40} {d : TelltaleDesc} {k : Fin 4} {x : Condition} {p : Pattern} (h : d.claims[k] = .condition x p) :
    (normalTelltale i d).claims[k] =
      if x = .telltaleFailed ∧ (i ≠ 0 ∧ i ≠ 1 ∧ (d.render = .screen ∨ d.colour = .amber ∨ (d.colour = .red ∧ d.lampClass = .mandatory))) then .absent
      else if p = .off then .absent else .condition x (if p = .follow then .on else p) := by
  have names : d.claims[k].namesFailed = true ↔ x = .telltaleFailed := by rw [h]; exact beq_iff_eq
  rw [normalTelltale_claim, repeatsPort_of_other (by rw [h]; exact nofun), if_neg (by simp)]
  simp only [Bool.and_eq_true, barsFailedClaim_iff, names, and_comm (b := x = .telltaleFailed)]
  congr 1
  rw [h]
  rfl

/-- Settles O16: the part leaves LOAD stage by stage, and each record is normalised by its block's rule. -/
theorem loadEnds : Obligations.LoadEnds := by
  unfold Obligations.LoadEnds
  refine ⟨fun s hl hs hi => ⟨fun c sound => ?loaded, fun unsound => ?defaults⟩, fun s c hl hs hc hi => restartLoad_left hl hs hc hi, fun c i => ?descriptor,
    fun c i => ?pulse, fun c => ⟨rfl, rfl, rfl, rfl, by simp only [Configuration.normal], ?curves, ?label, ?crc⟩, fun c i => ?gauge, fun c i k => ?telltale, fun c i => ?chime⟩
  case loaded =>
    refine loadComplete_left (b := false) hl hs hi ?_ rfl rfl
    simp only [ConfigStore.load, sound]
    rfl
  case defaults =>
    refine loadComplete_left (b := true) hl hs hi ?_ rfl rfl
    simp only [ConfigStore.load, unsound]
    rfl
  case curves | label | crc => simp only [Configuration.normal]
  case descriptor =>
    rw [normal_descriptor]
    rfl
  case pulse =>
    rw [normal_pulse]
    simp only [← creepBounds_iff]
    obtain ⟨scale, slow, fast⟩ := normalPulse_spec i c.normal.descriptors c.pulse[i]
    exact ⟨rfl, rfl, rfl, scale, rfl, rfl, slow, fast⟩
  case gauge =>
    have gauge : c.normal.gauges[i] = normalGauge c.gauges[i] := by simp [Configuration.normal]
    rw [gauge]
    rfl
  case telltale =>
    rw [normal_telltale]
    generalize c.telltales[i] = d
    refine ⟨rfl, rfl, fun h => h ▸ normalTelltale_first d, fun h => h ▸ normalTelltale_second d, fun h0 h1 => normalTelltale_other h0 h1 d,
      fun h => ?_, fun e t th hy p h => ?_, fun input p h => ?_, fun q h => ⟨fun repeated => ?_, fun fresh => ?_⟩, fun x p h => ?_⟩
    · rw [normalTelltale_claim_kept (by rw [h]; exact nofun) (by rw [h]; rfl), h]
      rfl
    · rw [normalTelltale_claim_kept (by rw [h]; exact nofun) (by rw [h]; rfl), h]
      rfl
    · rw [normalTelltale_claim_kept (by rw [h]; exact nofun) (by rw [h]; rfl), h]
      rfl
    · rw [normalTelltale_claim, if_pos ((repeatsPort_of_port h).2 repeated)]
    · have once : ¬repeatsPort d.claims k = true := fun r => by
        obtain ⟨j, hj, hq⟩ := (repeatsPort_of_port h).1 r
        exact fresh j hj hq
      rw [normalTelltale_claim, if_neg once, h]
      exact if_neg (by simp [Claim.namesFailed])
    · rw [normalTelltale_condition h]
      constructor
      · intro away
        split
        · rfl
        next present => rw [if_pos (away.resolve_right present)]
      · intro on present
        rw [if_neg present, if_neg on]
  case chime =>
    have chime : c.normal.chimes[i] = normalChime c.chimes[i] := by simp [Configuration.normal]
    rw [chime]
    generalize c.chimes[i] = d
    refine ⟨rfl, rfl, rfl, rfl, rfl, fun k => ?_⟩
    have claim : (normalChime d).claims[k] = normalChimeClaim d.claims[k] := Vector.getElem_map ..
    rw [claim]
    refine ⟨fun e t th hy p h => by rw [h]; rfl, fun h => ?_⟩
    cases hd : d.claims[k] with
    | signal e t th hy p => exact absurd hd (h e t th hy p)
    | absent | switch | port | condition => rfl

end Sys2Proof.Machine
end

section
/-! Proofs: WRITE requests and their elements (R167 to R172). -/

namespace Sys2Proof.Machine

/-! ## Fields -/

theorem byteAt_eq (r : List Byte) (k : Nat) : byteAt r k = (r.getD k 0).toNat := rfl

theorem wordAt_eq (r : List Byte) (k : Nat) : wordAt r k = (r.getD k 0).toNat * 256 + (r.getD (k + 1) 0).toNat := rfl

theorem longAt_eq (r : List Byte) (k : Nat) :
    longAt r k = (r.getD k 0).toNat * 16777216 + (r.getD (k + 1) 0).toNat * 65536 + (r.getD (k + 2) 0).toNat * 256 + (r.getD (k + 3) 0).toNat := by
  simp only [longAt, wordAt, byteAt, Nat.add_assoc, Nat.reduceAdd]
  omega

/-- Two bytes read as a signed number. -/
theorem signed16_append (a b : Byte) : signed16 (a.toNat * 256 + b.toNat) = BitVec.toInt (a ++ b) := by
  have value : (a ++ b).toNat = a.toNat * 256 + b.toNat := by
    rw [BitVec.toNat_append, ← Nat.shiftLeft_add_eq_or_of_lt b.isLt, Nat.shiftLeft_eq]
  rw [BitVec.toInt_eq_toNat_cond, value]
  unfold signed16
  split <;> split <;> omega

theorem signedAt_eq (r : List Byte) (k : Nat) : signedAt r k = BitVec.toInt (r.getD k 0 ++ r.getD (k + 1) 0) := signed16_append _ _

theorem byteAt_eq_zero {r : List Byte} {k : Nat} : byteAt r k = 0 ↔ r.getD k 0 = 0 := by
  rw [byteAt, ← BitVec.toNat_inj]
  rfl

/-! ## A WRITE that is carried out -/

section
variable {p : Port} {r : Region} {index count : Nat} {data : List Byte} {s : State}

theorem pushResult_none {o : RequestOutcome} (h : (s.port p).exec = none) (ho : o.isRefusal = false) (n : Nat) (data : List Byte) :
    pushResult p o n data s = s := by
  unfold pushResult mapExec
  rw [h, ho]
  show setPort p { s.port p with exec := none } s = s
  rw [← h]
  exact setPort_self p s

theorem legalSpan_iff : legalSpan r index count = true ↔ (index = 255 ∨ index < r.elements) ∧ 1 ≤ count ∧ count ≤ r.elements := by
  simp [legalSpan]

theorem legalWrite_iff : legalWrite r index count = true ↔ legalSpan r index count = true ∧ (r = .control → count = 1) := by
  simp only [legalWrite, Bool.and_eq_true, Bool.or_eq_true, bne_iff_ne, beq_iff_eq]
  tauto

theorem runWrite_rights (h : r.writable p = false) : runWrite p r index count data s = pushResult p .rights 0 [] s := by
  unfold runWrite
  rw [h]
  rfl

theorem runWrite_range (hw : r.writable p = true) (h : legalWrite r index count = false) :
    runWrite p r index count data s = pushResult p .range 0 [] s := by
  unfold runWrite
  rw [hw, h]
  rfl

theorem runWrite_judged (hw : r.writable p = true) (h : legalWrite r index count = true) :
    runWrite p r index count data s =
      (firstRefusal r p (writeItems r (firstElement (s.port p) r index) count data) s).elim
        (applyWrite p r (firstElement (s.port p) r index) count (writeItems r (firstElement (s.port p) r index) count data) s)
        fun o => pushResult p o 0 [] s := by
  unfold runWrite
  rw [hw, h]
  simp only [Bool.not_true, Bool.false_eq_true, if_false]
  cases firstRefusal r p (writeItems r (firstElement (s.port p) r index) count data) s <;> rfl

theorem firstRefusal_none {first : Nat}
    (h : ∀ k, k < count → judgeElement r p ((first + k) % r.elements) ((data.drop (k * r.writeSize)).take r.writeSize) s = none) :
    firstRefusal r p (writeItems r first count data) s = none := by
  unfold firstRefusal writeItems
  rw [List.findSome?_eq_none_iff]
  intro it hit
  obtain ⟨k, hk, rfl⟩ := List.mem_map.1 hit
  exact h k (List.mem_range.1 hk)

/-- The first refused element gives the outcome (R171). -/
theorem firstRefusal_some {first k : Nat} {o : RequestOutcome} (hk : k < count)
    (here : judgeElement r p ((first + k) % r.elements) ((data.drop (k * r.writeSize)).take r.writeSize) s = some o)
    (before : ∀ j, j < k → judgeElement r p ((first + j) % r.elements) ((data.drop (j * r.writeSize)).take r.writeSize) s = none) :
    firstRefusal r p (writeItems r first count data) s = some o := by
  unfold firstRefusal writeItems
  rw [List.findSome?_map]
  have split : List.range count = List.range k ++ k :: (List.range (count - k - 1)).map (k + 1 + ·) := by
    conv_lhs => rw [show count = k + (1 + (count - k - 1)) by omega, List.range_add, List.range_add]
    simp [add_assoc]
  have none := List.findSome?_eq_none_iff.2 fun j hj => before j (List.mem_range.1 hj)
  rw [split, List.findSome?_append]
  refine (congrArg (Option.or · _) none).trans ?_
  simp [here]

end

/-! ## Division of a body -/

/-- The bound on the number of requests does not bear on them: a request takes three bytes. -/
theorem divideBody_bound : ∀ (n m : Nat) (body : List Byte), body.length ≤ n → body.length ≤ m → divideBody n body = divideBody m body
  | n, m, [], _, _ => by cases n <;> cases m <;> rfl
  | n, m, [a], hn, hm => by
    obtain ⟨n, rfl⟩ : ∃ k, n = k + 1 := ⟨n - 1, by simp at hn; omega⟩
    obtain ⟨m, rfl⟩ : ∃ k, m = k + 1 := ⟨m - 1, by simp at hm; omega⟩
    rfl
  | n, m, [a, b], hn, hm => by
    obtain ⟨n, rfl⟩ : ∃ k, n = k + 1 := ⟨n - 1, by simp at hn; omega⟩
    obtain ⟨m, rfl⟩ : ∃ k, m = k + 1 := ⟨m - 1, by simp at hm; omega⟩
    rfl
  | 0, _, _ :: _ :: _ :: _, hn, _ => absurd hn (by simp)
  | _ + 1, 0, _ :: _ :: _ :: _, _, hm => absurd hm (by simp)
  | n + 1, m + 1, k :: i :: c :: rest, hn, hm => by
    simp only [List.length_cons] at hn hm
    have tail : divideBody n rest = divideBody m rest := divideBody_bound n m rest (by omega) (by omega)
    have written (need : Nat) : divideBody n (rest.drop need) = divideBody m (rest.drop need) :=
      divideBody_bound n m (rest.drop need) (by rw [List.length_drop]; omega) (by rw [List.length_drop]; omega)
    simp only [divideBody, tail, written]

theorem requestsOf_cons (k i c : Byte) (rest : List Byte) :
    requestsOf (k :: i :: c :: rest) =
      match k.toNat / 16 with
      | 1 => .read (k.toNat % 16) i.toNat c.toNat :: requestsOf rest
      | 2 =>
        match Region.ofNumber (k.toNat % 16) with
        | none => [.faulty .noRegion]
        | some r =>
          if rest.length < c.toNat * r.writeSize then [.faulty .length]
          else .write r i.toNat c.toNat (rest.take (c.toNat * r.writeSize)) :: requestsOf (rest.drop (c.toNat * r.writeSize))
      | 3 => .wait i.toNat c.toNat :: requestsOf rest
      | 4 => .changes c.toNat :: requestsOf rest
      | _ => [.faulty .noKind] := by
  have tail : divideBody (rest.length + 2) rest = requestsOf rest := divideBody_bound _ _ _ (by omega) le_rfl
  have written (need : Nat) : divideBody (rest.length + 2) (rest.drop need) = requestsOf (rest.drop need) :=
    divideBody_bound _ _ _ (by rw [List.length_drop]; omega) le_rfl
  show divideBody (rest.length + 2 + 1) (k :: i :: c :: rest) = _
  simp only [divideBody, tail, written] <;> rfl

/-! ## Judgement of an element -/

theorem append_toNat (a b : Byte) : (a ++ b).toNat = a.toNat * 256 + b.toNat := by
  rw [BitVec.toNat_append, ← Nat.shiftLeft_add_eq_or_of_lt b.isLt, Nat.shiftLeft_eq]

theorem ofNat_append (a b : Byte) : BitVec.ofNat 16 (a.toNat * 256 + b.toNat) = a ++ b := by
  rw [← append_toNat]
  exact BitVec.ofNat_toNat ..

theorem Memory.slice_zero (m : Memory) (n : Nat) : m.slice 0 n = (List.range n).map m.read := by
  simp [Memory.slice]

theorem Memory.slice_getD (m : Memory) {a n k : Nat} (h : k < n) : (m.slice a n).getD k 0 = m.read (a + k) := by
  simp [Memory.slice, h]

/-- The CRC of the image against its block 239 (R182). -/
theorem imageCrcMatches_iff (m : Memory) :
    imageCrcMatches m = true ↔ crc16 ((List.range 3824).map m.read) = m.read 3824 ++ m.read 3825 := by
  have field : BitVec.ofNat 16 (wordAt (m.block 239) 0) = m.read 3824 ++ m.read 3825 := by
    rw [wordAt_eq, Memory.block, Memory.slice_getD m (by decide), Memory.slice_getD m (by decide)]
    exact ofNat_append _ _
  rw [imageCrcMatches, Memory.slice_zero, field]
  exact beq_iff_eq

theorem finOf_val {n : Nat} (i : Fin n) : finOf n i = some i := by simp [finOf]

theorem refuseIf_or (b : Bool) (o : RequestOutcome) (x : Option RequestOutcome) : (refuseIf b o).or x = if b then some o else x := by
  cases b <;> rfl

theorem inLoad_iff (s : State) : s.inLoad = true ↔ s.cycle.state = .load := by simp [State.inLoad]

theorem slotOf_zero (p : Port) (e : Entry) : (e.slotOf p == 0) = !decide (e.desc.primary = .link p ∨ e.desc.alternate = .link p) := by
  unfold Entry.slotOf
  by_cases hp : e.desc.primary = .link p
  · simp [hp]
  · by_cases ha : e.desc.alternate = .link p
    · simp [hp, ha]
    · simp [hp, ha]

section
variable (p : Port) (data : List Byte) (s : State)

theorem judge_signals (e : Fin 64) :
    judgeElement .signals p e data s =
      if s.store.inForce ≠ none ∧ decide (s.signals[e].desc.primary = .link p ∨ s.signals[e].desc.alternate = .link p) = false then some .notSource
      else if decide (s.cycle.state = .load) = true then some .state
      else if 1 < (data.getD 2 0).toNat then some .range else none := by
  have judged : judgeElement .signals p e data s = judgeSignal s p s.signals[e] data := by simp [judgeElement, finOf_val]
  rw [judged]
  unfold judgeSignal
  rw [refuseIf_or, refuseIf_or, slotOf_zero]
  simp only [refuseIf, Bool.and_eq_true, Option.isSome_iff_ne_none, Bool.not_eq_true', inLoad_iff, decide_eq_true_eq]
  rfl

/-- What a port's pattern or claim is refused for under the settings (R110, R115). -/
theorem judge_listed {claims : List Claim} {listed : Bool} (h : listed = true ↔ .port p ∈ claims) (top : Nat) :
    (refuseIf (!listed) .notSource).or ((refuseIf s.inLoad .state).or (refuseIf (decide (top < byteAt data 0)) .range)) =
      if .port p ∉ claims then some .notSource else if decide (s.cycle.state = .load) = true then some .state
      else if top < (data.getD 0 0).toNat then some .range else none := by
  rw [refuseIf_or, refuseIf_or]
  simp only [refuseIf, Bool.not_eq_true', ← Bool.not_eq_true, h, inLoad_iff, decide_eq_true_eq]
  rfl

theorem judge_telltales (i : Fin 40) :
    (s.lamps.settings = none → judgeElement .telltales p i data s = some .state) ∧
      ∀ st, s.lamps.settings = some st →
        judgeElement .telltales p i data s =
          if .port p ∉ st.telltales[i].claims.toList then some .notSource else if decide (s.cycle.state = .load) = true then some .state
          else if 3 < (data.getD 0 0).toNat then some .range else none := by
  have judged : judgeElement .telltales p i data s = judgeTelltale s p i data := by simp [judgeElement, finOf_val]
  rw [judged]
  unfold judgeTelltale
  refine ⟨fun h => by rw [h], fun st h => ?_⟩
  rw [h]
  exact judge_listed p data s (by simp) 3

theorem judge_chimes (i : Fin 8) :
    (s.lamps.settings = none → judgeElement .chimes p i data s = some .state) ∧
      ∀ st, s.lamps.settings = some st →
        judgeElement .chimes p i data s =
          if .port p ∉ st.chimes[i].claims.toList then some .notSource else if decide (s.cycle.state = .load) = true then some .state
          else if 1 < (data.getD 0 0).toNat then some .range else none := by
  have judged : judgeElement .chimes p i data s = judgeChime s p i data := by simp [judgeElement, finOf_val]
  rw [judged]
  unfold judgeChime
  refine ⟨fun h => by rw [h], fun st h => ?_⟩
  rw [h]
  exact judge_listed p data s (by simp) 1

theorem judge_distance :
    judgeElement .distance p 0 data s = (if s.dist.odoState ≠ .unknown then some .state else if 999999999 < longAt data 0 then some .range else none) ∧
      judgeElement .distance p 1 data s = some .rights ∧
      judgeElement .distance p 2 data s = (if longAt data 0 ≠ 0 then some .range else none) ∧
      judgeElement .distance p 3 data s = (if longAt data 0 ≠ 0 then some .range else none) := by
  have trip : refuseIf (longAt data 0 != 0) .range = if longAt data 0 ≠ 0 then some .range else none := by
    simp only [refuseIf, bne_iff_ne]
  refine ⟨?_, rfl, trip, trip⟩
  show (refuseIf (s.dist.odoState != .unknown) .state).or (refuseIf (decide (distanceTop < longAt data 0)) .range) = _
  rw [refuseIf_or]
  simp only [refuseIf, bne_iff_ne, decide_eq_true_eq]
  rfl

theorem judge_config (i : Nat) :
    judgeElement .config p i data s =
      if s.cycle.state = .parked ∧ (s.store.state = .loaded ∨ s.store.state = .defaults) then none else some .state := by
  show refuseIf (s.cycle.state != .parked || !(s.store.state == .loaded || s.store.state == .defaults)) .state = _
  unfold refuseIf
  by_cases h : s.cycle.state = .parked ∧ (s.store.state = .loaded ∨ s.store.state = .defaults)
  · rw [if_pos h, if_neg (by simpa [h.1, or_iff_not_imp_left] using h.2)]
  · rw [if_neg h, if_pos]
    simp only [Bool.or_eq_true, bne_iff_ne, Bool.not_eq_true', Bool.or_eq_false_iff, beq_eq_false_iff_ne]
    tauto

theorem judge_control :
    judgeElement .control p 0 data s =
        (if p ≠ .dlink then some .rights
        else if s.cycle.state ≠ .parked ∨ s.store.state = .committing ∨ s.store.state = .loading then some .state
        else if (data.getD 0 0).toNat ≠ 1 then some .range
        else if crc16 ((List.range 3824).map (Memory.read s.store.staging)) ≠ Memory.read s.store.staging 3824 ++ Memory.read s.store.staging 3825 ∨
            parseImage s.store.staging = none then some .range
        else none) ∧
      judgeElement .control p 1 data s =
        (if p ≠ .dlink then some .rights else if decide (s.cycle.state = .load) = true then some .state
        else if (data.getD 0 0).toNat ≠ 1 then some .range else none) ∧
      judgeElement .control p 2 data s = (if (data.getD 0 0).toNat ≠ 1 then some .range else none) := by
  have value : refuseIf (byteAt data 0 != 1) .range = if (data.getD 0 0).toNat ≠ 1 then some .range else none := by
    simp only [refuseIf, bne_iff_ne, byteAt]
  refine ⟨?_, ?_, value⟩
  · show (if p ≠ .dlink then some RequestOutcome.rights else judgeCommit s (byteAt data 0)) = _
    congr 1
    unfold judgeCommit
    rw [refuseIf_or, refuseIf_or]
    simp only [refuseIf, ← imageCrcMatches_iff, Bool.or_eq_true, bne_iff_ne, beq_iff_eq, byteAt, Bool.not_eq_true', Option.isNone_iff_eq_none, or_assoc,
      Bool.not_eq_true, ne_eq]
  · show (if p ≠ .dlink then some RequestOutcome.rights
      else (refuseIf s.inLoad .state).or (refuseIf (byteAt data 0 != 1) .range)) = _
    rw [refuseIf_or, value]
    simp only [inLoad_iff, decide_eq_true_eq]

end

/-! ## The statement of a refused WRITE -/

theorem outcomes_refused {o : RequestOutcome} (h : 16 ≤ o.code) : o.isRefusal = true := by
  cases o <;> revert h <;> decide

/-- What an element's judgement answers is none, or a refusal. -/
def Refuses (x : Option RequestOutcome) : Prop := ∀ o, x = some o → o.isRefusal = true

theorem Refuses.none : Refuses none := fun _ h => absurd h nofun

theorem Refuses.some {o : RequestOutcome} (h : o.isRefusal = true) : Refuses (some o) := fun _ k => Option.some.inj k ▸ h

theorem Refuses.refuseIf {b : Bool} {o : RequestOutcome} (h : o.isRefusal = true) : Refuses (refuseIf b o) := by
  cases b
  · exact .none
  · exact .some h

theorem Refuses.or {x y : Option RequestOutcome} (a : Refuses x) (b : Refuses y) : Refuses (x.or y) := by
  cases x with
  | none => exact b
  | some o => exact a

theorem refuses_judgeElement (r : Region) (p : Port) (i : Nat) (data : List Byte) (s : State) : Refuses (judgeElement r p i data s) := by
  have three {a b c : Bool} {o o' o'' : RequestOutcome} (h : o.isRefusal = true) (h' : o'.isRefusal = true) (h'' : o''.isRefusal = true) :
      Refuses ((refuseIf a o).or ((refuseIf b o').or (refuseIf c o''))) := (Refuses.refuseIf h).or ((Refuses.refuseIf h').or (.refuseIf h''))
  cases r with
  | signals =>
    simp only [judgeElement]
    cases finOf 64 i with
    | none => exact .none
    | some e => exact three rfl rfl rfl
  | telltales =>
    simp only [judgeElement]
    cases finOf 40 i with
    | none => exact .none
    | some k =>
      simp only [Option.bind_some, judgeTelltale]
      split
      · exact .some rfl
      · exact three rfl rfl rfl
  | chimes =>
    simp only [judgeElement]
    cases finOf 8 i with
    | none => exact .none
    | some k =>
      simp only [Option.bind_some, judgeChime]
      split
      · exact .some rfl
      · exact three rfl rfl rfl
  | tacho => exact .refuseIf rfl
  | distance =>
    simp only [judgeElement, judgeDistance]
    split
    · exact .some rfl
    · split
      · exact (Refuses.refuseIf rfl).or (.refuseIf rfl)
      · exact .refuseIf rfl
  | watch => exact .refuseIf rfl
  | config => exact .refuseIf rfl
  | control =>
    simp only [judgeElement, judgeControl]
    split
    · exact .refuseIf rfl
    · split
      · exact .some rfl
      · split
        · exact three rfl rfl rfl
        · exact (Refuses.refuseIf rfl).or (.refuseIf rfl)
  | directory | signalDetail | gauges | links | cycleState => exact .some rfl

theorem pushResult_refusal {p : Port} {f : FrameExec} {s : State} (h : (s.port p).exec = some f) {o : RequestOutcome} (ho : o.isRefusal = true) :
    pushResult p o 0 [] s =
      setPort p
        { s.port p with
          exec := some { f with results := f.results ++ resultBytes o 0 [] }
          counters := { (s.port p).counters with refused := (s.port p).counters.refused + 1 } } s := by
  rw [pushResult_eq h, ho]
  rfl

theorem ofNumber_none {n : Nat} : Region.ofNumber n = none ↔ 12 < n := by
  match n with
  | 0 | 1 | 2 | 3 | 4 | 5 | 6 | 7 | 8 | 9 | 10 | 11 | 12 => simp [Region.ofNumber]
  | n + 13 => simp [Region.ofNumber]

theorem writable_iff (r : Region) (p : Port) :
    r.writable p = true ↔
      match r with
      | .signals | .telltales | .chimes | .watch => True
      | .tacho => p = .tlink
      | .distance | .config => p = .dlink
      | .control => p = .dlink ∨ p = .nlink
      | .directory | .signalDetail | .gauges | .links | .cycleState => False := by
  cases r <;> simp [Region.writable]

/-- Settles O57: by the judgement of an element region by region; a refused element leaves a pushed result alone. -/
theorem writeRefusedWhole : Obligations.WriteRefusedWhole := by
  unfold Obligations.WriteRefusedWhole
  refine ⟨⟨rfl, fun _ => rfl, fun _ _ => rfl, fun k i c rest => ?divided⟩, fun p o f s hf ho => ?faulty, by decide, fun p data s => ?judged,
    fun p r index count data f s hf => ?refused⟩
  case divided =>
    intro kind region
    rw [requestsOf_cons]
    show _ ∧ _
    refine ⟨fun h => ?_, fun h => ?_, fun h => ?_, fun h => ?_, fun h hr => ?_, fun r h hr => ⟨fun short => ?_, fun long => ?_⟩⟩
    · rw [show k.toNat / 16 = 1 from h]
      rfl
    · rw [show k.toNat / 16 = 3 from h]
      rfl
    · rw [show k.toNat / 16 = 4 from h]
      rfl
    · have away : k.toNat / 16 ≠ 1 ∧ k.toNat / 16 ≠ 2 ∧ k.toNat / 16 ≠ 3 ∧ k.toNat / 16 ≠ 4 := by
        have := show k.toNat / 16 = 0 ∨ 4 < k.toNat / 16 from h
        omega
      obtain ⟨h1, h2, h3, h4⟩ := away
      split <;> first | rfl | contradiction
    · rw [show k.toNat / 16 = 2 from h, show Region.ofNumber (k.toNat % 16) = none from ofNumber_none.2 hr]
      rfl
    · rw [show k.toNat / 16 = 2 from h, show Region.ofNumber (k.toNat % 16) = some r from hr]
      exact if_pos short
    · rw [show k.toNat / 16 = 2 from h, show Region.ofNumber (k.toNat % 16) = some r from hr]
      exact if_neg (by omega)
  case faulty => exact pushResult_refusal hf (outcomes_refused ho)
  case judged =>
    intro value load
    refine ⟨fun e => judge_signals p data s e, fun i => judge_telltales p data s i, fun i => judge_chimes p data s i, ?_, ?_, judge_config p data s,
      judge_control p data s⟩
    · show refuseIf s.inLoad .state = _
      simp only [refuseIf, inLoad_iff, load, decide_eq_true_eq]
    · intro v
      have field : v = longAt data 0 := (longAt_eq data 0).symm
      rw [field]
      exact judge_distance p data s
  case refused =>
    intro x refusal first verdict
    have range (hw : r.writable p = true) (hl : legalWrite r index count = false) :
        runRequest p (.write r index count data) s = refusal .range := (runWrite_range hw hl).trans (pushResult_refusal hf rfl)
    have illegal (h : ¬(legalSpan r index count = true ∧ (r = .control → count = 1))) : legalWrite r index count = false :=
      Bool.eq_false_iff.2 fun k => h (legalWrite_iff.1 k)
    refine ⟨fun hw => (runWrite_rights hw).trans (pushResult_refusal hf rfl), fun hw h => range hw (illegal fun k => ?_),
      fun hw hr hc => range hw (illegal fun k => hc (k.2 hr)), fun k o hw hi hc hone hk here before => ?_, writable_iff r p⟩
    · have span := legalSpan_iff.1 k.1
      omega
    · have legal : legalWrite r index count = true := legalWrite_iff.2 ⟨legalSpan_iff.2 ⟨hi, by omega, hc⟩, hone⟩
      refine (runWrite_judged hw legal).trans ?_
      rw [show firstElement (s.port p) r index = first from rfl, firstRefusal_some hk here before]
      exact pushResult_refusal hf (refuses_judgeElement r p _ _ s o here)

end Sys2Proof.Machine
end

section
/-! Proofs: a WRITE that takes effect (R169, R171). -/

namespace Sys2Proof.Machine

theorem PortClaims.of_put (x : PortClaims) (p q : Port) (v : Bool) : (x.put p v).of q = if q = p then v else x.of q := by
  cases p <;> cases q <;> rfl

theorem putDistance_only (d : Distance) (s : State) :
    ReportedOnly (fun j => j = distanceItem ∧ distanceChanged s.dist d = true) s (putDistance d s) := by
  unfold putDistance
  dsimp only
  split
  next h => exact (ReportedOnly.of_ports (t := setCond .odoMismatch d.mismatch (s.setDist d)) _ rfl).trans (.raiseItem _ ⟨rfl, h⟩)
  · exact .of_ports _ rfl

section
variable {p : Port} {r : Region} {index count : Nat} {data : List Byte} {s : State}

/-- A WRITE that is not refused: its elements in order behind the cursor's move, and its result. -/
theorem runWrite_applied {first : Nat} (hf : firstElement (s.port p) r index = first) (hw : r.writable p = true)
    (hl : legalWrite r index count = true)
    (judged : ∀ k, k < count → judgeElement r p ((first + k) % r.elements) ((data.drop (k * r.writeSize)).take r.writeSize) s = none) :
    runWrite p r index count data s =
      pushResult p
        (if (List.range count).any fun k => clampsElement r ((first + k) % r.elements) ((data.drop (k * r.writeSize)).take r.writeSize) s
          then .okClamped else .ok) count []
        ((List.range count).foldl
          (fun s k => writeElement r p ((first + k) % r.elements) ((data.drop (k * r.writeSize)).take r.writeSize) s)
          (setCursor p r ((first + count) % r.elements) s)) := by
  rw [runWrite_judged hw hl, hf, firstRefusal_none judged]
  simp only [Option.elim_none, applyWrite, writeItems, List.foldl_map, List.any_map]
  rfl

end

/-- Settles O58: the elements in order, each by the operation that it runs. -/
theorem writesTakeEffect : Obligations.WritesTakeEffect := by
  unfold Obligations.WritesTakeEffect
  refine ⟨fun p r index count data s => ?whole, fun p e hi lo mark s hc => ?signals, fun p i b v s hv => ?telltales, fun p i b s => ?chimes,
    fun p a b c d s hm => ?distance, fun p i data s => rfl, fun p data f s hf => ?control, fun data s => ?clamps⟩
  case whole =>
    intro x first element bytes u clamped hw hi one top hctl judged
    have applied := runWrite_applied (data := data) (first := first) (p := p) (s := s) (index := index) rfl hw
      (legalWrite_iff.2 ⟨legalSpan_iff.2 ⟨hi, one, top⟩, hctl⟩) judged
    have outcome : (if clamped then RequestOutcome.okClamped else .ok).isRefusal = false := by cases clamped <;> rfl
    refine ⟨fun h => ?_, fun g h => ?_⟩
    · exact applied.trans (pushResult_none h outcome _ _)
    · exact applied.trans (pushResult_accepted count [] h outcome)
  case signals =>
    intro x t
    have marked : byteAt [hi, lo, mark] 2 = 0 ↔ mark = 0 := byteAt_eq_zero
    have update : signalUpdate [hi, lo, mark] = x := by
      unfold signalUpdate
      by_cases h : mark = 0
      · rw [if_pos (marked.2 h), signedAt_eq]
        exact (if_pos h).symm
      · rw [if_neg fun k => h (marked.1 k)]
        exact (if_neg h).symm
    have ht : t = deliverTo (.link p) x e s := by
      show (finOf 64 (e : Nat)).elim s _ = _
      rw [finOf_val, ← update]
      rfl
    have becomes := deliverTo_spec (.link p) x e s hc
    rw [ht]
    have followed := (deliverTo_stepped (.link p) x e s hc).followedWhere (deliverTo_table _ _ _ _)
    have fed : (fun j : Fin 64 => j = e ∧ fedBy (.link p) s e) = fun j => j = e ∧ fedBy (.link p) s j := by
      funext j
      exact propext ⟨fun ⟨h, k⟩ => ⟨h, h ▸ k⟩, fun ⟨h, k⟩ => ⟨h, h ▸ k⟩⟩
    exact ⟨becomes.table, becomes.here, becomes.others, fed ▸ followed, (deliverTo_reports (.link p) x e s).entries, deliverTo_only _ _ _ _⟩
  case telltales =>
    refine ⟨s.lamps.telltales[i].patterns.put p v, ?_, by rw [PortPatterns.of_put, if_pos rfl], fun q hq => by rw [PortPatterns.of_put, if_neg hq]⟩
    show (finOf 40 (i : Nat)).elim s _ = _
    rw [finOf_val]
    show writePattern p i ((Pattern.ofCode b.toNat).getD .off) s = _
    rw [hv]
    rfl
  case chimes =>
    refine ⟨s.lamps.chimes[i].portClaims.put p (decide (b = 1)), ?_, by rw [PortClaims.of_put, if_pos rfl],
      fun q hq => by rw [PortClaims.of_put, if_neg hq]⟩
    have claim : (byteAt [b] 0 == 1) = decide (b = 1) := by
      rw [Bool.eq_iff_iff, beq_iff_eq, decide_eq_true_eq, ← BitVec.toNat_inj]
      rfl
    show (finOf 8 (i : Nat)).elim s _ = _
    rw [finOf_val, ← claim]
    rfl
  case distance =>
    intro v effect
    have put (d' : Distance) (h : d'.mismatch = s.dist.mismatch) (i : Nat)
        (ht : writeElement .distance p i [a, b, c, d] s = putDistance d' s) : effect i d' := by
      show EventEnd (s.setDist d') (writeElement .distance p i [a, b, c, d] s) ∧ _ ∧ ReportedOnly _ s (writeElement .distance p i [a, b, c, d] s)
      rw [ht]
      exact ⟨putDistance_eventEnd (hm.trans h.symm), putDistance_noticed, putDistance_only d' s⟩
    have seed : longAt [a, b, c, d] 0 = v := longAt_eq _ _
    refine ⟨put { s.dist with odo := v, odoState := .seeded } rfl 0 ?_, put { s.dist with tripA := 0 } rfl 2 rfl, put { s.dist with tripB := 0 } rfl 3 rfl⟩
    show putDistance (s.dist.seed (longAt [a, b, c, d] 0)) s = _
    rw [seed]
    rfl
  case control =>
    refine ⟨?_, rfl, rfl⟩
    show mapExec _ p ((s.setStore { s.store with state := .committing }).setCycle { s.cycle with commitInFlight := true }) = _
    exact mapExec_eq (s := (s.setStore { s.store with state := .committing }).setCycle { s.cycle with commitInFlight := true }) hf _
  case clamps =>
    refine ⟨fun e => ?_, rfl, fun r i hs ht => ?_⟩
    · intro d v
      show (finOf 64 (e : Nat)).elim false _ = true ↔ _
      have mark : (byteAt data 2 == 0) = true ↔ data.getD 2 0 = 0 := beq_iff_eq.trans byteAt_eq_zero
      rw [finOf_val, Option.elim_some, Bool.and_eq_true, mark, signedAt_eq]
      refine and_congr_right fun _ => ?_
      show (d.store v).2 = true ↔ d.kind = .value ∧ (v < d.min ∨ d.max < v)
      unfold Descriptor.store
      cases d.kind <;> simp
    · cases r <;> first | rfl | contradiction

end Sys2Proof.Machine
end

section
/-! Proofs: blocks read back, and what an image reads as (R181, R182, R184, Tables 11-1, 12-6 and 12-8). -/

namespace Sys2Proof.Machine

/-! ## Codes -/

theorem finOf_iff {n x : Nat} {i : Fin n} : finOf n x = some i ↔ x = i := by
  unfold finOf
  split
  next h =>
    rw [Option.some.injEq, Fin.ext_iff]
  next h => exact ⟨nofun, fun k => absurd (k ▸ i.isLt) h⟩

theorem portOfSource_iff {x : Nat} {p : Port} : portOfSource x = some p ↔ x = Port.sourceCode p := by
  unfold portOfSource
  cases p <;> split <;> simp_all [Port.sourceCode]

theorem sourceCode_range (p : Port) : 45 ≤ Port.sourceCode p ∧ Port.sourceCode p ≤ 47 := by cases p <;> decide

theorem finOf_shifted {n b x : Nat} {i : Fin n} (h : b ≤ x) : finOf n (x - b) = some i ↔ x = b + i := by
  rw [finOf_iff]
  omega

theorem source_ofCode_iff {x : Nat} {s : Source} : Source.ofCode x = some s ↔ x = s.code := by
  unfold Source.ofCode
  split_ifs with h0 h1 h2 h3
  · cases s with
    | link p => simp [Source.code, h0]; have := sourceCode_range p; omega
    | none | pulse _ | analog _ | switch _ => simp [Source.code, h0] <;> omega
  · cases s with
    | link p => simp [Source.code]; have := sourceCode_range p; omega
    | none | pulse _ | analog _ | switch _ => simp [Source.code, finOf_shifted (show 1 ≤ x by omega)] <;> omega
  · cases s with
    | link p => simp [Source.code]; have := sourceCode_range p; omega
    | none | pulse _ | analog _ | switch _ => simp [Source.code, finOf_shifted (show 5 ≤ x by omega)] <;> omega
  · cases s with
    | link p => simp [Source.code]; have := sourceCode_range p; omega
    | none | pulse _ | analog _ | switch _ => simp [Source.code, finOf_shifted (show 21 ≤ x by omega)] <;> omega
  · cases s with
    | link p => simp [Source.code, portOfSource_iff]
    | none | pulse _ | analog _ | switch _ => simp [Source.code] <;> omega

theorem entryKind_ofCode_iff {x : Nat} {k : EntryKind} : EntryKind.ofCode x = some k ↔ x = k.code := by
  unfold EntryKind.ofCode
  cases k <;> split <;> simp_all [EntryKind.code]

theorem policy_ofCode_iff {x : Nat} {k : Policy} : Policy.ofCode x = some k ↔ x = k.code := by
  unfold Policy.ofCode
  cases k <;> split <;> simp_all [Policy.code]

theorem pattern_ofCode_iff {x : Nat} {k : Pattern} : Pattern.ofCode x = some k ↔ x = k.code := by
  unfold Pattern.ofCode
  cases k <;> split <;> simp_all [Pattern.code]

theorem condition_ofCode_iff {x : Nat} {k : Condition} : Condition.ofCode x = some k ↔ x = k.index := by
  unfold Condition.ofCode
  cases k <;> split <;> simp_all [Condition.index]

theorem test_ofCode_iff {x : Nat} {k : Test} : Test.ofCode x = some k ↔ x = k.code := by
  unfold Test.ofCode
  cases k <;> split <;> simp_all [Test.code]

theorem render_ofCode_iff {x : Nat} {k : Render} : Render.ofCode x = some k ↔ x = k.code := by
  unfold Render.ofCode
  cases k <;> split <;> simp_all [Render.code]

theorem lampClass_ofCode_iff {x : Nat} {k : LampClass} : LampClass.ofCode x = some k ↔ x = k.code := by
  unfold LampClass.ofCode
  cases k <;> split <;> simp_all [LampClass.code]

theorem colour_ofCode_iff {x : Nat} {k : Colour} : Colour.ofCode x = some k ↔ x = k.code := by
  unfold Colour.ofCode
  cases k <;> split <;> simp_all [Colour.code]

theorem resultKind_ofCode_iff {x : Nat} {k : ResultKind} : ResultKind.ofCode x = some k ↔ x = k.code := by
  unfold ResultKind.ofCode
  cases k <;> split <;> simp_all [ResultKind.code]

theorem edgeSelect_ofCode_iff {x : Nat} {k : EdgeSelect} : EdgeSelect.ofCode x = some k ↔ x = k.code := by
  unfold EdgeSelect.ofCode
  cases k <;> split <;> simp_all [EdgeSelect.code]

theorem excitation_ofCode_iff {x : Nat} {k : Excitation} : Excitation.ofCode x = some k ↔ x = k.code := by
  unfold Excitation.ofCode
  cases k <;> split <;> simp_all [Excitation.code]

theorem checkedOfCode_iff {x : Nat} {b : Bool} : checkedOfCode x = some b ↔ x = if b then 0 else 1 := by
  unfold checkedOfCode
  cases b <;> split <;> simp_all

theorem holdOnLossOfCode_iff {x : Nat} {b : Bool} : holdOnLossOfCode x = some b ↔ x = if b then 1 else 0 := by
  unfold holdOnLossOfCode
  cases b <;> split <;> simp_all

theorem gateOfCode_iff {x ms : Nat} : gateOfCode x = some ms ↔ (x, ms) ∈ [(0, 50), (1, 100), (2, 200), (3, 500)] := by
  unfold gateOfCode
  split <;> simp_all [eq_comm]

/-! ## Records -/

theorem requireThat_iff {b : Bool} {u : Unit} : requireThat b = some u ↔ b = true := by
  cases b <;> simp [requireThat]

theorem parseAll_iff {α : Type} {n : Nat} {f : Fin n → Option α} {v : Vector α n} : parseAll n f = some v ↔ ∀ i : Fin n, f i = some v[i] := by
  unfold parseAll
  split
  next h =>
    rw [Option.some.injEq]
    constructor
    · rintro rfl i
      simp
    · intro each
      refine Vector.ext fun i hi => ?_
      simp [each ⟨i, hi⟩]
  next h => exact ⟨nofun, fun each => absurd (fun i => by simp [each i]) h⟩

theorem partner_iff {x : Nat} {p : Option (Fin 64)} :
    (if x = 0xFF then some none else (finOf 64 x).map some) = some p ↔ (x = 0xFF ∧ p = none) ∨ ∃ q : Fin 64, x = q ∧ p = some q := by
  split
  next h =>
    have away (q : Fin 64) : x ≠ q := by omega
    simp [h]
    constructor
    · exact fun k => .inl k.symm
    · rintro (k | ⟨q, hq, -⟩)
      · exact k.symm
      · exact absurd (h.trans hq) (away q)
  next h =>
    simp only [Option.map_eq_some_iff, finOf_iff, h, false_and, false_or]
    exact exists_congr fun q => and_congr_right fun _ => eq_comm

/-- The two branches of the partner's field have one continuation. -/
theorem parseDescriptor_eq (r : List Byte) :
    parseDescriptor r =
      (EntryKind.ofCode (byteAt r 0 / 16)).bind fun kind => (Policy.ofCode (byteAt r 0 % 16)).bind fun policy =>
        (Source.ofCode (byteAt r 1)).bind fun primary => (Source.ofCode (byteAt r 2)).bind fun alternate =>
        (if byteAt r 13 = 0xFF then some none else (finOf 64 (byteAt r 13)).map some).bind fun partner =>
        (requireThat (decide (signedAt r 3 ≤ signedAt r 5))).bind fun _ =>
        some
          { kind := kind, policy := policy, primary := primary, alternate := alternate
            min := signedAt r 3, max := signedAt r 5, default := signedAt r 7
            staleMs := 10 * byteAt r 9, lostMs := 100 * byteAt r 10, notifyDelta := wordAt r 11
            partner := partner, tolerance := wordAt r 14, persistenceMs := 100 * byteAt r 16 } := by
  unfold parseDescriptor
  by_cases h : byteAt r 13 = 0xFF
  · simp only [h, if_true]
    rfl
  · simp only [h, if_false]
    rfl

theorem parseDescriptor_iff (r : List Byte) (d : Descriptor) :
    parseDescriptor r = some d ↔
      byteAt r 0 / 16 = d.kind.code ∧ byteAt r 0 % 16 = d.policy.code ∧ byteAt r 1 = d.primary.code ∧ byteAt r 2 = d.alternate.code ∧
      d.min = signedAt r 3 ∧ d.max = signedAt r 5 ∧ d.default = signedAt r 7 ∧ d.staleMs = 10 * byteAt r 9 ∧
      d.lostMs = 100 * byteAt r 10 ∧ d.notifyDelta = wordAt r 11 ∧
      ((byteAt r 13 = 0xFF ∧ d.partner = none) ∨ ∃ p : Fin 64, byteAt r 13 = p ∧ d.partner = some p) ∧
      d.tolerance = wordAt r 14 ∧ d.persistenceMs = 100 * byteAt r 16 ∧ d.min ≤ d.max := by
  rw [parseDescriptor_eq]
  simp only [Option.bind_eq_some_iff, entryKind_ofCode_iff, policy_ofCode_iff, source_ofCode_iff, partner_iff, requireThat_iff,
    decide_eq_true_eq, Option.some.injEq]
  constructor
  · rintro ⟨kind, hk, policy, hp, primary, h1, alternate, h2, partner, h13, -, ordered, rfl⟩
    exact ⟨hk, hp, h1, h2, rfl, rfl, rfl, rfl, rfl, rfl, h13, rfl, rfl, ordered⟩
  · rintro ⟨hk, hp, h1, h2, hmin, hmax, hdef, hs, hl, hn, h13, ht, hpe, ordered⟩
    refine ⟨_, hk, _, hp, _, h1, _, h2, _, h13, (), by rwa [← hmin, ← hmax], ?_⟩
    rw [← hmin, ← hmax, ← hdef, ← hs, ← hl, ← hn, ← ht, ← hpe]

theorem parseClaim_iff (ofChime : Bool) (r : List Byte) (c : Claim) :
    let carries (p : Pattern) : Prop := if ofChime then p = .on else byteAt r 0 % 16 = p.code
    parseClaim ofChime r = some c ↔
      match c with
      | .absent => byteAt r 0 / 16 = 0
      | .signal e t threshold hysteresis p =>
        byteAt r 0 / 16 = 1 ∧ byteAt r 1 = e ∧ byteAt r 2 = t.code ∧ threshold = signedAt r 3 ∧ hysteresis = wordAt r 5 ∧ carries p
      | .switch i p => byteAt r 0 / 16 = 2 ∧ byteAt r 1 = i ∧ carries p
      | .port q => byteAt r 0 / 16 = 3 ∧ byteAt r 1 = Port.sourceCode q
      | .condition x p => byteAt r 0 / 16 = 4 ∧ byteAt r 1 = x.index ∧ carries p := by
  intro carries
  have pattern (p : Pattern) : (if ofChime then some .on else Pattern.ofCode (byteAt r 0 % 16)) = some p ↔ carries p := by
    show _ ↔ if ofChime then p = .on else byteAt r 0 % 16 = p.code
    cases ofChime
    · exact pattern_ofCode_iff
    · exact (Option.some_inj (a := Pattern.on)).trans eq_comm
  unfold parseClaim
  generalize (if ofChime then some Pattern.on else Pattern.ofCode (byteAt r 0 % 16)) = read at pattern
  dsimp only
  split
  next h => cases c <;> simp [h]
  next h =>
    cases c <;> simp [h, Option.bind_eq_some_iff, pattern, finOf_iff, test_ofCode_iff]
    rw [eq_comm (a := signedAt r 3), eq_comm (a := wordAt r 5)]
    tauto
  next h =>
    cases c <;> simp [h, Option.bind_eq_some_iff, pattern, finOf_iff]
    exact and_comm
  next h => cases c <;> simp [h, portOfSource_iff]
  next h =>
    cases c <;> simp [h, Option.bind_eq_some_iff, pattern, condition_ofCode_iff]
    exact and_comm
  next h0 h1 h2 h3 h4 =>
    refine ⟨nofun, ?_⟩
    cases c with
    | absent => exact fun k => absurd k h0
    | signal | switch | port | condition => intro ⟨k, _⟩; contradiction

theorem parseTelltale_iff (r : List Byte) (d : TelltaleDesc) :
    parseTelltale r = some d ↔
      byteAt r 0 = d.render.code ∧ byteAt r 1 = d.lampClass.code ∧ byteAt r 2 = d.colour.code ∧
      d.proveOut = (byteAt r 3).testBit 0 ∧ d.parkedActive = (byteAt r 3).testBit 1 ∧
      ∀ k : Fin 4, parseClaim false (r.drop (4 + 7 * k)) = some d.claims[k] := by
  unfold parseTelltale
  simp only [Option.bind_eq_bind, Option.bind_eq_some_iff, render_ofCode_iff, lampClass_ofCode_iff, colour_ofCode_iff, parseAll_iff, bitOf_eq_testBit,
    Option.some.injEq]
  constructor
  · rintro ⟨render, h0, lampClass, h1, colour, h2, claims, hc, rfl⟩
    exact ⟨h0, h1, h2, rfl, rfl, hc⟩
  · rintro ⟨h0, h1, h2, hp, ha, hc⟩
    exact ⟨_, h0, _, h1, _, h2, _, hc, by rw [← hp, ← ha]⟩

theorem parseChime_iff (r : List Byte) (d : ChimeDesc) :
    parseChime r = some d ↔
      d.toneHz = wordAt r 0 ∧ d.onMs = 10 * byteAt r 2 ∧ d.offMs = 10 * byteAt r 3 ∧ d.repetitions = byteAt r 4 ∧
      d.priority = byteAt r 5 ∧ ∀ k : Fin 2, parseClaim true (r.drop (6 + 7 * k)) = some d.claims[k] := by
  unfold parseChime
  simp only [Option.bind_eq_bind, Option.bind_eq_some_iff, parseAll_iff, Option.some.injEq]
  constructor
  · rintro ⟨claims, hc, rfl⟩
    exact ⟨rfl, rfl, rfl, rfl, rfl, hc⟩
  · rintro ⟨h0, h1, h2, h3, h4, hc⟩
    exact ⟨_, hc, by rw [← h0, ← h1, ← h2, ← h3, ← h4]⟩

theorem parsePulse_iff (i : Fin 4) (r : List Byte) (d : PulseSettings) :
    parsePulse i r = some d ↔
      byteAt r 0 = d.kind.code ∧ byteAt r 1 = d.edges.code ∧ d.scale = wordAt r 2 ∧ d.spacingUs = 10 * byteAt r 4 ∧
      (byteAt r 5, d.gateMs) ∈ [(0, 50), (1, 100), (2, 200), (3, 500)] ∧ d.zeroTimeoutMs = 100 * byteAt r 6 ∧ d.creep = wordAt r 7 ∧
      (i = 0 → d.kind = .speed) := by
  unfold parsePulse
  simp only [Option.bind_eq_bind, Option.bind_eq_some_iff, resultKind_ofCode_iff, edgeSelect_ofCode_iff, gateOfCode_iff, requireThat_iff,
    decide_eq_true_eq, Option.some.injEq]
  constructor
  · rintro ⟨kind, h0, edges, h1, gate, h5, -, hs, rfl⟩
    exact ⟨h0, h1, rfl, rfl, h5, rfl, rfl, hs⟩
  · rintro ⟨h0, h1, h2, h4, h5, h6, h7, hs⟩
    exact ⟨_, h0, _, h1, _, h5, (), hs, by rw [← h2, ← h4, ← h6, ← h7]⟩

theorem parseScanSlot_iff (r : List Byte) (d : ScanSlot) :
    parseScanSlot r = some d ↔
      byteAt r 0 = 5 + d.channel ∧ byteAt r 1 = d.excitation.code ∧ d.settleUs = wordAt r 2 ∧ d.averaging = byteAt r 4 ∧
      d.averaging ∈ [1, 2, 4, 8] ∧ d.lower = wordAt r 5 ∧ d.upper = wordAt r 7 ∧ byteAt r 9 = (if d.checked then 0 else 1) ∧
      byteAt r 10 = d.curve ∧ d.shift = byteAt r 11 ∧ d.refuelThreshold = wordAt r 12 ∧ d.fastSettle = (byteAt r 14).testBit 0 ∧
      d.parked = (byteAt r 14).testBit 1 := by
  by_cases h : byteAt r 0 < 5
  · have away : byteAt r 0 ≠ 5 + d.channel := by omega
    simp [parseScanSlot, h, away]
  · simp only [parseScanSlot, h, if_false, Option.bind_eq_bind, Option.bind_eq_some_iff, finOf_shifted (Nat.le_of_not_lt h), excitation_ofCode_iff,
      checkedOfCode_iff, finOf_iff, requireThat_iff, decide_eq_true_eq, bitOf_eq_testBit, Option.some.injEq]
    constructor
    · rintro ⟨channel, h0, excitation, h1, checked, h9, curve, h10, -, h4, rfl⟩
      exact ⟨h0, h1, rfl, rfl, h4, rfl, rfl, h9, h10, rfl, rfl, rfl, rfl⟩
    · rintro ⟨h0, h1, h2, h4, ha, h5, h7, h9, h10, h11, h12, hf, hp⟩
      exact ⟨_, h0, _, h1, _, h9, _, h10, (), h4 ▸ ha, by rw [← h2, ← h4, ← h5, ← h7, ← h11, ← h12, ← hf, ← hp]⟩

theorem parseGauge_iff (r : List Byte) (d : GaugeDesc) :
    parseGauge r = some d ↔
      byteAt r 0 = d.entry ∧
      d.points =
        ((List.range (min 6 (byteAt r 1))).map fun k =>
          ({ x := signedAt r (2 + 4 * k), y := wordAt r (4 + 4 * k) } : CurvePoint)) ∧
      d.fullScale = wordAt r 26 ∧ d.park = wordAt r 28 ∧ byteAt r 30 = (if d.holdOnLoss then 1 else 0) ∧ d.deadband = byteAt r 31 ∧
      d.vmax = byteAt r 32 ∧ d.accel = byteAt r 33 ∧ d.homingSpeed = byteAt r 34 ∧ d.sweepEnable = sweepEnable (r.getD 35 0) := by
  unfold parseGauge
  simp only [Option.bind_eq_bind, Option.bind_eq_some_iff, finOf_iff, holdOnLossOfCode_iff, Option.some.injEq]
  constructor
  · rintro ⟨entry, h0, hold, h30, rfl⟩
    exact ⟨h0, rfl, rfl, rfl, h30, rfl, rfl, rfl, rfl, rfl⟩
  · rintro ⟨h0, hp, hf, hk, h30, h31, h32, h33, h34, h35⟩
    exact ⟨_, h0, _, h30, by rw [← hp, ← hf, ← hk, ← h31, ← h32, ← h33, ← h34, ← h35]⟩

/-! ## The image -/

theorem parseScanList_iff : ∀ (blocks : List (List Byte)) (slots : List ScanSlot),
    parseScanList blocks = some slots ↔ (blocks.takeWhile fun r => r.getD 0 0 ≠ 0xFF).map parseScanSlot = slots.map some
  | [], slots => by cases slots <;> simp [parseScanList]
  | r :: rs, slots => by
    have mark : byteAt r 0 = 0xFF ↔ r.getD 0 0 = 0xFF := by
      rw [byteAt, ← BitVec.toNat_inj]
      rfl
    unfold parseScanList
    by_cases h : byteAt r 0 = 0xFF
    · rw [if_pos h, List.takeWhile_cons_of_neg (by simpa using mark.1 h)]
      cases slots <;> simp
    · rw [if_neg h, List.takeWhile_cons_of_pos (by simpa using fun k => h (mark.2 k))]
      simp only [Option.bind_eq_bind, Option.bind_eq_some_iff, Option.some.injEq]
      cases slots with
      | nil => simp
      | cons x xs =>
        simp only [List.map_cons, List.cons.injEq, parseScanList_iff rs]
        constructor
        · rintro ⟨_, here, _, tail, rfl, rfl⟩
          exact ⟨here, tail⟩
        · rintro ⟨here, tail⟩
          exact ⟨_, here, _, tail, rfl, rfl⟩

theorem scanListValid_iff (slots : List ScanSlot) :
    scanListValid slots = true ↔ (slots.map (·.channel)).Nodup ∧ 15 ∈ slots.map (·.channel) := by
  simp [scanListValid]

theorem vector_ofFn_iff {α : Type} {n : Nat} {f : Fin n → α} {v : Vector α n} : Vector.ofFn f = v ↔ ∀ i : Fin n, v[i] = f i := by
  constructor
  · rintro rfl i
    simp
  · intro each
    refine Vector.ext fun i hi => ?_
    simpa using (each ⟨i, hi⟩).symm

theorem parseSwitches_iff (r : List Byte) (d : SwitchSettings) :
    parseSwitches r = d ↔
      (∀ p : Fin 12, d.activeHigh[p] = (wordAt r 0).testBit p) ∧ (∀ i : Fin 24, d.debounceMs[i] = 10 * byteAt r (2 + i)) ∧
      (∀ i : Fin 24, d.wake[i] = (byteAt r (26 + i / 8)).testBit (i % 8)) := by
  obtain ⟨activeHigh, debounceMs, wake⟩ := d
  simp only [parseSwitches, SwitchSettings.mk.injEq, vector_ofFn_iff, bitOf_eq_testBit]

/-! ## Curves -/

theorem strictlyRising_iff : ∀ ps : List CurvePoint,
    strictlyRising ps = true ↔ ∀ k p q, ps[k]? = some p → ps[k + 1]? = some q → p.x < q.x
  | [] => by simp [strictlyRising]
  | [a] => by simp [strictlyRising]
  | a :: b :: rest => by
    simp only [strictlyRising, Bool.and_eq_true, decide_eq_true_eq, strictlyRising_iff (b :: rest)]
    constructor
    · rintro ⟨first, tail⟩ k p q hp hq
      cases k with
      | zero =>
        obtain rfl : a = p := by simpa using hp
        obtain rfl : b = q := by simpa using hq
        exact first
      | succ k => exact tail k p q (by simpa using hp) (by simpa using hq)
    · intro each
      exact ⟨each 0 a b rfl rfl, fun k p q hp hq => each (k + 1) p q (by simpa using hp) (by simpa using hq)⟩

theorem senderCurveValid_iff (ps : List CurvePoint) :
    senderCurveValid ps = true ↔
      2 ≤ ps.length ∧ (∀ k p q, ps[k]? = some p → ps[k + 1]? = some q → p.x < q.x) ∧ ∀ p ∈ ps, p.x ≤ 4095 := by
  simp only [senderCurveValid, Bool.and_eq_true, decide_eq_true_eq, strictlyRising_iff, List.all_eq_true, and_assoc]

theorem gaugeCurveValid_iff (ps : List CurvePoint) :
    gaugeCurveValid ps = true ↔ 2 ≤ ps.length ∧ ∀ k p q, ps[k]? = some p → ps[k + 1]? = some q → p.x < q.x := by
  simp only [gaugeCurveValid, Bool.and_eq_true, decide_eq_true_eq, strictlyRising_iff]

/-! ## The statement -/

theorem lastBlockErased_iff (m : Memory) : lastBlockErased m = false ↔ ∃ k, k < 16 ∧ m.read (3824 + k) ≠ 0xFF := by
  simp [lastBlockErased, Memory.block, Memory.slice]

theorem soundImage_iff (m : Memory) (c : Configuration) :
    soundImage m = some c ↔ lastBlockErased m = false ∧ imageCrcMatches m = true ∧ parseImage m = some c := by
  unfold soundImage
  by_cases h : (!lastBlockErased m && imageCrcMatches m) = true
  · rw [if_pos h]
    simp only [Bool.and_eq_true, Bool.not_eq_true'] at h
    simp only [h, true_and]
  · rw [if_neg h]
    simp only [Bool.and_eq_true, Bool.not_eq_true'] at h
    exact ⟨nofun, fun k => absurd ⟨k.1, k.2.1⟩ h⟩

theorem Memory.slice_drop (m : Memory) (a n k : Nat) : (m.slice a n).drop k = m.slice (a + k) (n - k) := by
  refine List.ext_getElem (by simp [Memory.slice]) fun i _ _ => ?_
  simp [Memory.slice, Nat.add_assoc]

theorem parseImage_iff (m : Memory) (c : Configuration) :
    parseImage m = some c ↔
      (∀ i : Fin 64, parseDescriptor (m.slice (17 * i) 17) = some c.descriptors[i]) ∧
      (∀ i : Fin 40, parseTelltale (m.slice (1088 + 32 * i) 32) = some c.telltales[i]) ∧
      (∀ i : Fin 8, parseChime (m.slice (2368 + 32 * i) 32) = some c.chimes[i]) ∧
      (∀ i : Fin 4, parsePulse i (m.block (164 + i)) = some c.pulse[i]) ∧
      parseScanList ((List.range 16).map fun k => m.block (168 + k)) = some c.scanList ∧
      scanListValid c.scanList = true ∧
      (∀ i : Fin 16, c.curves[i] = parseSenderCurve (m.slice (2944 + 32 * i) 32)) ∧
      (∀ i : Fin 6, parseGauge (m.slice (3456 + 48 * i) 48) = some c.gauges[i]) ∧
      parseSwitches (m.slice 3744 32) = c.switches ∧ c.timing = parseTiming (m.block 236) ∧ c.readout = parseReadout (m.block 237) ∧
      c.odoTolerance = wordAt (m.block 237) 7 ∧ c.label = m.slice 3808 16 ++ m.slice 3826 14 ∧
      c.crc = m.read 3824 ++ m.read 3825 := by
  have crc : BitVec.ofNat 16 (wordAt (m.block 239) 0) = m.read 3824 ++ m.read 3825 := by
    rw [wordAt_eq, Memory.block, Memory.slice_getD m (by decide), Memory.slice_getD m (by decide)]
    exact ofNat_append _ _
  have label : (m.block 239).drop 2 = m.slice 3826 14 := Memory.slice_drop m 3824 16 2
  unfold parseImage
  simp only [Option.bind_eq_bind, Option.bind_eq_some_iff, parseAll_iff, requireThat_iff, Option.some.injEq, crc, label]
  constructor
  · rintro ⟨descriptors, hd, telltales, ht, chimes, hc, pulse, hp, scanList, hs, gauges, hg, -, valid, rfl⟩
    exact ⟨hd, ht, hc, hp, hs, valid, fun i => by simp, hg, rfl, rfl, rfl, rfl, rfl, rfl⟩
  · rintro ⟨hd, ht, hc, hp, hs, valid, hv, hg, hw, htime, hr, ho, hl, hcrc⟩
    refine ⟨_, hd, _, ht, _, hc, _, hp, _, hs, _, hg, (), valid, ?_⟩
    have curves : (Vector.ofFn fun i : Fin 16 => parseSenderCurve (m.slice (16 * 184 + 32 * i) 32)) = c.curves := vector_ofFn_iff.2 hv
    rw [curves, ← htime, ← hr, ← ho, ← hcrc]
    obtain ⟨_, _, _, _, _, _, _, _, _, _, _, label, _⟩ := c
    exact congrArg₂ (fun w l => Configuration.mk _ _ _ _ _ _ _ w _ _ _ l _) hw hl.symm

/-- Settles O13: each record by the equivalence of its reader, the map by the image's. -/
theorem blockReadsBack : Obligations.BlockReadsBack := by
  unfold Obligations.BlockReadsBack
  refine ⟨fun m i bs hm hb => ?block, fun m c => ?sound, fun m c => ?image, fun r k => ⟨byteAt_eq r k, wordAt_eq r k, signedAt_eq r k⟩,
    parseDescriptor_iff, parseClaim_iff, parseTelltale_iff, parseChime_iff, parsePulse_iff, parseScanSlot_iff, parseGauge_iff, ⟨rfl, rfl⟩,
    fun ps => ⟨senderCurveValid_iff ps, gaugeCurveValid_iff ps⟩⟩
  case block =>
    refine ⟨Memory.writeBlock_wf m hm i bs, fun k hk => ?_, fun a ha => ?_⟩
    · rw [Memory.read_writeBlock m hm, if_pos (by omega), Nat.add_sub_cancel_left]
    · rw [Memory.read_writeBlock m hm, if_neg (by omega)]
  case sound => rw [soundImage_iff, lastBlockErased_iff, imageCrcMatches_iff]
  case image =>
    intro bytes
    refine (parseImage_iff m c).trans ?_
    rw [parseScanList_iff, scanListValid_iff, parseSwitches_iff]
    have blocks (k : Nat) (i : Nat) : m.block (k + i) = bytes (16 * k + 16 * i) 16 := congrArg (m.slice · 16) (Nat.mul_add ..)
    simp only [blocks]
    exact Iff.rfl

end Sys2Proof.Machine
end

section
/-! Proofs: READ requests and the read elements (R168 to R170, Tables 12-3, 12-4 and 12-8). -/

namespace Sys2Proof.Machine

/-! ## Fields spelled -/

section
variable (v : Int) (n : Nat) (fs gs : List (Nat × Int))

theorem spell_nil : spell [] = [] := rfl

theorem spell_append : spell (fs ++ gs) = spell fs ++ spell gs := List.flatMap_append

theorem byte_ofInt : byte n = BitVec.ofInt 8 n := rfl

theorem spell_byte : spell ((1, v) :: fs) = BitVec.ofInt 8 v :: spell fs := by simp [spell]

/-- A two-byte field in two's complement. -/
theorem spell_word : spell ((2, v) :: fs) = signedWord v ++ spell fs := by
  have high : BitVec.ofInt 8 (v / 256) = byte ((v % 65536).toNat / 256) := by
    apply BitVec.eq_of_toNat_eq
    simp only [byte, BitVec.toNat_ofInt, BitVec.toNat_ofNat]
    omega
  have low : BitVec.ofInt 8 v = byte (v % 65536).toNat := by
    apply BitVec.eq_of_toNat_eq
    simp only [byte, BitVec.toNat_ofInt, BitVec.toNat_ofNat]
    omega
  simp [spell, signedWord, word, ← high, ← low, List.range_succ]

theorem byte_congr {a b : Nat} (h : a % 256 = b % 256) : byte a = byte b := by
  apply BitVec.eq_of_toNat_eq
  simpa only [byte, BitVec.toNat_ofNat] using h

theorem word_signed : word n = signedWord n := by
  simp only [signedWord, word, List.cons.injEq, and_true]
  exact ⟨byte_congr (by omega), byte_congr (by omega)⟩

theorem long_bytes : long n = [byte (n / 16777216), byte (n / 65536), byte (n / 256), byte n] := by
  simp only [long, word, List.cons_append, List.nil_append, List.cons.injEq, and_true]
  exact ⟨byte_congr (by omega), trivial, byte_congr (by omega), byte_congr (by omega)⟩

theorem spell_long : spell ((4, (n : Int)) :: fs) = long n ++ spell fs := by
  have digit (d : Nat) : BitVec.ofInt 8 ((n : Int) / d) = byte (n / d) := by
    rw [byte_ofInt]
    push_cast
    rfl
  have d0 := digit 16777216
  have d1 := digit 65536
  have d2 := digit 256
  push_cast at d0 d1 d2
  rw [long_bytes]
  simp only [spell, List.flatMap_cons, List.range_succ, List.range_zero, List.nil_append, List.cons_append, List.map_cons, List.map_nil,
    Nat.reduceSub, Int.reducePow, d0, d1, d2, Int.ediv_one, ← byte_ofInt]

theorem spell_zeros (k : Nat) : spell ((k, 0) :: fs) = unusedBytes k ++ spell fs := by
  simp [spell, unusedBytes, List.map_const']

theorem flag_flagBit (b : Bool) (k : Nat) : flag b k = flagBit b k := by
  cases b <;> simp [flag, flagBit]

end

/-! ## READ -/

section
variable {p : Port} {region index count : Nat} {r : Region} {s : State} {f : FrameExec}

theorem runRead_noRegion (h : Region.ofNumber region = none) : runRead p region index count s = pushResult p .noRegion 0 [] s := by
  unfold runRead
  rw [h]

theorem runRead_rights (hr : Region.ofNumber region = some r) (h : r.readable p = false) :
    runRead p region index count s = pushResult p .rights 0 [] s := by
  unfold runRead
  rw [hr]
  simp [h]

theorem runRead_range (hr : Region.ofNumber region = some r) (hp : r.readable p = true) (h : legalSpan r index count = false) :
    runRead p region index count s = pushResult p .range 0 [] s := by
  unfold runRead
  rw [hr]
  simp [hp, h]

theorem runRead_answered (hr : Region.ofNumber region = some r) (hp : r.readable p = true) (h : legalSpan r index count = true) :
    runRead p region index count s = readElements p r index count s := by
  unfold runRead
  rw [hr]
  simp [hp, h]

/-- The elements returned, their data and the cursor (R169, R170). -/
theorem readElements_eq (hf : (s.port p).exec = some f) {first n : Nat} (h : firstElement (s.port p) r index = first)
    (hn : min count (f.room / r.readSize) = n) (data : List Byte)
    (hd : ((List.range n).flatMap fun k => readElement r p ((first + k) % r.elements) s) = data) :
    readElements p r index count s =
      setPort p
        { s.port p with
          cursors := if n = 0 then (s.port p).cursors else (s.port p).cursors.set r.number ((first + n) % r.elements)
          exec := some
            { f with
              results := f.results ++ resultBytes (if n < count then .short else .ok) n data
              room := f.room - data.length } } s := by
  have outcome : (if n < count then RequestOutcome.short else .ok).isRefusal = false := by split <;> rfl
  have room : (s.port p).room = f.room := by rw [PortState.room, hf]; rfl
  unfold readElements
  simp only [h, room, hn, hd]
  by_cases zero : n = 0
  · rw [if_pos zero, if_pos zero, pushResult_accepted n data hf outcome]
  · have moved : ((setCursor p r ((first + n) % r.elements) s).port p).exec = some f := by rw [setCursor, port_setPort_self, hf]
    rw [if_neg zero, if_neg zero, pushResult_accepted n data moved outcome, setCursor, port_setPort_self, setPort_setPort]

end

/-! ## The elements -/

/-- The local time shown, and what is shown while there is none. -/
def timeField : Option Nat → Int
  | some t => t
  | none => 0xFFFF

/-- A place of the warnings list shown. -/
def warningField : Option Warning → Int
  | some w => w.code
  | none => 0

theorem spell_flatMap {α : Type} (g : α → List (Nat × Int)) (l : List α) : spell (l.flatMap g) = l.flatMap fun x => spell (g x) :=
  List.flatMap_assoc

theorem cast_getD (o : Option Nat) : ((o.getD 0xFFFF : Nat) : Int) = timeField o := by cases o <;> rfl

theorem cast_elim (o : Option Warning) : ((o.elim 0 Warning.code : Nat) : Int) = warningField o := by cases o <;> rfl

/-- The fields of a record shown (R146). -/
def recordFields (x : TachoRecord) : List (Nat × Int) :=
  [(1, (16 * x.driver1.code + x.driver2.code : Int)), (1, 16 * x.card1.code + x.card2.code), (2, x.continuous), (2, x.currentBreak),
    (2, x.daily), (2, x.weekly), (2, x.speed), (4, x.odometer), (2, timeField x.localTime), (1, x.warnings.length)] ++
    (List.range 4).map fun k => (1, warningField x.warnings[k]?)

theorem spell_bytes (v : Nat → Int) (l : List Nat) : spell (l.map fun k => (1, v k)) = l.map fun k => BitVec.ofInt 8 (v k) := by
  induction l with
  | nil => rfl
  | cons k l ih => rw [List.map_cons, spell_byte, ih, List.map_cons]

theorem timer_isRunning (t : Timer) : t.isRunning = (t != .stopped) := by cases t <;> rfl

/-- Settles O56: by the refusals in their order, the elements read as one block of bytes, and each read element field by field. -/
theorem readRequests : Obligations.ReadRequests := by
  unfold Obligations.ReadRequests
  refine ⟨fun p region index count f s hf => ?request, fun p i r s hr => ?directory, by decide, by decide, fun p i s => ?signals,
    fun p i s => ?telltales, fun p i s => ?chimes, fun p i s => ?gauges, fun p i s => ?tacho, fun p s => ?distance, fun p q s => ?links,
    fun p i s => ?cycle, fun p i s => ?config, fun c => ?image, flagsOf_testBit, ?codes⟩
  case request =>
    intro x refusal
    refine ⟨fun hr => (runRead_noRegion hr).trans (pushResult_refusal hf rfl), fun r hr => ⟨fun hp => (runRead_rights hr hp).trans
      (pushResult_refusal hf rfl), fun hp h => (runRead_range hr hp (Bool.eq_false_iff.2 fun k => ?_)).trans (pushResult_refusal hf rfl),
      fun hp hi one top => (runRead_answered hr hp (legalSpan_iff.2 ⟨hi, one, top⟩)).trans ?_⟩⟩
    · have span := legalSpan_iff.1 k
      omega
    · exact readElements_eq hf rfl rfl _ rfl
  case directory =>
    show directoryBytes p i = _
    unfold directoryBytes
    rw [hr]
    simp only [spell_byte, spell_nil, byte_ofInt, flag_flagBit, Nat.cast_add]
  case signals =>
    intro e own slot
    have slots (x : Slot) : slotBytes x = spell (slot x) := by
      simp only [slot, slotBytes, spell_byte, spell_word, spell_nil, byte_ofInt, word_signed, flag_flagBit, Nat.cast_add, Nat.cast_mul,
        Nat.cast_ofNat, List.append_assoc, List.cons_append, List.nil_append]
    constructor
    · show (finOf 64 (i : Nat)).elim [] (fun e => signalBytes p s.signals[e]) = _
      rw [finOf_val]
      simp only [Option.elim_some, signalBytes, Entry.slotOf, spell_word, spell_byte, spell_nil, byte_ofInt, flag_flagBit, Nat.cast_add, Nat.cast_ite,
        Nat.cast_one, Nat.cast_ofNat, Nat.cast_zero, own, e]
    · show (finOf 64 (i : Nat)).elim [] (fun e => signalDetailBytes s.signals[e]) = _
      rw [finOf_val]
      show byte e.desc.primary.code :: slotBytes e.primary ++ (if e.desc.alternate = .none then _ else byte e.desc.alternate.code :: slotBytes e.alternate) = _
      rw [slots, slots, List.cons_append, spell_append, ← List.cons_append, spell_byte]
      congr 1
      split
      · rfl
      · rw [spell_byte]
        rfl
  case telltales =>
    intro x b claimBit settled
    show (finOf 40 (i : Nat)).elim [] (fun t => telltaleReadBytes s p t) = _
    rw [finOf_val]
    have claims : byte (activeClaimBits s i) = BitVec.ofInt 8 (claimBit 0 + claimBit 1 + claimBit 2 + claimBit 3 +
        flag (settled ((i == 0 && b.stop) || (i == 1 && b.check))) 4 + flag (settled (i == 0 && b.failed)) 5 +
        flag (settled ((i == 0 && b.fallback0) || (i == 1 && b.fallback1))) 6) := by
      unfold activeClaimBits
      cases h : s.lamps.settings with
      | none => simp [claimBit, settled, h, flag, byte_ofInt]
      | some st => simp only [claimBit, settled, h, Option.any_some, Option.isSome_some, Bool.true_and, flag_flagBit, byte_ofInt, Nat.cast_add, x, b]; rfl
    have pattern : ownPattern s p i =
        BitVec.ofInt 8 (if ∃ st, s.lamps.settings = some st ∧ .port p ∈ st.telltales[i].claims.toList then (x.patterns.of p).code else 0xFF) := by
      have listed : s.lamps.settings.any (fun st => st.telltales[i].claims.contains (.port p)) = true ↔
          ∃ st, s.lamps.settings = some st ∧ .port p ∈ st.telltales[i].claims.toList := by cases s.lamps.settings <;> simp
      unfold ownPattern
      by_cases h : s.lamps.settings.any (fun st => st.telltales[i].claims.contains (.port p)) = true
      · rw [if_pos h, if_pos (listed.1 h)]
        rfl
      · rw [if_neg h, if_neg fun k => h (listed.2 k)]
        rfl
    rw [byte_ofInt] at claims
    simp only [Option.elim_some, telltaleReadBytes, spell_byte, spell_nil, claims, pattern, byte_ofInt, flag_flagBit, Nat.cast_add, Nat.cast_mul,
      Nat.cast_ofNat, x]
  case chimes =>
    intro x
    show (finOf 8 (i : Nat)).elim [] (fun t => chimeReadBytes s p t) = _
    rw [finOf_val]
    have claim : ownChimeClaim s p i =
        BitVec.ofInt 8 (if ∃ st, s.lamps.settings = some st ∧ .port p ∈ st.chimes[i].claims.toList then flag (x.portClaims.of p) 0 else 0xFF) := by
      have listed : s.lamps.settings.any (fun st => st.chimes[i].claims.contains (.port p)) = true ↔
          ∃ st, s.lamps.settings = some st ∧ .port p ∈ st.chimes[i].claims.toList := by cases s.lamps.settings <;> simp
      unfold ownChimeClaim
      by_cases h : s.lamps.settings.any (fun st => st.chimes[i].claims.contains (.port p)) = true
      · rw [if_pos h, if_pos (listed.1 h), flag_flagBit]
        rfl
      · rw [if_neg h, if_neg fun k => h (listed.2 k)]
        rfl
    simp only [Option.elim_some, chimeReadBytes, spell_byte, spell_nil, claim, byte_ofInt, x]
  case gauges =>
    intro g remembered
    have shown : byte (g.remembered.elim 0xFF GaugeState.code) = BitVec.ofInt 8 remembered := by
      cases h : g.remembered <;> simp [remembered, h, byte_ofInt]
    have element : readElement .gauges p i s = gaugeReadBytes g := by
      show (finOf 6 (i : Nat)).elim [] (fun e => gaugeReadBytes s.gauges[e]) = _
      rw [finOf_val]
      rfl
    rw [element, gaugeReadBytes, shown]
    refine ⟨fun h => ?_, fun h => ?_⟩
    · simp [h, spell_byte, spell_word, spell_nil, byte_ofInt]
    · simp [h, spell_byte, spell_nil, byte_ofInt, spell_zeros _ 2, GaugeState.code]
      rfl
  case tacho =>
    intro r shown figures
    refine ⟨fun x hx => ?_, fun h => ?_⟩
    · show tachoBytes r = spell ((1, (r.state.code : Int)) :: recordFields x ++ figures)
      simp only [tachoBytes, hx, r, Option.getD_some, recordFields, figures, spell_append, spell_bytes, spell_byte, spell_word, spell_long, spell_nil,
        byte_ofInt, word_signed, List.cons_append, List.nil_append, List.append_assoc, List.append_nil, Nat.cast_add, Nat.cast_mul, Nat.cast_ofNat,
        cast_getD, cast_elim]
    · show tachoBytes r = _
      simp only [tachoBytes, h, Option.getD_none, figures, spell_byte, spell_word, spell_nil, spell_zeros _ 4,
        byte_ofInt, word_signed, List.cons_append, List.nil_append, List.append_assoc, List.append_nil, TachoRecord.none]
      rfl
  case distance =>
    intro d
    have rest : spell [(2, 0)] = [0, 0] := rfl
    refine ⟨?_, ?_, ?_, ?_⟩
    all_goals simp only [readElement, distanceBytes, spell_long, rest, spell_byte, spell_nil, byte_ofInt, flag_flagBit, d]
  case links =>
    intro x n
    have number : portOfNumber n = q ∧ n = Port.number q := by cases q <;> exact ⟨rfl, rfl⟩
    show linkBytes (portOfNumber n) (s.port (portOfNumber n)) = _
    rw [number.1, number.2]
    have held : byte (flagBit ((s.port q).exec.any (·.hold.isSome)) 0) =
        BitVec.ofInt 8 (if ∃ f, (s.port q).exec = some f ∧ f.hold ≠ none then 1 else 0) := by
      cases h : (s.port q).exec with
      | none => simp [flagBit, byte_ofInt]
      | some f => cases k : f.hold <;> simp [flagBit, byte_ofInt, k]
    rw [byte_ofInt] at held
    simp only [linkBytes, spell_byte, spell_word, spell_nil, byte_ofInt, word_signed, List.cons_append, List.nil_append, List.append_assoc,
      List.append_nil, held, x]
  case cycle =>
    intro c
    simp only [readElement, cycleBytes, spell_byte, spell_word, spell_nil, byte_ofInt, word_signed, flag_flagBit, Nat.cast_add, c, List.cons_append,
      List.nil_append, timer_isRunning]
  case config =>
    refine ⟨fun h => ?_, fun c h => ?_⟩
    · show configBlock s i = _
      rw [configBlock, State.config, h]
      rfl
    · show configBlock s i = _
      rw [configBlock, State.config, h]
      rfl
  case image =>
    intro claimFields descriptor telltale chime pulse scanSlot senderCurve gauge
    have claims (ofChime : Bool) : claimBytes ofChime = fun x => spell (claimFields ofChime x) := by
      funext x
      cases x <;> simp only [claimBytes, claimFields, spell_byte, spell_word, spell_nil, spell_zeros _ 7, spell_zeros _ 5, byte_ofInt, word_signed,
        Nat.cast_add, Nat.cast_ite, Nat.cast_zero, Nat.cast_ofNat, List.cons_append, List.nil_append, List.append_nil]
    have descriptors : descriptorBytes = descriptor := by
      funext d
      have lost : lostByte d.lostMs :: [] = if d.lostMs % 100 = 0 then spell [(1, (d.lostMs / 100 : Nat))] else [Config.lostTimeReadback d.lostMs] := by
        unfold lostByte
        split
        · simp only [spell_byte, spell_nil, byte_ofInt]
        · rfl
      simp only [descriptor]
      rw [← lost]
      cases hp : d.partner <;> simp only [descriptorBytes, hp, Option.elim_none, Option.elim_some, spell_byte, spell_word, spell_nil, byte_ofInt,
        word_signed, Nat.cast_add, Nat.cast_mul, Nat.cast_ofNat, List.cons_append, List.nil_append, List.append_assoc]
      rfl
    have telltales : telltaleBytes = telltale := by
      funext d
      simp only [telltaleBytes, claims, telltale, spell_append, spell_flatMap, spell_byte, spell_nil, byte_ofInt, flag_flagBit, Nat.cast_add]
    have chimes : chimeBytes = chime := by
      funext d
      simp only [chimeBytes, claims, chime, spell_append, spell_flatMap, spell_byte, spell_word, spell_nil, spell_zeros _ 12, byte_ofInt, word_signed,
        List.append_assoc, List.append_nil]
    have pulses : pulseBytes = pulse := by
      funext d
      simp only [pulseBytes, pulse, spell_byte, spell_word, spell_nil, spell_zeros _ 7, byte_ofInt, word_signed, List.cons_append, List.nil_append,
        List.append_assoc, List.append_nil]
    have slots : scanSlotBytes = scanSlot := by
      funext d
      simp only [scanSlotBytes, scanSlot, spell_byte, spell_word, spell_nil, byte_ofInt, word_signed, flag_flagBit, Nat.cast_add, Nat.cast_ite,
        Nat.cast_zero, Nat.cast_one, Nat.cast_ofNat, List.cons_append, List.nil_append, List.append_assoc]
      rfl
    have curves : senderCurveBytes = senderCurve := by
      funext ps
      simp only [senderCurveBytes, senderCurve, spell_word, spell_nil, word_signed, List.append_nil]
      rfl
    have gauges : gaugeBytes = gauge := by
      funext d
      simp only [gaugeBytes, gauge, spell_byte, spell_word, spell_nil, spell_zeros _ 12, byte_ofInt, word_signed, Nat.cast_ite, Nat.cast_zero, Nat.cast_one,
        List.cons_append, List.nil_append, List.append_assoc, List.append_nil]
      rfl
    simp only [Configuration.bytes, Configuration.body, scanListBytes, switchBytes, timingBytes, readoutBytes, descriptors, telltales, chimes, pulses,
      slots, curves, gauges, spell_byte, spell_word, spell_nil, spell_bytes, spell_zeros _ 3, spell_zeros _ 7, spell_zeros _ 9, spell_zeros _ 15, byte_ofInt,
      word_signed, List.cons_append, List.nil_append, List.append_assoc, List.append_nil]
    rfl
  case codes => decide

end Sys2Proof.Machine
end

section
/-! Proofs: what keeps a gauge's needle within its travel, operation by operation (R88 to R104). -/

namespace Sys2Proof.Machine

/-! ## One gauge -/

/-- A position within the travel of a gauge. -/
def GaugeSettings.within (gs : GaugeSettings) (p : Int) : Prop := 0 ≤ p ∧ p ≤ gs.desc.fullScale

/-- What `GaugesStand` says of one gauge in a cycle state. -/
structure Gauge.Stands (c : CycleState) (g : Gauge) : Prop where
  within : ∀ gs, g.settings = some gs → g.unplaced = false → gs.within g.position ∧ gs.within g.target
  travel : ∀ gs, g.settings = some gs → gs.desc.park ≤ gs.desc.fullScale
  parked : c = .parked → g.state = .unhomed ∨ g.state = .parked
  load : c = .load → g.state = .unhomed

theorem gaugesStand_iff (s : State) :
    GaugesStand s ↔
      (∀ i : Fin 6, s.gauges[i].Stands s.cycle.state) ∧
        (s.store.state = .committing → s.cycle.state = .parked ∧ s.cycle.commitInFlight = true) :=
  ⟨fun h => ⟨fun i => ⟨h.within i, h.travel i, fun c => h.parked c i, fun c => h.load c i⟩, h.commit⟩,
    fun h => ⟨fun i => (h.1 i).within, fun i => (h.1 i).travel, fun c i => (h.1 i).parked c, fun c i => (h.1 i).load c, h.2⟩⟩

section
variable {c : CycleState} {g g' : Gauge} {gs : GaugeSettings} {v : View}

theorem Gauge.unplaced_iff : g.unplaced = true ↔ g.state = .unhomed ∨ g.state = .homing ∨ (g.state = .held ∧ g.remembered = some .homing) := by
  simp [Gauge.unplaced, or_assoc]

/-- A gauge that keeps its settings, and its state where the cycle state holds it, stands where its position and target do. -/
theorem Gauge.Stands.of (h : g.Stands c) (settings : g'.settings = g.settings)
    (within : ∀ gs, g.settings = some gs → g'.unplaced = false → gs.within g'.position ∧ gs.within g'.target)
    (rest : c = .parked ∨ c = .load → g.state = .unhomed ∨ g.state = .parked → g'.state = g.state) : g'.Stands c where
  within gs hs := within gs (settings ▸ hs)
  travel gs hs := h.travel gs (settings ▸ hs)
  parked hc := by rw [rest (.inl hc) (h.parked hc)]; exact h.parked hc
  load hc := by rw [rest (.inr hc) (.inl (h.load hc))]; exact h.load hc

theorem Gauge.not_unplaced (h : g.state ≠ .unhomed) (h' : g.state ≠ .homing) (h'' : g.state ≠ .held) : g.unplaced = false := by
  rw [Bool.eq_false_iff, ne_eq, Gauge.unplaced_iff]
  tauto

theorem GaugeSettings.within_zero (gs : GaugeSettings) : gs.within 0 := ⟨le_rfl, Int.natCast_nonneg _⟩

theorem GaugeSettings.within_fullScale (gs : GaugeSettings) : gs.within gs.desc.fullScale := ⟨Int.natCast_nonneg _, le_rfl⟩

theorem GaugeSettings.within_park (h : gs.desc.park ≤ gs.desc.fullScale) : gs.within gs.desc.park := ⟨Int.natCast_nonneg _, Int.ofNat_le.2 h⟩

theorem GaugeSettings.within_curvePosition (gs : GaugeSettings) (v : Int) : gs.within (gs.curvePosition v) := by
  unfold GaugeSettings.curvePosition clampInt GaugeSettings.within
  split_ifs <;> omega

theorem within_trackingDecision (h : gs.desc.park ≤ gs.desc.fullScale) (v : View) : gs.within (trackingDecision gs v).2 := by
  unfold trackingDecision
  split
  · exact gs.within_curvePosition _
  · exact GaugeSettings.within_park h

/-- Position and target lie within the travel. -/
def Gauge.Placed (gs : GaugeSettings) (g : Gauge) : Prop := gs.within g.position ∧ gs.within g.target

theorem Gauge.placed_parkIfAtRest : g.parkIfAtRest.Placed gs ↔ g.Placed gs := by
  unfold Gauge.parkIfAtRest
  split <;> exact Iff.rfl

theorem Gauge.placed_enterParking (h : gs.desc.park ≤ gs.desc.fullScale) (hp : gs.within g.position) : (g.enterParking gs).Placed gs :=
  Gauge.placed_parkIfAtRest.2 ⟨hp, GaugeSettings.within_park h⟩

theorem Gauge.placed_takeDecision (h : gs.desc.park ≤ gs.desc.fullScale) (hp : gs.within g.position) (v : View) : (g.takeDecision gs v).Placed gs :=
  Gauge.placed_parkIfAtRest.2 ⟨hp, within_trackingDecision h v⟩

theorem Gauge.placed_endLeg (h : gs.desc.park ≤ gs.desc.fullScale) (hp : gs.within g.position) (v : View) : (g.endLeg gs v).Placed gs := by
  unfold Gauge.endLeg
  split
  · exact ⟨hp, gs.within_zero⟩
  · exact Gauge.placed_takeDecision h hp v

theorem Gauge.placed_arrive (h : gs.desc.park ≤ gs.desc.fullScale) (hp : g.Placed gs) (v : View) : (g.arrive gs v).Placed gs := by
  unfold Gauge.arrive
  split
  · exact hp
  · split
    · exact hp
    · exact Gauge.placed_endLeg h hp.1 v
    all_goals exact hp

theorem Gauge.placed_enterSweep (h : gs.desc.park ≤ gs.desc.fullScale) (hp : gs.within g.position) (v : View) : (g.enterSweep gs v).Placed gs :=
  Gauge.placed_arrive h (g := { g with state := .sweep, leg := .out, target := gs.desc.fullScale }) ⟨hp, gs.within_fullScale⟩ v

theorem Gauge.placed_effectiveUpdate (h : gs.desc.park ≤ gs.desc.fullScale) (hs : g.settings = some gs) (hp : g.Placed gs) (c : CycleState) (v : View) :
    (g.effectiveUpdate c v).Placed gs := by
  unfold Gauge.effectiveUpdate
  rw [hs]
  dsimp only
  split
  · split
    · unfold Gauge.retarget
      dsimp only
      split
      · exact hp
      · exact ⟨hp.1, gs.within_curvePosition _⟩
    · exact Gauge.placed_enterParking h hp.1
  · split
    · exact ⟨hp.1, gs.within_curvePosition _⟩
    · exact hp
  · split
    · exact ⟨hp.1, gs.within_curvePosition _⟩
    · exact hp
  all_goals exact hp

theorem Gauge.placed_advance (hp : g.Placed gs) (w : Int) : (g.advance gs.desc.fullScale w).Placed gs := by
  unfold Gauge.advance
  dsimp only
  split
  · exact ⟨gs.within_zero, hp.2⟩
  · split
    · exact ⟨gs.within_fullScale, hp.2⟩
    · exact ⟨⟨by dsimp only; omega, by dsimp only; omega⟩, hp.2⟩

theorem Gauge.placed_settleOnTarget (hp : g.Placed gs) (a : Nat) : (g.settleOnTarget a).Placed gs := by
  unfold Gauge.settleOnTarget
  split
  · exact ⟨hp.2, hp.2⟩
  · exact hp

theorem Gauge.placed_motionStep (hp : g.Placed gs) : (g.motionStep gs).Placed gs := Gauge.placed_settleOnTarget (Gauge.placed_advance hp _) _

end

/-! ## Each operation on a gauge -/

section
variable {c : CycleState} {g : Gauge} {v : View}

theorem Gauge.Stands.placed {gs : GaugeSettings} (h : g.Stands c) (hs : g.settings = some gs) (hu : g.unplaced = false) : g.Placed gs := h.within gs hs hu

/-- In the states that an update speaks of, and in none of them does it leave a homing run. -/
theorem Gauge.Stands.effectiveUpdate (h : g.Stands c) (v : View) : (g.effectiveUpdate c v).Stands c := by
  refine h.of (Gauge.effectiveUpdate_settings ..) (fun gs hs hu => ?_) fun hc hg => ?_
  · by_cases k : g.unplaced = false
    · exact Gauge.placed_effectiveUpdate (h.travel gs hs) hs (h.placed hs k) c v
    · have same : g.effectiveUpdate c v = g := by
        rw [Bool.not_eq_false, Gauge.unplaced_iff] at k
        unfold Gauge.effectiveUpdate
        rw [hs]
        rcases k with k | k | ⟨k, -⟩ <;> rw [k]
      rw [same] at hu
      exact absurd hu k
  · have off : c.isOn = false := by rcases hc with rfl | rfl <;> rfl
    unfold Gauge.effectiveUpdate
    split
    · rfl
    · rcases hg with k | k <;> simp [k, off]

theorem Gauge.motionStep_state (gs : GaugeSettings) (g : Gauge) : (g.motionStep gs).state = g.state := by
  unfold Gauge.motionStep Gauge.settleOnTarget Gauge.advance
  dsimp only
  split_ifs <;> rfl

theorem Gauge.Stands.motionExpiry (h : g.Stands c) (v : View) : (g.motionExpiry v).Stands c := by
  cases hs : g.settings with
  | none =>
    have same : g.motionExpiry v = g := by rw [Gauge.motionExpiry, hs]
    rwa [same]
  | some gs =>
    by_cases moves : (g.state.moves && !g.atRest) = true
    · have stepped : g.motionExpiry v = (g.motionStep gs).arrive gs v := by rw [Gauge.motionExpiry, hs]; exact if_pos moves
      have placed : g.unplaced = false := Gauge.not_unplaced (fun k => by simp [k, GaugeState.moves] at moves)
        (fun k => by simp [k, GaugeState.moves] at moves) (fun k => by simp [k, GaugeState.moves] at moves)
      rw [stepped]
      refine h.of ((Gauge.arrive_settings ..).trans (Gauge.motionStep_settings ..)) (fun gs' hs' _ => ?_) fun _ hg => ?_
      · obtain rfl : gs = gs' := Option.some_inj.1 (hs.symm.trans hs')
        exact Gauge.placed_arrive (h.travel gs hs) (Gauge.placed_motionStep (h.placed hs placed)) v
      · have still : (g.motionStep gs).state = .unhomed ∨ (g.motionStep gs).state = .parked := by rwa [Gauge.motionStep_state]
        have away : (g.motionStep gs).state ≠ .parking ∧ (g.motionStep gs).state ≠ .sweep := by rcases still with k | k <;> rw [k] <;> decide
        rw [Gauge.arrive_stays gs v _ away.1 away.2, Gauge.motionStep_state]
    · have same : g.motionExpiry v = g := by rw [Gauge.motionExpiry, hs]; exact if_neg moves
      rwa [same]

theorem Gauge.Stands.homingExpiry (h : g.Stands c) (v : View) : (g.homingExpiry c v).Stands c := by
  cases hs : g.settings with
  | none =>
    have same : g.homingExpiry c v = g := by rw [Gauge.homingExpiry, hs]
    rwa [same]
  | some gs =>
    by_cases hh : g.state = .homing
    · refine h.of (Gauge.homingExpiry_settings ..) (fun gs' hs' hu => ?_) fun _ hg => absurd hg (by rw [hh]; decide)
      obtain rfl : gs = gs' := Option.some_inj.1 (hs.symm.trans hs')
      by_cases ends : g.homingCount ≤ gs.desc.homingSpeed
      · rw [Gauge.homingExpiry_ends gs v c g hs hh ends]
        have travel := h.travel gs hs
        split
        · split
          · exact Gauge.placed_enterSweep travel gs.within_zero v
          · exact Gauge.placed_takeDecision travel gs.within_zero v
        · exact Gauge.placed_enterParking travel gs.within_zero
      · rw [Gauge.homingExpiry_eq gs v c g hs hh, if_neg ends] at hu
        exact absurd (hu.symm.trans (Gauge.unplaced_iff.2 (.inr (.inl hh)))) Bool.false_ne_true
    · have same : g.homingExpiry c v = g := by rw [Gauge.homingExpiry, hs]; exact if_neg hh
      rwa [same]

/-- A gauge held in its place. -/
theorem Gauge.Stands.hold (h : g.Stands c) {c' : CycleState} (hc : c = .parked → c' = .parked) : (g.hold c').Stands c := by
  by_cases held : g.driven c' = true ∧ g.state ≠ .held
  · have driven := (Gauge.driven_iff c' g).1 held.1
    rw [Gauge.hold_eq c' g held.1 held.2]
    refine h.of rfl (fun gs hs hu => h.within gs hs ?_) fun rest hg => ?_
    · refine Gauge.not_unplaced driven.1 (fun k => ?_) held.2
      exact absurd (Gauge.unplaced_iff.2 (.inr (.inr ⟨rfl, congrArg some k⟩))) (by rw [hu]; decide)
    · rcases rest with k | k
      · rcases h.parked k with u | u
        · exact absurd u driven.1
        · exact absurd (hc k) (driven.2 u)
      · exact absurd (h.load k) driven.1
  · rwa [Gauge.hold_stays c' g (by by_contra k; rw [not_or, Bool.not_eq_false] at k; exact held k)]

theorem Gauge.Stands.resume (h : g.Stands c) (c' : CycleState) (v : View) : (g.resume c' v).Stands c := by
  by_cases held : g.state = .held
  · refine h.of (Gauge.resume_settings ..) (fun gs hs hu => ?_) fun _ hg => absurd hg (by rw [held]; decide)
    have travel := h.travel gs hs
    have placed (k : g.remembered ≠ some .homing) : g.Placed gs := h.placed hs
      (Bool.eq_false_iff.2 fun u => by
        rcases Gauge.unplaced_iff.1 u with u | u | u
        · simp [held] at u
        · simp [held] at u
        · exact k u.2)
    have back (m : GaugeState) (k : g.remembered ≠ some .homing) :
        (Gauge.parkIfAtRest { g with state := m, remembered := none, velocity := 0 }).Placed gs := Gauge.placed_parkIfAtRest.2 (placed k)
    cases hr : g.remembered with
    | none => 
      have same : g.resume c' v = g := by simp [Gauge.resume, hs, held, hr]
      rw [same]
      exact placed (by rw [hr]; decide)
    | some m =>
      by_cases hm : m = .homing
      · subst hm
        rw [Gauge.resume_homing c' v hs held hr] at hu
        exact absurd (Gauge.unplaced_iff.2 (.inr (.inl rfl))) (by rw [hu]; decide)
      · have other : g.remembered ≠ some .homing := by rw [hr]; exact fun k => hm (Option.some_inj.1 k)
        cases m with
        | homing => exact absurd rfl hm
        | unhomed | held =>
          have same : g.resume c' v = g := by simp [Gauge.resume, hs, held, hr]
          rw [same]
          exact placed other
        | sweep =>
          rw [Gauge.resume_sweep c' v hs held hr]
          exact Gauge.placed_arrive travel (g := { g with state := .sweep, remembered := none, velocity := 0 }) (placed other) v
        | tracking | parking | parked =>
          rw [Gauge.resume_tracking c' v hs held hr (by decide)]
          split
          · exact Gauge.placed_effectiveUpdate (g := { g with state := _, remembered := none, velocity := 0 }) travel hs (placed other) c' v
          · exact placed other
  · rwa [Gauge.resume_stays c' v g held]

theorem Gauge.Stands.ignitionOff (h : g.Stands c) : g.ignitionOff.Stands c := by
  cases hs : g.settings with
  | none =>
    have same : g.ignitionOff = g := by rw [Gauge.ignitionOff, hs]
    rwa [same]
  | some gs =>
    have travel := h.travel gs hs
    by_cases stays : g.state = .homing ∨ g.state = .unhomed ∨ g.state = .parked
    · rwa [Gauge.ignitionOff_stays stays]
    · refine h.of (Gauge.ignitionOff_settings ..) (fun gs' hs' hu => ?_) fun _ hg => absurd (Or.inr hg) stays
      obtain rfl : gs = gs' := Option.some_inj.1 (hs.symm.trans hs')
      by_cases held : g.state = .held
      · rw [Gauge.ignitionOff_held hs held] at hu ⊢
        by_cases hr : g.remembered = some .homing
        · rw [if_pos hr] at hu
          exact absurd (Gauge.unplaced_iff.2 (.inr (.inr ⟨held, hr⟩))) (by rw [hu]; decide)
        · rw [if_neg hr]
          have placed := h.placed hs (Bool.eq_false_iff.2 fun u => by
            rcases Gauge.unplaced_iff.1 u with u | u | u
            · simp [held] at u
            · simp [held] at u
            · exact hr u.2)
          exact ⟨placed.1, GaugeSettings.within_park travel⟩
      · have placed := h.placed hs (Gauge.not_unplaced (fun k => stays (.inr (.inl k))) (fun k => stays (.inl k)) held)
        have moves : g.state = .sweep ∨ g.state = .tracking ∨ g.state = .parking := by
          cases k : g.state <;> simp_all
        rw [Gauge.ignitionOff_parks hs moves]
        exact Gauge.placed_enterParking travel placed.1

theorem Gauge.Stands.startingEntry (h : g.Stands c) (hc : c ≠ .parked) (hl : c ≠ .load) (v : View) : (g.startingEntry v).Stands c := by
  cases hs : g.settings with
  | none =>
    have same : g.startingEntry v = g := by rw [Gauge.startingEntry, hs]
    rwa [same]
  | some gs =>
    have travel := h.travel gs hs
    refine h.of (Gauge.startingEntry_settings ..) (fun gs' hs' hu => ?_) fun k _ => absurd k (by tauto)
    obtain rfl : gs = gs' := Option.some_inj.1 (hs.symm.trans hs')
    cases state : g.state with
    | unhomed =>
      have homing : g.startingEntry v = g.enterHoming gs := by simp only [Gauge.startingEntry, hs, state]
      rw [homing] at hu
      exact absurd (Gauge.unplaced_iff.2 (.inr (.inl rfl))) (by rw [hu]; decide)
    | homing | sweep | tracking =>
      have same := Gauge.startingEntry_stays (g := g) v (by rw [state]; decide)
      rw [same] at hu ⊢
      exact h.placed hs hu
    | parking | parked =>
      have placed := h.placed hs (Gauge.not_unplaced (by rw [state]; decide) (by rw [state]; decide) (by rw [state]; decide))
      rw [Gauge.startingEntry_moves v hs (by rw [state]; decide)]
      split
      · exact Gauge.placed_enterSweep travel placed.1 v
      · exact Gauge.placed_takeDecision travel placed.1 v
    | held =>
      by_cases hr : g.remembered = some .parked ∨ g.remembered = some .parking
      · have placed := h.placed hs (Bool.eq_false_iff.2 fun u => by
          rcases Gauge.unplaced_iff.1 u with u | u | u
          · simp [state] at u
          · simp [state] at u
          · rcases hr with k | k <;> simp [k] at u)
        rw [Gauge.startingEntry_held v hs state hr]
        split
        · exact ⟨placed.1, gs.within_fullScale⟩
        · exact ⟨placed.1, within_trackingDecision travel v⟩
      · rw [not_or] at hr
        have same := Gauge.startingEntry_keeps v hs state hr.1 hr.2
        rw [same] at hu ⊢
        exact h.placed hs hu

theorem Gauge.Stands.start (h : g.Stands c) (hc : c ≠ .parked) (hl : c ≠ .load) (supply : Supply) (v : View) : (g.start supply v).Stands c := by
  unfold Gauge.start
  dsimp only
  split
  · exact (h.startingEntry hc hl v).hold fun k => absurd k hc
  · exact h.startingEntry hc hl v

end

end Sys2Proof.Machine
end

section
/-! Proofs: every change of a gauge or a telltale is reported, and every gauge stands, operation by operation (R88 to R104, R90, R127). -/

namespace Sys2Proof.Machine

/-! ## What every operation keeps -/

theorem GaugeDiffers.between {a c : Gauge} (b : Gauge) (h : GaugeDiffers a c) : GaugeDiffers a b ∨ GaugeDiffers b c := by
  by_contra k
  simp only [not_or, GaugeDiffers, ne_eq, not_not, not_and_not_right] at k h
  obtain ⟨⟨s, r, t, rest⟩, s', r', t', rest'⟩ := k
  rcases h with h | h | h | ⟨hc, ha⟩
  · exact h (s'.trans s)
  · exact h (r'.trans r)
  · exact h (t'.trans t)
  · exact ha (rest (rest' hc))

theorem GaugeDiffers.irrefl (a : Gauge) : ¬ GaugeDiffers a a := by simp [GaugeDiffers]

theorem GaugesStand.congr {s t : State} (h : GaugesStand s) (hg : t.gauges = s.gauges) (hc : t.cycle.state = s.cycle.state)
    (hf : t.cycle.commitInFlight = s.cycle.commitInFlight) (hs : t.store.state = s.store.state) : GaugesStand t := by
  rw [gaugesStand_iff] at h ⊢
  rwa [hg, hc, hf, hs]

/-- From `s` to `t` the gauges go on standing, and every gauge and every telltale that has changed as its rule asks is reported. -/
structure Reported (s t : State) : Prop where
  stand : GaugesStand s → GaugesStand t
  gauges : ∀ k : Fin 6, GaugeDiffers s.gauges[k] t.gauges[k] → noticed (gaugeItem k) t
  lamps : ShownNoticed s t

/-- The same, and what was reported stays so. -/
structure Announces (s t : State) : Prop extends Reported s t where
  notices : ∀ i, noticed i s → noticed i t

/-- From `s` to `t` the gauges, the telltales as shown and what the invariant of the gauges speaks of stand as before. -/
structure Undisturbed (s t : State) : Prop where
  gauges : t.gauges = s.gauges
  state : t.cycle.state = s.cycle.state
  commit : t.cycle.commitInFlight = s.cycle.commitInFlight
  store : t.store.state = s.store.state
  lamps : SameShown s t

section
variable {s t u : State}

theorem Undisturbed.refl (s : State) : Undisturbed s s := ⟨rfl, rfl, rfl, rfl, .refl s⟩

theorem Undisturbed.trans (a : Undisturbed s t) (b : Undisturbed t u) : Undisturbed s u :=
  ⟨b.gauges.trans a.gauges, b.state.trans a.state, b.commit.trans a.commit, b.store.trans a.store, a.lamps.trans b.lamps⟩

theorem Undisturbed.reported (h : Undisturbed s t) : Reported s t where
  stand stands := stands.congr h.gauges h.state h.commit h.store
  gauges _ d := absurd (h.gauges ▸ d) (GaugeDiffers.irrefl _)
  lamps := .of_same h.lamps

theorem Undisturbed.announces (h : Undisturbed s t) (n : ∀ i, noticed i s → noticed i t) : Announces s t := ⟨h.reported, n⟩

theorem Undisturbed.took (h : Undisturbed s t) (p : PortsTook s t) : Announces s t := h.announces fun _ n => n.took p

/-- An operation that leaves all of these blocks. -/
theorem Undisturbed.of_eq (hg : t.gauges = s.gauges) (hc : t.cycle = s.cycle) (hs : t.store = s.store) (hl : t.lamps = s.lamps) : Undisturbed s t :=
  ⟨hg, by rw [hc], by rw [hc], by rw [hs], .of_lamps hl⟩

theorem Announces.refl (s : State) : Announces s s := (Undisturbed.refl s).took (.refl s)

theorem Reported.trans (a : Reported s t) (b : Announces t u) : Reported s u where
  stand := b.stand ∘ a.stand
  gauges k d := (d.between t.gauges[k]).elim (fun h => b.notices _ (a.gauges k h)) (b.gauges k)
  lamps i d := (d.between t.lamps.telltales[i]).elim (fun h => b.notices _ (a.lamps i h)) (b.lamps i)

theorem Announces.trans (a : Announces s t) (b : Announces t u) : Announces s u := ⟨a.toReported.trans b, fun i n => b.notices i (a.notices i n)⟩

theorem Undisturbed.before (a : Undisturbed s t) (b : Reported t u) : Reported s u where
  stand := b.stand ∘ a.reported.stand
  gauges k d := b.gauges k (by rwa [a.gauges])
  lamps i d := b.lamps i (a.lamps.left d)

theorem announces_ite {p : Prop} [Decidable p] (ht : p → Announces s t) (hu : ¬p → Announces s u) : Announces s (if p then t else u) := by
  split
  · exact ht ‹_›
  · exact hu ‹_›

theorem announces_foldl {α : Type} (f : State → α → State) (h : ∀ s i, Announces s (f s i)) (l : List α) (s : State) :
    Announces s (l.foldl f s) := foldl_rel Announces.refl (fun _ _ _ => .trans) f h l s

theorem announces_forAll {n : Nat} (f : Fin n → State → State) (h : ∀ i s, Announces s (f i s)) (s : State) : Announces s (forAll n f s) :=
  announces_foldl _ (fun s i => h i s) _ s

/-- An operation that changes none of these blocks and no port. -/
theorem Announces.of_eq (hg : t.gauges = s.gauges) (hc : t.cycle = s.cycle) (hs : t.store = s.store) (hl : t.lamps = s.lamps)
    (hp : t.ports = s.ports) : Announces s t := (Undisturbed.of_eq hg hc hs hl).took (.of_ports hp)

end

section
variable (s : State)

theorem announces_setSignals (x : Vector Entry 64) : Announces s (s.setSignals x) := .of_eq rfl rfl rfl rfl rfl
theorem announces_setPulse (x : Vector PulseChannel 4) : Announces s (s.setPulse x) := .of_eq rfl rfl rfl rfl rfl
theorem announces_setDist (x : Distance) : Announces s (s.setDist x) := .of_eq rfl rfl rfl rfl rfl
theorem announces_setConv (x : Converter) : Announces s (s.setConv x) := .of_eq rfl rfl rfl rfl rfl
theorem announces_setSwitches (x : SwitchBank) : Announces s (s.setSwitches x) := .of_eq rfl rfl rfl rfl rfl
theorem announces_setTacho (x : Readout) : Announces s (s.setTacho x) := .of_eq rfl rfl rfl rfl rfl
theorem announces_setCond (c : Condition) (b : Bool) : Announces s (setCond c b s) := .of_eq rfl rfl rfl rfl rfl
theorem announces_setEntry (i : Fin 64) (e : Entry) : Announces s (setEntry i e s) := .of_eq rfl rfl rfl rfl rfl
theorem announces_setChannel (i : Fin 4) (x : PulseChannel) : Announces s (setChannel i x s) := .of_eq rfl rfl rfl rfl rfl
theorem announces_setInput (i : Fin 24) (x : SwitchInput) : Announces s (setInput i x s) := .of_eq rfl rfl rfl rfl rfl
theorem announces_setPass (p : Option Pass) : Announces s (setPass p s) := .of_eq rfl rfl rfl rfl rfl

/-- The cycle controller's other parts. -/
theorem announces_setCycle {x : CycleController} (hs : x.state = s.cycle.state) (hf : x.commitInFlight = s.cycle.commitInFlight) :
    Announces s (s.setCycle x) := Undisturbed.took ⟨rfl, hs, hf, rfl, .of_lamps rfl⟩ (.of_ports rfl)

/-- The telltale unit's other parts. -/
theorem announces_setLamps {x : TelltaleUnit} (h : SameShown s (s.setLamps x)) : Announces s (s.setLamps x) :=
  Undisturbed.took ⟨rfl, rfl, rfl, rfl, h⟩ (.of_ports rfl)

/-- The store's other parts. -/
theorem announces_setStore {x : ConfigStore} (h : x.state = s.store.state) : Announces s (s.setStore x) :=
  Undisturbed.took ⟨rfl, rfl, rfl, h, .of_lamps rfl⟩ (.of_ports rfl)

theorem announces_raiseItem (i : Fin 113) : Announces s (raiseItem i s) :=
  (Undisturbed.of_eq (s := s) (t := raiseItem i s) rfl rfl rfl rfl).took (.raiseItem _ _)

theorem announces_signalEvent (ev : WaitEvent) : Announces s (signalEvent ev s) := 
  (Undisturbed.of_eq (s := s) (t := signalEvent ev s) rfl rfl rfl rfl).took (EventEnd.signalEvent ev s).ports

/-- A port that keeps its watch set and drops nothing that is watched from its list. -/
theorem announces_setPort {p : Port} {x : PortState} (hw : x.watch = (s.port p).watch)
    (hc : ∀ i, x.watch[i] = true → i ∈ (s.port p).changes → i ∈ x.changes) : Announces s (setPort p x s) := by
  refine Undisturbed.announces (.of_eq rfl rfl rfl rfl) fun i n q w => ?_
  rw [port_setPort] at w ⊢
  split at w
  next h =>
    subst h
    rw [if_pos rfl]
    exact hc i w (n _ (hw ▸ w))
  next h =>
    rw [if_neg h]
    exact n q w

theorem GaugesStand.ended {s t : State} (h : GaugesStand s) (e : EventEnd s t) : GaugesStand t :=
  h.congr e.gauges (by rw [e.cycle]) (by rw [e.cycle]) (by rw [e.store])

theorem EventEnd.announces {s t : State} (h : EventEnd s t) (lamps : ShownNoticed s t) : Announces s t where
  stand stands := stands.ended h
  gauges _ d := absurd (h.gauges ▸ d) (GaugeDiffers.irrefl _)
  lamps := lamps
  notices _ n := n.took h.ports

theorem announces_settleUnits : Announces s (settleUnits true s) := (settleUnits_eventEnd true s).announces (settleUnits_shown s).2

theorem announces_finishEvent (before : State) : Announces s (finishEvent before s) :=
  (finishEvent_eventEnd before s).announces (finishEvent_reports before s).2.1

/-! ## Gauges and the cycle state -/

/-- The cycle state after a passage: gauges that stand go on standing (R154, R156). -/
theorem GaugesStand.judgePassage (h : GaugesStand s) : GaugesStand (judgePassage s) := by
  rw [gaugesStand_iff] at h ⊢
  obtain ⟨gauges, commit⟩ := h
  have table := (afterView_judgePassage s).table
  rw [judgePassage_gauges, judgePassage_state, table.commitInFlight, table.store]
  unfold passed
  split
  next hs =>
    split
    · refine ⟨fun i => ⟨(gauges i).within, (gauges i).travel, nofun, nofun⟩, fun k => ?_⟩
      rw [(commit k).1] at hs
      cases hs
    · exact ⟨fun i => hs ▸ gauges i, fun k => hs ▸ commit k⟩
  next hs =>
    split
    next all =>
      exact ⟨fun i => ⟨(gauges i).within, (gauges i).travel, fun _ => .inr (all i), nofun⟩, fun k => ⟨rfl, (commit k).2⟩⟩
    · exact ⟨fun i => hs ▸ gauges i, fun k => hs ▸ commit k⟩
  all_goals next hs => exact ⟨fun i => hs ▸ gauges i, hs ▸ commit⟩

theorem announces_judgePassage : Announces s (judgePassage s) where
  stand := GaugesStand.judgePassage s
  gauges _ d := absurd (judgePassage_gauges s ▸ d) (GaugeDiffers.irrefl _)
  lamps := .of_same (.of_lamps (judgePassage_lamps s))
  notices _ n := n.took (afterView_judgePassage s).table.ports

theorem announces_putGauge_of (i : Fin 6) {g : Gauge} (hg : GaugesStand s → g.Stands s.cycle.state) : Announces s (putGauge i g s) where
  stand h := by
    have put : GaugesStand (s.setGauges (s.gauges.set i g)) := by
      have here := hg h
      rw [gaugesStand_iff] at h ⊢
      refine ⟨fun k => ?_, h.2⟩
      show (s.gauges.set i g)[k].Stands s.cycle.state
      by_cases e : i = k
      · subst e
        simpa using here
      · have other : (s.gauges.set i g)[k] = s.gauges[k] := by
          simp only [Fin.getElem_fin]
          exact Vector.getElem_set_ne _ _ fun j => e (Fin.ext j)
        rw [other]
        exact h.1 k
    unfold putGauge
    dsimp only
    split <;> split
    · exact (announces_raiseItem _ _).stand put
    · exact put
    · exact GaugesStand.judgePassage _ ((announces_raiseItem _ _).stand put)
    · exact GaugesStand.judgePassage _ put
  gauges k d := by
    rw [putGauge_gauges] at d
    by_cases e : i = k
    · subst e
      exact (putGauge_reported i g s).2.1 (by simpa using d)
    · have other : (s.gauges.set i g)[k] = s.gauges[k] := by
        simp only [Fin.getElem_fin]
        exact Vector.getElem_set_ne _ _ fun j => e (Fin.ext j)
      exact absurd (other ▸ d) (GaugeDiffers.irrefl _)
  lamps := .of_same (putGauge_shown i g s)
  notices _ n := n.took (putGauge_reported i g s).1

/-- A gauge replaced by one that stands where it stood. -/
theorem announces_putGauge (i : Fin 6) {g : Gauge} (hg : s.gauges[i].Stands s.cycle.state → g.Stands s.cycle.state) :
    Announces s (putGauge i g s) := announces_putGauge_of s i fun h => hg (((gaugesStand_iff s).1 h).1 i)

theorem announces_forGauges {f : View → Gauge → Gauge} (h : ∀ (c : CycleState) (v : View) (g : Gauge), g.Stands c → (f v g).Stands c) :
    Announces s (forGauges f s) := announces_forAll _ (fun i s => announces_putGauge s i (h _ _ _)) s

/-! ## The signal table -/

theorem announces_judgeLatches (i : Fin 64) : Announces s (judgeLatches i s) := by
  have lamps := judgeLatches_shown i s
  unfold judgeLatches at lamps ⊢
  split
  · exact .refl s
  next st hst =>
    rw [hst] at lamps
    exact announces_setLamps s lamps

theorem announces_handEffective (i : Fin 64) : Announces s (handEffective i s) := by
  unfold handEffective
  refine .trans (announces_forAll _ (fun k s => ?_) s) (announces_judgeLatches _ i)
  exact announces_ite (fun _ => announces_putGauge s k fun h => h.effectiveUpdate _) (fun _ => .refl s)

theorem announces_judgePairs (b : Bool) (i : Fin 64) : Announces s (judgePairs b i s) := by
  refine announces_forAll _ (fun a s => announces_ite (fun _ => ?_) (fun _ => .refl s)) s
  unfold judgePairOf
  split
  · exact .refl s
  · exact announces_setEntry ..

theorem announces_noticeEntry (before : Entry) (i : Fin 64) : Announces s (noticeEntry before i s) :=
  announces_ite (fun _ => (announces_setEntry ..).trans (announces_raiseItem ..)) (fun _ => .refl s)

theorem announces_recompute (before : Entry) (b : Bool) (i : Fin 64) : Announces s (recompute before b i s) := by
  have handed (before : Entry) (i : Fin 64) (s : State) : Announces s (handEffective i (noticeEntry before i s)) :=
    (announces_noticeEntry s before i).trans (announces_handEffective _ i)
  unfold recompute reportPartners
  dsimp only
  refine .trans (announces_setEntry s i s.signals[i].select) (.trans (announces_judgePairs _ b i) (.trans (handed before i _) ?_))
  exact announces_forAll _ (fun a s => announces_ite (fun _ => handed ..) (fun _ => .refl s)) _

theorem announces_deliverTo (src : Source) (u : Update) (i : Fin 64) : Announces s (deliverTo src u i s) := by
  refine announces_ite (fun _ => .refl s) fun _ => announces_ite (fun _ => ?_) fun _ => announces_ite (fun _ => ?_) fun _ => .refl s
  all_goals exact .trans (announces_setEntry s i _) (announces_recompute ..)

theorem announces_deliver (src : Source) (u : Update) : Announces s (deliver src u s) := announces_forAll _ (fun i s => announces_deliverTo s src u i) s

theorem announces_changeSlots (f : Source → Slot → Slot) (i : Fin 64) : Announces s (changeSlots f i s) := by
  unfold changeSlots
  dsimp only
  exact announces_ite (fun _ => announces_setEntry ..) (fun _ => .trans (announces_setEntry s i _) (announces_recompute ..))

theorem announces_ageTable : Announces s (ageTable s) := announces_forAll _ (fun i s => announces_changeSlots s _ i) s

theorem announces_forceLost (p : Port) : Announces s (forceLost p s) := announces_forAll _ (fun i s => announces_changeSlots s _ i) s

theorem announces_reclaimExpiry (i : Fin 64) : Announces s (reclaimExpiry i s) :=
  announces_ite (fun _ => .trans (announces_setEntry s i _) (announces_recompute ..)) (fun _ => .refl s)

theorem announces_disagreementExpiry (i : Fin 64) : Announces s (disagreementExpiry i s) := by
  unfold disagreementExpiry
  dsimp only
  split
  · exact .trans (announces_setEntry s i _) (announces_recompute ..)
  · exact .refl s
  · exact .refl s

/-! ## The ignition cycle -/

theorem announces_putTelltale (i : Fin 40) (t : Telltale) : Announces s (putTelltale i t s) where
  stand h := h.congr (by rw [putTelltale_eq]; split <;> rfl) (by rw [putTelltale_eq]; split <;> rfl) (by rw [putTelltale_eq]; split <;> rfl)
    (by rw [putTelltale_eq]; split <;> rfl)
  gauges k d := by
    have same : (putTelltale i t s).gauges = s.gauges := by rw [putTelltale_eq]; split <;> rfl
    exact absurd (same ▸ d) (GaugeDiffers.irrefl _)
  lamps k d := by
    rw [putTelltale_lamps] at d
    by_cases e : i = k
    · subst e
      exact putTelltale_noticed (by simpa [withTelltale] using d)
    · have other : (s.lamps.telltales.set i t)[k] = s.lamps.telltales[k] := by
        simp only [Fin.getElem_fin]
        exact Vector.getElem_set_ne _ _ fun j => e (Fin.ext j)
      exact absurd (show TelltaleDiffers _ (s.lamps.telltales.set i t)[k] from d) (by rw [other]; exact TelltaleDiffers.irrefl _)
  notices _ n := n.took (steady_putTelltale i t s).ports

theorem announces_newLampCycle : Announces s (newLampCycle s) := announces_forAll _ (fun _ s => announces_putTelltale s _ _) s

theorem announces_startConverter : Announces s (startConverter s) := announces_setConv ..

/-- STARTING entered with no commit in flight: every gauge stands, whatever the cycle state was (R100, R152). -/
theorem announces_openCycle (h : GaugesStand s → s.store.state ≠ .committing) : Announces s (openCycle s) := by
  refine .trans (t := (s.setCycle
    { s.cycle with window := .running s.cycle.windowLength, causeSwitch := false, causeWindow := false }).setCycle
      { s.cycle with window := .running s.cycle.windowLength, causeSwitch := false, causeWindow := false, state := .starting }) ?_
    (announces_signalEvent _ .cycle)
  refine ⟨⟨fun stand => ?_, fun k d => absurd d (GaugeDiffers.irrefl _), .of_same (.of_lamps rfl)⟩, fun _ n => n⟩
  have idle := h stand
  rw [gaugesStand_iff] at stand ⊢
  exact ⟨fun i => ⟨(stand.1 i).within, (stand.1 i).travel, nofun, nofun⟩, fun k => absurd k idle⟩

/-- The gauges at a STARTING entry: behind it the cycle state is STARTING or RUN. -/
theorem announces_startGauges (supply : Supply) (h : s.cycle.state = .starting ∨ s.cycle.state = .run) : Announces s (startGauges supply s) := by
  have started : ∀ (l : List (Fin 6)) (u : State), u.cycle.state = .starting ∨ u.cycle.state = .run →
      Announces u (l.foldl (fun s i => startGauge supply i s) u) := by
    intro l
    induction l with
    | nil => exact fun u _ => .refl u
    | cons i l ih =>
      intro u hu
      have away : u.cycle.state ≠ .parked ∧ u.cycle.state ≠ .load := by rcases hu with k | k <;> rw [k] <;> decide
      have raised : Announces u (if u.gauges[i].reparks (gaugeView u u.gauges[i]) then raiseItem (gaugeItem i) u else u) :=
        announces_ite (fun _ => announces_raiseItem ..) (fun _ => .refl u)
      have same : (if u.gauges[i].reparks (gaugeView u u.gauges[i]) then raiseItem (gaugeItem i) u else u).gauges = u.gauges ∧
          (if u.gauges[i].reparks (gaugeView u u.gauges[i]) then raiseItem (gaugeItem i) u else u).cycle = u.cycle := by
        split <;> exact ⟨rfl, rfl⟩
      have one : Announces u (startGauge supply i u) := by
        unfold startGauge
        dsimp only
        refine raised.trans (announces_putGauge _ i ?_)
        rw [same.1, same.2]
        exact fun k => k.start away.1 away.2 supply _
      refine one.trans (ih _ ?_)
      have passage := (afterView_startGauge supply i u).table.passage
      rcases passage with k | ⟨-, k⟩ | ⟨k, -⟩
      · rwa [k]
      · exact .inr k
      · rw [k] at hu
        rcases hu with k | k <;> cases k
  exact started _ s h

theorem announces_enterStarting (h : GaugesStand s → s.store.state ≠ .committing) : Announces s (enterStarting s) :=
  (announces_openCycle s h).trans <| (announces_startGauges _ s.conv.supply (.inl rfl)).trans <|
    (announces_startConverter _).trans (announces_newLampCycle _)

theorem announces_enterStopping (h : s.cycle.state = .starting ∨ s.cycle.state = .run) : Announces s (enterStopping s) := by
  refine .trans (t := changeCycle .stopping (s.setCycle { s.cycle with window := .stopped })) ?_
    ((announces_forGauges _ fun _ _ _ k => k.ignitionOff).trans (announces_judgePassage _))
  refine .trans (t := (s.setCycle { s.cycle with window := .stopped }).setCycle { s.cycle with window := .stopped, state := .stopping }) ?_
    (announces_signalEvent _ .cycle)
  refine ⟨⟨fun stand => ?_, fun k d => absurd d (GaugeDiffers.irrefl _), .of_same (.of_lamps rfl)⟩, fun _ n => n⟩
  rw [gaugesStand_iff] at stand ⊢
  refine ⟨fun i => ⟨(stand.1 i).within, (stand.1 i).travel, nofun, nofun⟩, fun k => ?_⟩
  rw [(stand.2 k).1] at h
  rcases h with k | k <;> cases k

theorem announces_addWakeCause (c : WakeCause) : Announces s (addWakeCause c s) :=
  announces_ite (fun _ => by cases c <;> exact announces_setCycle s rfl rfl) (fun _ => .refl s)

theorem announces_onBulbCheck : Announces s (onBulbCheck s) :=
  announces_ite (fun _ => .trans (announces_setCycle s (x := { s.cycle with window := .stopped }) rfl rfl) (announces_judgePassage _)) (fun _ => .refl s)

theorem announces_ignitionEvent (on : Bool) : Announces s (ignitionEvent on s) := by
  refine .trans (announces_setCycle s (x := { s.cycle with ignition := on }) rfl rfl) ?_
  have outside (u : State) (h : u.cycle.state ≠ .parked) : GaugesStand u → u.store.state ≠ .committing := fun stand k => h (stand.commit k).1
  unfold ignitionEvent
  dsimp only
  split
  next hs =>
    refine announces_ite (fun k => announces_enterStarting _ fun stand committing => ?_) (fun _ => .refl _)
    have flight : s.cycle.commitInFlight = true := (stand.commit committing).2
    simp [flight] at k
  next hs => exact announces_ite (fun _ => .refl _) (fun _ => announces_enterStopping _ (.inl hs))
  next hs => exact announces_ite (fun _ => .refl _) (fun _ => announces_enterStopping _ (.inr hs))
  next hs => exact announces_ite (fun _ => announces_enterStarting _ (outside _ (by rw [hs]; decide))) (fun _ => .refl _)
  · exact .refl _

/-! ## Switch bank -/

theorem announces_ignitionOf (i : Fin 24) (b : Option Bool) (a : Bool) : Announces s (ignitionOf i b a s) :=
  announces_ite (fun _ => announces_ignitionEvent ..) (fun _ => .refl s)

theorem announces_wakeOf (w : Bool) (b : Option Bool) (a : Bool) : Announces s (wakeOf w b a s) :=
  announces_ite (fun _ => announces_addWakeCause ..) (fun _ => .refl s)

theorem announces_debounceExpiry (st : SwitchSettings) (i : Fin 24) : Announces s (debounceExpiry st i s) := by
  refine announces_ite (fun _ => announces_setInput ..) (fun _ => ?_)
  unfold acceptLevel deliverLevel presentLevel
  exact ((announces_deliver ..).trans (announces_settleUnits _)).trans <|
    ((announces_setInput ..).trans (announces_settleUnits _)).trans <| (announces_ignitionOf ..).trans (announces_wakeOf ..)

theorem announces_onRawLevel (i : Fin 24) (l : Level) : Announces s (onRawLevel i l s) :=
  announces_ite (fun _ => .refl s) (fun _ => by split <;> exact announces_setInput ..)

theorem announces_onDebounce (i : Fin 24) : Announces s (onDebounce i s) := by
  unfold onDebounce
  split
  · exact announces_ite (fun _ => announces_debounceExpiry ..) (fun _ => .refl s)
  · exact .refl s

theorem announces_commitInput (old new : SwitchSettings) (i : Fin 24) : Announces s (commitInput old new i s) := by
  unfold commitInput
  dsimp only
  have sampled : Announces s (if s.switches.inputs[i].debounce.isRunning = true then
      setInput i { s.switches.inputs[i] with debounce := .running new.debounceMs[i] } s else s) :=
    announces_ite (fun _ => announces_setInput ..) (fun _ => .refl s)
  split
  · exact sampled
  · refine sampled.trans (.trans ?_ (announces_deliver ..))
    exact announces_ite (fun _ => .refl _) (fun _ => (announces_ignitionOf ..).trans (announces_wakeOf ..))

theorem announces_commitSwitches (c : Configuration) : Announces s (commitSwitches c s) :=
  .trans (announces_setSwitches s { s.switches with settings := some c.switches }) (announces_forAll _ (fun i s => announces_commitInput s _ _ i) _)

/-! ## Pulse unit, distance counter and converter -/

theorem announces_putDistance (d : Distance) : Announces s (putDistance d s) := by
  have set : Announces s (setCond .odoMismatch d.mismatch (s.setDist d)) := .of_eq rfl rfl rfl rfl rfl
  exact announces_ite (fun _ => set.trans (announces_raiseItem ..)) (fun _ => set)

theorem announces_takePulseSettings (c : Fin 4) (st : PulseSettings) : Announces s (takePulseSettings c st s) :=
  announces_ite (fun _ => (announces_setChannel ..).trans (announces_putDistance ..)) (fun _ => announces_setChannel ..)

theorem announces_startGate (c : Fin 4) : Announces s (startGate c s) := by
  unfold startGate
  split
  · exact announces_setChannel ..
  · exact .refl s

theorem announces_takeOverPulse (c : Fin 4) : Announces s (takeOverPulse c s) := by
  unfold takeOverPulse
  split
  · exact announces_takePulseSettings ..
  · exact .refl s

theorem announces_onGate (c : Fin 4) : Announces s (onGate c s) := by
  have delivered (x : PulseChannel) (u : Update) : Announces s (deliver (.pulse c) u (setChannel c x s)) :=
    (announces_setChannel ..).trans (announces_deliver ..)
  unfold onGate
  split
  · unfold gateExpiry
    dsimp only
    refine .trans ?_ ((announces_takeOverPulse _ c).trans (announces_startGate ..))
    exact announces_ite (fun _ => (delivered ..).trans (announces_signalEvent ..)) (fun _ => delivered ..)
  · exact .refl s

theorem announces_advanceCounter (c : Fin 4) (n : Nat) : Announces s (advanceCounter c n s) := announces_setChannel ..

theorem announces_onEdge (c : Fin 4) (edge : EdgeKind) : Announces s (onEdge c edge s) := by
  unfold onEdge
  split
  · refine announces_ite (fun _ => ?_) (fun _ => .refl s)
    refine announces_ite (fun _ => ?_) (fun _ => announces_setChannel ..)
    exact announces_ite (fun _ => (announces_setChannel ..).trans (announces_putDistance ..)) (fun _ => announces_setChannel ..)
  · exact .refl s

theorem announces_takeOverConverter : Announces s (takeOverConverter s) := by
  unfold takeOverConverter
  split
  · exact announces_setConv ..
  all_goals exact .refl s

theorem announces_beginPass (parked : Bool) : Announces s (beginPass parked s) := by
  unfold beginPass
  split
  · exact announces_setConv ..
  · dsimp only
    split
    · exact (announces_takeOverConverter s).trans (announces_setPass ..)
    · exact announces_takeOverConverter s

theorem announces_onParkedTimer : Announces s (onParkedTimer s) := by
  refine announces_ite (fun _ => (announces_beginPass s true).trans ?_) (fun _ => .refl s)
  unfold renewParkedTimer
  split
  · exact announces_setConv ..
  · exact .refl _

theorem announces_deliverTestFail (i : Fin 16) : Announces s (deliverTestFail i s) := by
  unfold deliverTestFail
  split
  · exact announces_ite (fun _ => .refl s) (fun _ => announces_deliver ..)
  · exact .refl s

theorem announces_onTestsDone (zero full : AdcCode) : Announces s (onTestsDone zero full s) := by
  unfold onTestsDone
  split
  next p _ =>
    refine announces_ite (fun _ => announces_ite (fun _ => ?_) (fun _ => ?_)) (fun _ => .refl s)
    · exact .of_eq rfl rfl rfl rfl rfl
    · exact (announces_setCond ..).trans ((announces_foldl _ (fun s i => announces_deliverTestFail s i) _ _).trans (announces_setPass ..))
  · exact .refl s

theorem announces_onSettled : Announces s (onSettled s) := by
  unfold onSettled
  split
  · exact announces_ite (fun _ => .of_eq rfl rfl rfl rfl rfl) (fun _ => .refl s)
  · exact .refl s

/-- Supply LOW holds the gauges: none of them opens a passage, so the cycle state that the coils go by stands throughout (R103). -/
theorem announces_holdGauges (c : CycleState) (h : s.cycle.state = c) : Announces s (forGauges (fun _ g => g.hold c) s) := by
  have held : ∀ (l : List (Fin 6)) (u : State), u.cycle.state = c →
      Announces u (l.foldl (fun s i => putGauge i (s.gauges[i].hold c) s) u) := by
    intro l
    induction l with
    | nil => exact fun u _ => .refl u
    | cons i l ih =>
      intro u hu
      refine .trans (announces_putGauge u i fun k => k.hold fun e => hu ▸ e) (ih _ ?_)
      rw [putGauge_state]
      split
      · exact hu
      next moved =>
        have holding : u.gauges[i].driven c = true ∧ u.gauges[i].state ≠ .held := by
          by_contra k
          rw [not_and_or, Bool.not_eq_true, not_not] at k
          exact moved (by rw [Gauge.hold_stays c _ k])
        rw [passed_of_held (k := i), hu]
        show (u.gauges.set i (u.gauges[i].hold c))[(i : Nat)].state = .held
        rw [Vector.getElem_set_self, Gauge.hold_eq c _ holding.1 holding.2]
  exact held _ s h

theorem announces_changeSupply (new : Supply) (n : Nat) : Announces s (changeSupply new n s) := by
  have judged : Announces s
      (setCond .supplyHigh (new == .high) (setCond .supplyLow (new == .low) (s.setConv { s.conv with supply := new, lowCount := n }))) :=
    .of_eq rfl rfl rfl rfl rfl
  refine announces_ite (fun _ => judged.trans ?_) fun _ => announces_ite (fun _ => judged.trans ?_) fun _ => judged
  · exact announces_holdGauges _ _ rfl
  · exact announces_forGauges _ fun _ v _ k => k.resume _ v

theorem announces_supplyJudgement (v : Int) : Announces s (supplyJudgement v s) := announces_changeSupply ..

theorem announces_setScanState (i : Fin 16) (z : ScanState) : Announces s (setScanState i z s) := announces_setConv ..

theorem announces_clearRefuel (i : Fin 16) : Announces s (clearRefuel i s) := announces_setScanState ..

theorem announces_scanResult (st : ConverterSettings) (parked : Bool) (i : Fin 16) (d : ScanSlot) (avg : Nat) :
    Announces s (scanResult st parked i d avg s) := by
  have fault (c : FaultCause) : Announces s (deliver (.analog d.channel) (.fault c) (clearRefuel i s)) :=
    (announces_clearRefuel s i).trans (announces_deliver ..)
  have value (z : ScanState) (v : Int) : Announces s (deliver (.analog d.channel) (.value v) (setScanState i z s)) :=
    (announces_setScanState s i z).trans (announces_deliver ..)
  refine announces_ite (fun _ => .refl s) (fun _ => ?_)
  split
  · exact announces_ite (fun _ => (fault _).trans (announces_addWakeCause ..)) (fun _ => fault _)
  · refine announces_ite (fun _ => fault .curve) (fun _ => ?_)
    exact announces_ite (fun _ => (value ..).trans (announces_supplyJudgement ..)) (fun _ => value ..)

theorem announces_onConversion (code : AdcCode) : Announces s (onConversion code s) := by
  unfold onConversion
  split
  · unfold endConversion
    split
    · exact announces_setPass ..
    · unfold takeConversion
      split
      · exact announces_ite (fun _ => announces_setPass ..) (fun _ => (announces_scanResult ..).trans (announces_setPass ..))
      · exact .refl s
      · exact .refl s
    all_goals exact .refl s
  · exact .refl s

/-! ## Telltale unit -/

theorem announces_onFlasher (which : Flasher) : Announces s (onFlasher which s) := by
  cases which <;> exact announces_setLamps s (.of_telltales rfl)

theorem announces_onOpenCheck (i : Fin 40) (current : Nat) : Announces s (onOpenCheck i current s) :=
  announces_ite (fun _ => announces_putTelltale ..) (fun _ => .refl s)

theorem announces_onShort (i : Fin 40) : Announces s (onShort i s) := announces_ite (fun _ => announces_putTelltale ..) (fun _ => .refl s)

theorem announces_onRetry (i : Fin 40) (shorted : Bool) : Announces s (onRetry i shorted s) :=
  announces_ite (fun _ => (announces_putTelltale ..).trans (announces_raiseItem ..)) (fun _ => .refl s)

theorem announces_changePlaying (phase : ChimePhase) (f : ChimeDesc → Chime → Chime) : Announces s (changePlaying phase f s) := by
  unfold changePlaying
  split
  · exact announces_ite (fun _ => announces_setLamps s (.of_telltales rfl)) (fun _ => .refl s)
  all_goals exact .refl s

/-! ## Readout -/

theorem announces_reportTacho : Announces s (reportTacho s) := (announces_settleUnits s).trans (announces_raiseItem ..)

/-- A readout with its conditions, reported. -/
theorem announces_reportState (r : Readout) : Announces s (reportTacho (judgeStale (s.setTacho r))) :=
  .trans (t := judgeStale (s.setTacho r)) (.of_eq rfl rfl rfl rfl rfl) (announces_reportTacho _)

theorem announces_becomeCurrent (st : ReadoutSettings) (rec : TachoRecord) : Announces s (becomeCurrent st rec s) := by
  have conditions (u : State) : Announces u (judgeStale (judgeRecord rec (judgeDriving st u))) :=
    (announces_setCond ..).trans <| (announces_setCond ..).trans <| (announces_setCond ..).trans <| (announces_setCond ..).trans (announces_setCond ..)
  exact (announces_setTacho ..).trans (conditions _)

theorem announces_recordArrival (rec : TachoRecord) : Announces s (recordArrival rec s) := by
  unfold recordArrival
  split
  · exact .refl s
  next st _ =>
    have stored : Announces s (storeRecord rec s) := .of_eq rfl rfl rfl rfl rfl
    dsimp only
    exact stored.trans <| (announces_deliverTo ..).trans <| (announces_putDistance ..).trans <|
      (announces_becomeCurrent ..).trans <| (announces_reportTacho _).trans (announces_signalEvent ..)

theorem announces_onRecordAge : Announces s (onRecordAge s) := by
  unfold onRecordAge
  split
  · refine announces_ite (fun _ => ?_) (fun _ => .refl s)
    have aged : Announces s (s.setTacho { s.tacho with age := min 65535 (s.tacho.age + 1) }) := announces_setTacho ..
    exact announces_ite (fun _ => aged.trans (announces_reportState ..)) (fun _ => aged)
  · exact .refl s

theorem announces_onEstimation : Announces s (onEstimation s) := by
  unfold onEstimation
  split
  · refine announces_ite (fun _ => ?_) (fun _ => .refl s)
    have judged (st : ReadoutSettings) (r : Readout) : Announces s (judgeStale (judgeDriving st (s.setTacho r))) := .of_eq rfl rfl rfl rfl rfl
    exact announces_ite (fun _ => (judged ..).trans (announces_reportTacho _)) (fun _ => judged ..)
  · exact .refl s

theorem announces_readoutLinkLoss : Announces s (readoutLinkLoss s) := by
  unfold readoutLinkLoss
  split
  · exact announces_reportState ..
  · exact announces_reportState ..
  · exact .refl s
  · exact .refl s

theorem announces_takeReadoutSettings (c : Configuration) : Announces s (takeReadoutSettings c s) := by
  have judged (r : Readout) : Announces s (judgeDriving c.readout (s.setTacho r)) := .of_eq rfl rfl rfl rfl rfl
  exact announces_ite (fun _ => judged _) (fun _ => (judged _).trans (announces_reportTacho _))

/-! ## Links -/

/-- A port that keeps its watch set and its list. -/
theorem announces_setPort_kept {p : Port} {x : PortState} (hw : x.watch = (s.port p).watch) (hc : x.changes = (s.port p).changes) :
    Announces s (setPort p x s) := announces_setPort s hw fun _ _ k => hc ▸ k

theorem PortState.recover_watch (x : PortState) : x.recover.watch = x.watch := by unfold PortState.recover; split <;> rfl

theorem PortState.accepted_watch (b : Bool) (n : Byte) (body : List Byte) (x : PortState) : (x.accepted b n body).watch = x.watch :=
  PortState.recover_watch _

theorem PortState.recover_lists {x : PortState} {i : Fin 113} (hw : x.watch[i] = true) (hi : i ∈ x.changes) : i ∈ x.recover.changes := by
  unfold PortState.recover
  split
  · exact List.mem_filter.2 ⟨List.mem_finRange i, hw⟩
  · exact hi

theorem PortState.accepted_lists {b : Bool} {n : Byte} {body : List Byte} {x : PortState} {i : Fin 113} (hw : (x.accepted b n body).watch[i] = true)
    (hi : i ∈ x.changes) : i ∈ (x.accepted b n body).changes := by
  rw [PortState.accepted_watch] at hw
  exact PortState.recover_lists (x := { x with counters := { x.counters with good := x.counters.good + 1 } }) hw hi

theorem announces_takeVerdict (p : Port) (v : Verdict) : Announces s (takeVerdict p v s) := by
  cases v with
  | good n body =>
    refine .trans (t := if (s.port p).link = .lost then setCond (linkLostCondition p) false s else s) ?_ ?_
    · exact announces_ite (fun _ => announces_setCond ..) (fun _ => .refl s)
    · generalize hu : (if (s.port p).link = .lost then setCond (linkLostCondition p) false s else s) = u
      have same : u.port p = s.port p := by rw [← hu]; split <;> rfl
      have accepted : takeVerdict p (.good n body) s = setPort p ((s.port p).accepted u.inLoad n body) u := by rw [← hu]; rfl
      rw [accepted, ← same]
      exact announces_setPort u (PortState.accepted_watch ..) fun i hw hi => PortState.accepted_lists hw hi
  | bad o n => 
    refine announces_setPort_kept s ?_ ?_ <;> rfl

theorem announces_endPeriod (p : Port) (bytes : List Byte) : Announces s (endPeriod p bytes s) := by
  have closed : Announces s (setPort p ((s.port p).closePeriod bytes) s) := announces_setPort_kept s rfl rfl
  refine announces_ite (fun _ => closed) (fun _ => ?_)
  split
  · exact closed.trans (announces_ite (fun _ => announces_setPort_kept _ rfl rfl) (fun _ => announces_takeVerdict ..))
  · exact closed

theorem announces_openPeriod (p : Port) : Announces s (openPeriod p s) := by
  unfold openPeriod
  dsimp only
  split
  · exact announces_setPort_kept s rfl rfl
  all_goals exact .refl s

theorem announces_setReceiver (r : Receiver) : Announces s (setReceiver r s) := announces_setPort_kept s rfl rfl

theorem announces_tlinkFrame (began : Bool) (v : Verdict) (next : Receiver) : Announces s (tlinkFrame began v next s) := by
  refine .trans ?_ (announces_setReceiver ..)
  exact announces_ite (fun _ => announces_setPort_kept s rfl rfl) (fun _ => announces_takeVerdict ..)

theorem announces_tlinkByte (b : Byte) (stopBit : Bool) : Announces s (tlinkByte b stopBit s) := by
  unfold tlinkByte
  split
  · exact announces_ite (fun _ => .refl s) fun _ => announces_ite (fun _ => announces_setReceiver ..) fun _ =>
      announces_ite (fun _ => announces_tlinkFrame ..) fun _ => .refl s
  · exact announces_ite (fun _ => announces_tlinkFrame ..) fun _ => announces_ite (fun _ => announces_tlinkFrame ..) fun _ =>
      announces_ite (fun _ => announces_tlinkFrame ..) fun _ => announces_setReceiver ..
  · exact .refl s

theorem announces_tlinkGap : Announces s (tlinkGap s) := by
  unfold tlinkGap
  split
  · exact .refl s
  · exact announces_tlinkFrame ..
  · exact announces_setReceiver ..

theorem announces_clearPortClaims (p : Port) : Announces s (clearPortClaims p s) := by
  refine announces_setLamps s fun i => ?_
  simp [not_telltaleDiffers]

theorem announces_linkExpiry (p : Port) : Announces s (linkExpiry p s) := by
  refine announces_ite (fun _ => ?_) (fun _ => .refl s)
  refine .trans (announces_setPort_kept s (p := p) (x := { s.port p with link := .lost, linkTimer := .stopped }) rfl rfl) ?_
  unfold loseLink
  dsimp only
  generalize setPort p { s.port p with link := .lost, linkTimer := .stopped } s = u
  have lost : Announces u (clearPortClaims p (forceLost p (setCond (linkLostCondition p) true u))) :=
    (announces_setCond ..).trans ((announces_forceLost ..).trans (announces_clearPortClaims ..))
  exact announces_ite (fun _ => lost.trans (announces_readoutLinkLoss _)) (fun _ => lost)

end

end Sys2Proof.Machine
end

section
/-! Proofs: resets, load, commit and frames keep every gauge standing and report every change; the step (R88 to R104, R90, R127). -/

namespace Sys2Proof.Machine

section
variable (s : State)

/-! ## Settings of a gauge -/

theorem normalGauge_travel (d : GaugeDesc) : (normalGauge d).park ≤ (normalGauge d).fullScale := Nat.min_le_left ..

theorem normal_gauge (c : Configuration) (i : Fin 6) : c.normal.gauges[i] = normalGauge c.gauges[i] := by
  simp [Configuration.normal]

theorem gaugeSettings_travel (c : Configuration) (marks : Vector Bool 6) (i : Fin 6) :
    (gaugeSettings c.normal marks i).desc.park ≤ (gaugeSettings c.normal marks i).desc.fullScale := by
  show c.normal.gauges[i].park ≤ c.normal.gauges[i].fullScale
  rw [normal_gauge]
  exact normalGauge_travel _

/-- A gauge that knows no position. -/
theorem Gauge.Stands.unhomed {c : CycleState} {g : Gauge} (state : g.state = .unhomed)
    (travel : ∀ gs, g.settings = some gs → gs.desc.park ≤ gs.desc.fullScale) : g.Stands c where
  within _ _ hu := absurd (Gauge.unplaced_iff.2 (.inl state)) (by rw [hu]; decide)
  travel := travel
  parked _ := .inl state
  load _ := state

theorem Gauge.Stands.commit {g : Gauge} {gs : GaugeSettings} (h : g.Stands .parked) (travel : gs.desc.park ≤ gs.desc.fullScale) :
    (g.commit gs).Stands .parked := by
  have settings {g' : Gauge} (k : g'.settings = some gs) : ∀ gs', g'.settings = some gs' → gs'.desc.park ≤ gs'.desc.fullScale := fun gs' k' => by
    obtain rfl : gs = gs' := Option.some_inj.1 (k.symm.trans k')
    exact travel
  unfold Gauge.commit
  dsimp only
  split
  next moved => exact .unhomed rfl (settings rfl)
  next kept =>
    rcases h.parked rfl with state | state
    · exact .unhomed state (settings rfl)
    · rw [not_and, Bool.not_eq_false, Option.any_eq_true] at kept
      obtain ⟨old, hold, same⟩ := kept state
      rw [Bool.and_eq_true, decide_eq_true_eq, decide_eq_true_eq] at same
      refine ⟨fun gs' k hu => ?_, settings rfl, fun _ => .inr state, nofun⟩
      obtain rfl : gs = gs' := Option.some_inj.1 k
      have placed := h.within old hold hu
      unfold GaugeSettings.within at placed ⊢
      rw [same.1] at placed
      exact placed

/-! ## Resets -/

/-- A reset of the part: no gauge knows its position, no programming is under way, and no port watches an item. -/
theorem announces_reset {t : State} (hg : t.gauges = .replicate 6 .reset) (hs : GaugesStand s → t.store.state ≠ .committing)
    (hw : ∀ p, (t.port p).watch = .replicate 113 false) : Announces s t := by
  have unwatched (i : Fin 113) : noticed i t := fun p w => by
    rw [hw p] at w
    simp at w
  refine ⟨⟨fun h => ?_, fun _ _ => unwatched _, fun _ _ => unwatched _⟩, fun i _ => unwatched i⟩
  rw [gaugesStand_iff]
  refine ⟨fun i => ?_, fun k => absurd k (hs h)⟩
  have here : t.gauges[i] = .reset := by rw [hg]; simp
  rw [here]
  exact .unhomed rfl fun _ k => nomatch k

theorem announces_restart (h : GaugesStand s → s.store.state ≠ .committing) : Announces s (restart s) :=
  announces_reset s rfl h fun p => by cases p <;> rfl

theorem announces_powerOn (strap : BitRate) : Announces s (powerOn strap s) :=
  announces_reset s rfl (fun _ => nofun) fun p => by cases p <;> rfl

theorem announces_requestRestart : Announces s (requestRestart s) :=
  announces_ite (fun _ => announces_setCycle s rfl rfl)
    (fun k => announces_restart s fun stand committing => k (stand.commit committing).2)

/-! ## Load -/

theorem announces_takeTimeouts (c : Configuration) : Announces s (takeTimeouts c s) :=
  Undisturbed.announces (s := s) (t := takeTimeouts c s) (.of_eq rfl rfl rfl rfl) fun i n p w => by
    cases p with
    | dlink => exact n .dlink w
    | nlink => exact n .nlink w
    | tlink => exact n .tlink w

/-- PARKED entered from LOAD: no gauge is homed there. -/
theorem GaugesStand.enterParked (h : GaugesStand s) (hc : s.cycle.state = .load) : GaugesStand (enterParked s) := by
  rw [gaugesStand_iff] at h ⊢
  refine ⟨fun i => .unhomed ((h.1 i).load hc) (h.1 i).travel, fun k => ?_⟩
  rw [(h.2 k).1] at hc
  cases hc

theorem GaugesStand.leaveLoad (h : GaugesStand s) (hc : s.cycle.state = .load) : GaugesStand (leaveLoad s) := by
  unfold Machine.leaveLoad
  split
  · refine (announces_enterStarting s fun stand k => ?_).stand h
    rw [(stand.commit k).1] at hc
    cases hc
  · exact h.enterParked s hc

/-- The settings taken at the exit from LOAD: every gauge is UNHOMED, and takes a park position within its travel (R88). -/
theorem GaugesStand.takeAllSettings (h : GaugesStand s) (hc : s.cycle.state = .load) (c : Configuration) :
    GaugesStand (takeAllSettings c.normal s) ∧ (Machine.takeAllSettings c.normal s).cycle.state = .load := by
  have taken := blocksTaken_spec c.normal s
  have readout := takeReadoutSettings_spec c.normal (blocksTaken c.normal s)
  have stages : Machine.takeAllSettings c.normal s = startLinkTimers (takeTimeouts c.normal (takeReadoutSettings c.normal (blocksTaken c.normal s))) := rfl
  rw [stages]
  generalize blocksTaken c.normal s = v at taken readout
  obtain ⟨cycle, store, -⟩ := readout.units
  obtain ⟨-, -, -, -, -, gauges⟩ := readout.blocks
  have state : (takeReadoutSettings c.normal v).cycle.state = .load := by rw [cycle, taken.cycle]; exact hc
  refine ⟨?_, state⟩
  refine GaugesStand.congr (s := takeReadoutSettings c.normal v) ?_ rfl rfl rfl rfl
  rw [gaugesStand_iff] at h ⊢
  refine ⟨fun i => ?_, ?_⟩
  · rw [gauges, taken.gauges i]
    refine .unhomed ((h.1 i).load hc) fun gs k => ?_
    obtain rfl := Option.some_inj.1 k
    exact gaugeSettings_travel ..
  · obtain ⟨-, kept, -⟩ := taken.others
    rw [store, kept, state, cycle, taken.cycle]
    exact hc ▸ h.2

theorem GaugesStand.loadExit (h : GaugesStand s) (hc : s.cycle.state = .load) : GaugesStand (loadExit s) := by
  unfold Machine.loadExit State.config
  cases s.store.inForce with
  | none => exact h
  | some c =>
    obtain ⟨stands, load⟩ := h.takeAllSettings s hc c
    exact (stands.leaveLoad _ load).ended (settleUnits_eventEnd false _)

theorem GaugesStand.loadImage (h : GaugesStand s) (hc : s.cycle.state = .load) : GaugesStand (loadImage s) ∧ (Machine.loadImage s).cycle.state = .load := by
  have blocks : (Machine.loadImage s).gauges = s.gauges ∧ (Machine.loadImage s).cycle = s.cycle := by
    unfold Machine.loadImage takeLoaded
    dsimp only
    split <;> exact ⟨rfl, rfl⟩
  have store : (Machine.loadImage s).store.state ≠ .committing := by
    unfold Machine.loadImage takeLoaded
    dsimp only
    split
    all_goals
      show s.store.load.state ≠ .committing
      unfold ConfigStore.load
      split <;> exact nofun
  rw [gaugesStand_iff] at h ⊢
  rw [blocks.1, blocks.2]
  exact ⟨⟨h.1, fun k => absurd k store⟩, hc⟩

/-! ## The end of a commit -/

theorem announces_noticeAllEntries : Announces s (noticeAllEntries s) := announces_forAll _ (fun i s => announces_raiseItem s (signalItem i)) s

/-- The telltales that a commit has changed are reported (R127, R133). -/
theorem announces_commitLampSettings (c : Configuration) : Announces s (commitLampSettings c s) := by
  obtain ⟨u, hu, blocks⟩ : ∃ u, commitLampSettings c s = telltaleNotices s.lamps.telltales u ∧
      u.gauges = s.gauges ∧ u.cycle = s.cycle ∧ u.store = s.store ∧ u.ports = s.ports := ⟨_, rfl, rfl, rfl, rfl, rfl⟩
  obtain ⟨gauges, cycle, store, ports⟩ := blocks
  rw [hu]
  have ended := telltaleNotices_eventEnd s.lamps.telltales u
  refine ⟨⟨fun h => (h.congr gauges (by rw [cycle]) (by rw [cycle]) (by rw [store])).ended ended, fun _ d => ?_, fun k d => ?_⟩, fun i n => ?_⟩
  · exact absurd (ended.gauges.trans gauges ▸ d) (GaugeDiffers.irrefl _)
  · rw [(telltaleNotices_lamps _ u).1] at d
    exact (telltaleNotices_reports s.lamps.telltales u).2 k d
  · exact noticed.took (s := u) (n.took (.of_ports ports)) ended.ports

theorem commitLampSettings_store (c : Configuration) : (commitLampSettings c s).store = s.store :=
  (telltaleNotices_eventEnd s.lamps.telltales _).store

/-- In PARKED, where a commit is made: no gauge that is put opens a passage there (R108). -/
theorem announces_commitGauges (c : Configuration) (h : s.store.state = .committing) : Announces s (commitGauges c.normal s) := by
  have put : ∀ (l : List (Fin 6)) (u : State), u.store.state = .committing →
      Announces u (l.foldl (fun s i => putGauge i (s.gauges[i].commit (gaugeSettings c.normal s.store.gaugeMarks i)) s) u) := by
    intro l
    induction l with
    | nil => exact fun u _ => .refl u
    | cons i l ih =>
      intro u hu
      refine .trans (announces_putGauge_of u i fun stand => ?_) (ih _ (by rw [(settingsKept_putGauge u i _).store]; exact hu))
      have here := ((gaugesStand_iff u).1 stand).1 i
      rw [(stand.commit hu).1] at here ⊢
      exact here.commit (gaugeSettings_travel ..)
  exact put _ s h

theorem announces_setTakeOvers : Announces s (setTakeOvers s) := (announces_setPulse ..).trans (announces_setConv ..)

theorem announces_takeWindowLength (c : Configuration) : Announces s (takeWindowLength c s) := announces_setCycle s rfl rfl

theorem announces_handConfiguration (c : Configuration) (h : s.store.state = .committing) : Announces s (handConfiguration c.normal s) := by
  unfold handConfiguration
  dsimp only
  have emptied : Announces s (emptyTable c.normal.descriptors s) := announces_setSignals ..
  have told : Announces s (noticeAllEntries (emptyTable c.normal.descriptors s)) := emptied.trans (announces_noticeAllEntries _)
  have kept := (settingsKept_noticeAllEntries (emptyTable c.normal.descriptors s)).store
  refine told.trans ?_
  generalize noticeAllEntries (emptyTable c.normal.descriptors s) = u at kept
  refine (announces_setDist u { u.dist with tolerance := c.normal.odoTolerance }).trans ?_
  generalize hv : u.setDist { u.dist with tolerance := c.normal.odoTolerance } = v
  have committing : v.store.state = .committing := by
    rw [← hv]
    show u.store.state = .committing
    rw [kept]
    exact h
  refine (announces_commitSwitches v c.normal).trans ?_
  have kept := (settingsKept_commitSwitches v c.normal).store
  generalize commitSwitches c.normal v = w at kept
  refine (announces_commitLampSettings w c.normal).trans ?_
  have kept' := commitLampSettings_store w c.normal
  generalize commitLampSettings c.normal w = x at kept'
  refine (announces_settleUnits x).trans ?_
  have kept'' := (settingsKept_settleUnits x true).store
  generalize settleUnits true x = y at kept''
  refine (announces_commitGauges y c (by rw [kept'', kept', kept, committing])).trans ?_
  generalize commitGauges c.normal y = z
  exact (announces_takeReadoutSettings ..).trans <| (announces_takeTimeouts ..).trans <| (announces_takeWindowLength ..).trans (announces_setTakeOvers _)

theorem announces_closeCommit : Announces s (closeCommit s) := by
  refine ⟨⟨fun h => ?_, fun _ d => absurd d (GaugeDiffers.irrefl _), .of_same (.of_lamps rfl)⟩, fun _ n => n⟩
  rw [gaugesStand_iff] at h ⊢
  exact ⟨h.1, nofun⟩

theorem announces_afterCommit (h : s.store.state ≠ .committing) : Announces s (afterCommit s) :=
  announces_ite (fun _ => announces_restart s fun _ => h) fun _ =>
    announces_ite (fun _ => announces_enterStarting s fun _ => h) (fun _ => .refl s)

theorem announces_onCommitEnd : Announces s (onCommitEnd s) := by
  refine announces_ite (fun k => ?_) (fun _ => .refl s)
  unfold commitEnd
  split
  next c _ =>
    have inForce : Announces s (putInForce c s) := announces_setStore s rfl
    refine inForce.trans ((announces_handConfiguration (putInForce c s) c k.1).trans ?_)
    generalize handConfiguration c.normal (putInForce c s) = u
    exact (announces_closeCommit u).trans (announces_afterCommit (closeCommit u) nofun)
  · exact .refl s

/-! ## Requests -/

theorem Undisturbed.setPort (p : Port) (x : PortState) : Undisturbed s (setPort p x s) := .of_eq rfl rfl rfl rfl

theorem announces_mapExec (f : FrameExec → FrameExec) (p : Port) : Announces s (mapExec f p s) := announces_setPort_kept s rfl rfl

theorem announces_pushResult (p : Port) (o : RequestOutcome) (n : Nat) (data : List Byte) : Announces s (pushResult p o n data s) :=
  announces_ite (fun _ => (announces_mapExec ..).trans (announces_setPort_kept _ rfl rfl)) (fun _ => announces_mapExec ..)

theorem announces_setCursor (p : Port) (r : Region) (i : Nat) : Announces s (setCursor p r i s) := announces_setPort_kept s rfl rfl

theorem announces_runRead (p : Port) (region index count : Nat) : Announces s (runRead p region index count s) := by
  unfold runRead
  split
  · exact announces_pushResult ..
  · refine announces_ite (fun _ => announces_pushResult ..) fun _ => announces_ite (fun _ => announces_pushResult ..) fun _ => ?_
    unfold readElements
    dsimp only
    refine .trans ?_ (announces_pushResult ..)
    exact announces_ite (fun _ => .refl s) (fun _ => announces_setCursor ..)

theorem announces_holdFrame (p : Port) (ev : WaitEvent) (count : Nat) : Announces s (holdFrame p ev count s) :=
  (announces_mapExec ..).trans (announces_setPort_kept _ rfl rfl)

theorem announces_runWait (p : Port) (index count : Nat) : Announces s (runWait p index count s) := by
  unfold runWait
  split
  · exact announces_pushResult ..
  · exact announces_ite (fun _ => announces_pushResult ..) fun _ =>
      announces_ite (fun _ => announces_pushResult ..) fun _ => announces_holdFrame ..

/-- A CHANGES takes items from a list, and disturbs no gauge and no telltale (R177). -/
theorem reported_runChanges (p : Port) (count : Nat) : Reported s (runChanges p count s) := by
  unfold runChanges
  split
  · exact (announces_pushResult ..).toReported
  · exact (Undisturbed.setPort s p _).before (announces_pushResult ..).toReported

theorem announces_beginCommit (p : Port) (h : s.cycle.state = .parked) : Announces s (beginCommit p s) := by
  refine .trans (t := (s.setStore { s.store with state := .committing }).setCycle { s.cycle with commitInFlight := true }) ?_ (announces_mapExec ..)
  refine ⟨⟨fun stand => ?_, fun _ d => absurd d (GaugeDiffers.irrefl _), .of_same (.of_lamps rfl)⟩, fun _ n => n⟩
  rw [gaugesStand_iff] at stand ⊢
  exact ⟨stand.1, fun _ => ⟨h, rfl⟩⟩

theorem announces_runControl (p : Port) (i : Nat) (h : i = 0 → s.cycle.state = .parked) : Announces s (runControl p i s) :=
  announces_ite (fun k => announces_beginCommit s p (h k)) fun _ =>
    announces_ite (fun _ => announces_requestRestart s) (fun _ => announces_setCycle s rfl rfl)

theorem announces_writePattern (p : Port) (i : Fin 40) (v : Pattern) : Announces s (writePattern p i v s) := by
  refine announces_setLamps s fun k => ?_
  by_cases e : i = k
  · subst e
    simp [not_telltaleDiffers]
  · have other : (s.lamps.telltales.set i { s.lamps.telltales[i] with patterns := s.lamps.telltales[i].patterns.put p v })[k] = s.lamps.telltales[k] := by
      simp only [Fin.getElem_fin]
      exact Vector.getElem_set_ne _ _ fun j => e (Fin.ext j)
    exact fun d => absurd (other ▸ d) (TelltaleDiffers.irrefl _)

/-- An element of a WRITE to another region than WATCH and CONTROL. -/
theorem announces_writeElement (r : Region) (p : Port) (i : Nat) (data : List Byte) (hw : r ≠ .watch) (hc : r ≠ .control) :
    Announces s (writeElement r p i data s) := by
  cases r with
  | signals =>
    simp only [writeElement]
    cases finOf 64 i with
    | none => exact .refl s
    | some e => exact announces_deliverTo ..
  | telltales =>
    simp only [writeElement]
    cases finOf 40 i with
    | none => exact .refl s
    | some k => exact announces_writePattern ..
  | chimes =>
    simp only [writeElement]
    cases finOf 8 i with
    | none => exact .refl s
    | some k => exact announces_setLamps s (.of_telltales rfl)
  | tacho => exact announces_recordArrival ..
  | distance => exact announces_putDistance ..
  | config => exact announces_setStore s rfl
  | control => exact absurd rfl hc
  | watch => exact absurd rfl hw
  | directory | signalDetail | gauges | links | cycleState => exact .refl s

/-- A CONTROL WRITE holds one element, and its COMMIT is accepted in PARKED alone (R172, R186). -/
theorem parked_of_commit {p : Port} {data : List Byte} (h : judgeElement .control p 0 data s = none) : s.cycle.state = .parked := by
  by_contra k
  have refused : judgeControl s p 0 data ≠ none := by
    by_cases hp : p = .dlink <;> simp [judgeControl, judgeCommit, refuseIf, k, hp]
  exact refused h

theorem reported_applyWrite (p : Port) (r : Region) (first count : Nat) (data : List Byte)
    (hl : r = .control → count = 1) (hj : firstRefusal r p (writeItems r first count data) s = none) :
    Reported s (applyWrite p r first count (writeItems r first count data) s) := by
  unfold applyWrite
  dsimp only
  generalize hi : writeItems r first count data = items at hj
  generalize (if (items.any fun it => clampsElement r it.1 it.2 s) then RequestOutcome.okClamped else RequestOutcome.ok) = o
  by_cases hw : r = .watch
  · subst hw
    have left : Undisturbed s (setCursor p .watch ((first + count) % Region.watch.elements) s) := Undisturbed.setPort s p _
    refine (left.trans ?_).before (announces_pushResult ..).toReported
    exact foldl_rel Undisturbed.refl (fun _ _ _ => .trans) _ (fun s it => Undisturbed.setPort s p _) items _
  · by_cases hc : r = .control
    · subst hc
      obtain rfl := hl rfl
      have one : items = [(first % Region.control.elements, data.take Region.control.writeSize)] := by rw [← hi]; rfl
      subst one
      have judged : judgeElement .control p (first % Region.control.elements) (data.take Region.control.writeSize) s = none := by
        simpa [firstRefusal] using hj
      refine ((announces_setCursor ..).trans (.trans (announces_runControl _ p _ fun k => ?_) (announces_pushResult ..))).toReported
      rw [show first % Region.control.elements = 0 from k] at judged
      exact parked_of_commit s judged
    · refine ((announces_setCursor s p r ((first + count) % r.elements)).trans (.trans ?_ (announces_pushResult ..))).toReported
      exact announces_foldl (fun s (it : Nat × List Byte) => writeElement r p it.1 it.2 s)
        (fun s it => announces_writeElement s r p it.1 it.2 hw hc) items _

theorem reported_runWrite (p : Port) (r : Region) (index count : Nat) (data : List Byte) : Reported s (runWrite p r index count data s) := by
  have refused (o : RequestOutcome) : Reported s (pushResult p o 0 [] s) := (announces_pushResult ..).toReported
  unfold runWrite
  split
  · exact refused _
  · split
    · exact refused _
    next hl =>
      dsimp only
      split
      · exact refused _
      next hj =>
        rw [Bool.not_eq_true', Bool.not_eq_false, legalWrite_iff] at hl
        exact reported_applyWrite s p r _ count data hl.2 hj

theorem reported_runRequest (p : Port) (q : Request) : Reported s (runRequest p q s) := by
  cases q with
  | read region index count => exact (announces_runRead ..).toReported
  | write r index count data => exact reported_runWrite ..
  | wait index count => exact (announces_runWait ..).toReported
  | changes count => exact reported_runChanges ..
  | faulty o => exact (announces_pushResult ..).toReported

/-! ## Frames -/

theorem announces_finishFrame (p : Port) (f : FrameExec) : Announces s (finishFrame p f s) := by
  have watch : (endedPort s.inLoad f (s.port p)).watch = (s.port p).watch := by rw [endedPort_eq]
  have changes : (endedPort s.inLoad f (s.port p)).changes = (s.port p).changes := by rw [endedPort_eq]
  have ended := announces_setPort_kept s (p := p) watch changes
  rw [finishFrame_eq]
  exact announces_ite (fun _ => ended.trans (announces_setStore _ rfl)) (fun _ => ended)

/-- One request, or the end, of a frame. -/
theorem reported_advanceFrame (p : Port) : Reported s (advanceFrame p s) := by
  unfold advanceFrame
  split
  · exact (Announces.refl s).toReported
  · split
    · exact (announces_finishFrame ..).toReported
    · exact ((Undisturbed.setPort s p _).before (reported_runRequest ..)).trans (announces_finishEvent ..)

theorem GaugesStand.complete {u : State} (before : State) (h : GaugesStand u) : GaugesStand (complete before u) :=
  complete_keeps (P := GaugesStand) (fun b t ht => ht.ended (finishEvent_eventEnd b t)) (fun p t _ ht => (reported_advanceFrame t p).stand ht) before u h

/-! ## Commands and the step -/

/-- Every command but a reset and an exit from LOAD ends as an event does, and what it makes of the state before announces its changes. -/
theorem exec_announces (c : Instr) (h1 : ∀ strap, c ≠ .powerOnReset strap) (h2 : c ≠ .configLoadComplete) (h3 : c ≠ .restartLoadEnd) :
    ∃ u, exec c s = .next (complete s u) ∧ Announces s u := by
  cases c with
  | powerOnReset strap => exact absurd rfl (h1 strap)
  | configLoadComplete => exact absurd rfl h2
  | restartLoadEnd => exact absurd rfl h3
  | agingTimerExpiry => exact ⟨_, rfl, announces_ageTable s⟩
  | reclaimTimerExpiry i => exact ⟨_, rfl, announces_reclaimExpiry s i⟩
  | disagreementTimerExpiry i => exact ⟨_, rfl, announces_disagreementExpiry s i⟩
  | pulseEdge i edge us => exact ⟨_, rfl, (announces_advanceCounter s i us).trans (announces_onEdge _ i edge)⟩
  | gateExpiry i us => exact ⟨_, rfl, (announces_advanceCounter s i us).trans (announces_onGate _ i)⟩
  | scanTimerExpiry => exact ⟨_, rfl, announces_ite (fun _ => announces_beginPass ..) (fun _ => .refl s)⟩
  | parkedTimerExpiry => exact ⟨_, rfl, announces_onParkedTimer s⟩
  | testConversionsDone => exact ⟨_, rfl, announces_onTestsDone ..⟩
  | settleTimeExpiry => exact ⟨_, rfl, announces_onSettled s⟩
  | conversionDone => exact ⟨_, rfl, announces_onConversion ..⟩
  | rawLevelChange => exact ⟨_, rfl, announces_onRawLevel ..⟩
  | debounceTimerExpiry => exact ⟨_, rfl, announces_onDebounce ..⟩
  | motionTimerExpiry => exact ⟨_, rfl, announces_putGauge _ _ fun h => h.motionExpiry _⟩
  | homingTimerExpiry => exact ⟨_, rfl, announces_putGauge _ _ fun h => h.homingExpiry _⟩
  | flasherPhaseChange => exact ⟨_, rfl, announces_onFlasher ..⟩
  | openCheckTimerExpiry => exact ⟨_, rfl, announces_onOpenCheck ..⟩
  | lampShort => exact ⟨_, rfl, announces_onShort ..⟩
  | retryTimerExpiry => exact ⟨_, rfl, announces_onRetry ..⟩
  | chimeOnTimeExpiry => exact ⟨_, rfl, announces_changePlaying ..⟩
  | chimeOffTimeExpiry => exact ⟨_, rfl, announces_changePlaying ..⟩
  | recordAgeTimerExpiry => exact ⟨_, rfl, announces_onRecordAge s⟩
  | estimationTimerExpiry => exact ⟨_, rfl, announces_onEstimation s⟩
  | bulbCheckExpiry => exact ⟨_, rfl, announces_onBulbCheck s⟩
  | commitEnd => exact ⟨_, rfl, announces_onCommitEnd s⟩
  | spiPeriodEnd => exact ⟨_, rfl, announces_endPeriod ..⟩
  | tlinkByteReceived => exact ⟨_, rfl, announces_tlinkByte ..⟩
  | tlinkGapTimeout => exact ⟨_, rfl, announces_tlinkGap s⟩
  | tlinkReplySent => exact ⟨_, rfl, announces_setPort_kept s rfl rfl⟩
  | waitTimerExpiry => exact ⟨_, rfl, announces_mapExec ..⟩
  | linkTimerExpiry => exact ⟨_, rfl, announces_linkExpiry ..⟩
  | chipSelectActive => exact ⟨_, rfl, announces_openPeriod ..⟩

theorem GaugesStand.exec {t : State} (h : GaugesStand s) {c : Instr} (hx : exec c s = .next t) : GaugesStand t := by
  by_cases h1 : ∃ strap, c = .powerOnReset strap
  · obtain ⟨strap, rfl⟩ := h1
    obtain rfl := Host.Outcome.next.inj hx
    exact (announces_powerOn s strap).stand h
  by_cases h2 : c = .configLoadComplete
  · subst h2
    obtain rfl := Host.Outcome.next.inj hx
    refine GaugesStand.complete s ?_
    unfold onLoadComplete
    split
    next k =>
      obtain ⟨stands, load⟩ := h.loadImage s k.1
      exact stands.loadExit _ load
    · exact h
  by_cases h3 : c = .restartLoadEnd
  · subst h3
    obtain rfl := Host.Outcome.next.inj hx
    refine GaugesStand.complete s ?_
    unfold onRestartLoadEnd
    split
    next k => exact h.loadExit s k.1
    · exact h
  obtain ⟨u, hu, kept⟩ := exec_announces s c (fun strap k => h1 ⟨strap, k⟩) h2 h3
  obtain rfl := Host.Outcome.next.inj (hu.symm.trans hx)
  exact (kept.stand h).complete s

end

/-- Settles O7: every operation on a gauge keeps it standing (`Gauge.Stands`), so every command and every request of a frame keeps all of them. -/
theorem needlesWithinKept : Obligations.NeedlesWithinKept := by
  unfold Obligations.NeedlesWithinKept
  intro s t h hx
  obtain rfl | ⟨c, rest, -, hx⟩ := step_cases hx
  · exact h
  · exact GaugesStand.exec (s.setPending rest) (h.congr rfl rfl rfl rfl) hx

end Sys2Proof.Machine
end

section
/-! Proofs: what a command reports is what has changed, or what its rule asks for (R20, R21, R56, R90, R127, R146, R162, R175). -/

namespace Sys2Proof.Machine

/-! ## A report accounted for -/

/-- What an item of an entry, a gauge, the readout or the distance counter shows has changed as its rule asks (R20, R56, R90, R146). -/
def blockChanged (s u : State) (i : Fin 113) : Prop :=
  (∃ e : Fin 64, i = signalItem e ∧ EntryDiffers s.signals[e] u.signals[e]) ∨
  (∃ k : Fin 6, i = gaugeItem k ∧ GaugeDiffers s.gauges[k] u.gauges[k]) ∨
  (i = tachoItem ∧ ReadoutDiffers s.tacho u.tacho) ∨ (i = distanceItem ∧ DistanceDiffers s.dist u.dist)

/-- A telltale has changed as R127 asks. -/
def lampChanged (s u : State) (i : Fin 113) : Prop :=
  ∃ k : Fin 40, i = telltaleItem k ∧ TelltaleDiffers s.lamps.telltales[k] u.lamps.telltales[k]

/-- Behind the end of the event, every item that a list has gained shows a change, or is due at its port. -/
def Accounted (due : Port → Fin 113 → Prop) (s u : State) : Prop :=
  ∀ p i, i ∈ ((finishEvent s u).port p).changes → i ∈ (s.port p).changes ∨ itemChanged s (finishEvent s u) i ∨ due p i

section
variable {due : Port → Fin 113 → Prop} {s u v : State}

theorem blockChanged.ended {i : Fin 113} (h : blockChanged s u i) (e : EventEnd u v) : itemChanged s v i := by
  unfold blockChanged at h
  unfold itemChanged
  rw [e.signals, e.gauges, e.tacho, e.dist]
  rcases h with h | h | h | h
  exacts [.inl h, .inr (.inr (.inl h)), .inr (.inr (.inr (.inl h))), .inr (.inr (.inr (.inr (.inl h))))]

theorem lampChanged.item {i : Fin 113} (h : lampChanged s u i) : itemChanged s u i := .inr (.inl h)

/-- The end of an event accounts for what it reports, where the telltales that it changes differ from before, or are due. -/
theorem accounted_of
    (reports : ∀ p i, i ∈ (u.port p).changes → i ∈ (s.port p).changes ∨ blockChanged s u i ∨ lampChanged s (finishEvent s u) i ∨ due p i)
    (fresh : ∀ i, lampChanged u (finishEvent s u) i → lampChanged s (finishEvent s u) i ∨ ∀ p, due p i) : Accounted due s u := by
  intro p i hi
  have ended := finishEvent_eventEnd s u
  rcases (finishEvent_reports s u).1 p i hi with h | ⟨k, e, d⟩ | h
  · rcases reports p i h with h | h | h | h
    · exact .inl h
    · exact .inr (.inl (h.ended ended))
    · exact .inr (.inl h.item)
    · exact .inr (.inr h)
  · rcases fresh i ⟨k, e, d⟩ with h | h
    · exact .inr (.inl h.item)
    · exact .inr (.inr (h p))
  · exact .inr (.inl (.inr (.inr (.inr (.inr (.inr h))))))

/-- A command that leaves every telltale as shown to the end of its event. -/
theorem accounted_shown (shown : SameShown s u) (reports : ∀ p i, i ∈ (u.port p).changes → i ∈ (s.port p).changes ∨ blockChanged s u i ∨ due p i) :
    Accounted due s u :=
  accounted_of (fun p i h => (reports p i h).imp id (Or.imp id .inr))
    fun _ ⟨k, e, d⟩ => .inl ⟨k, e, shown.left' d⟩

theorem SameShown.right (h : SameShown u v) {k : Fin 40} (d : TelltaleDiffers s.lamps.telltales[k] u.lamps.telltales[k]) :
    TelltaleDiffers s.lamps.telltales[k] v.lamps.telltales[k] := by
  obtain ⟨hr, hs, hf, hd⟩ := not_telltaleDiffers.1 (h k)
  simpa only [TelltaleDiffers, hr, hs, hf, hd] using d

/-- A command that settles the telltale unit before the end of its event. -/
theorem accounted_settled (settled : SameShown u (finishEvent s u))
    (reports : ∀ p i, i ∈ (u.port p).changes → i ∈ (s.port p).changes ∨ blockChanged s u i ∨ lampChanged s u i ∨ due p i) : Accounted due s u :=
  accounted_of (fun p i h => (reports p i h).imp id (Or.imp id (Or.imp (fun ⟨k, e, d⟩ => ⟨k, e, settled.right d⟩) id)))
    fun _ ⟨k, _, d⟩ => absurd d (settled k)

/-- A command that changes a driver's fault, which the end of the event keeps, and nothing else that a telltale shows. -/
theorem accounted_faults
    (faults : ∀ k : Fin 40, u.lamps.telltales[k].resolved = s.lamps.telltales[k].resolved ∧ u.lamps.telltales[k].shown = s.lamps.telltales[k].shown ∧
      u.lamps.telltales[k].failed = s.lamps.telltales[k].failed)
    (reports : ∀ p i, i ∈ (u.port p).changes → i ∈ (s.port p).changes ∨ blockChanged s u i ∨ lampChanged s u i ∨ due p i) : Accounted due s u := by
  have kept (k : Fin 40) : (finishEvent s u).lamps.telltales[k].fault = u.lamps.telltales[k].fault :=
    ((finishEvent_eventEnd s u).lamps.telltales k).2.2.1
  refine accounted_of (fun p i h => (reports p i h).imp id (Or.imp id (Or.imp (fun ⟨k, e, d⟩ => ⟨k, e, ?_⟩) id)))
    fun i ⟨k, e, d⟩ => .inl ⟨k, e, ?_⟩ <;> obtain ⟨hr, hs, hf⟩ := faults k
  · unfold TelltaleDiffers at d ⊢
    rw [hr, hs, hf, kept k] at d
    simp only [ne_eq, not_true_eq_false, false_or] at d
    rcases d with d | d | d
    exacts [.inl d, .inr (.inl d), .inr (.inr (.inr d))]
  · unfold TelltaleDiffers at d ⊢
    rw [hr, hs, hf] at d
    rw [kept k]
    simp only [ne_eq, not_true_eq_false, false_or, or_false] at d
    exact .inr (.inr (.inl d))

end

/-! ## The signal table -/

/-- A gauge that one of the views handed to it has changed (R92 to R94). -/
def gaugeHanded (s u : State) (i : Fin 113) : Prop :=
  ∃ (k : Fin 6) (gs : GaugeSettings) (views : List View), i = gaugeItem k ∧ s.gauges[k].settings = some gs ∧
    (∀ v ∈ views, v = s.signals[gs.desc.entry].view ∨ v = u.signals[gs.desc.entry].view) ∧
    s.gauges[k].changedBy s.cycle.state views

/-- What an operation of the signal table reports: entries that differ, and gauges that it has changed. -/
structure TableReports (s u : State) : Prop where
  only : ReportedOnly ofTable s u
  entries : EntriesReported s u
  gauges : ReportedOnly (fun i => ∀ k : Fin 6, i = gaugeItem k → gaugeHanded s u i) s u
  shown : SameShown s u
  tacho : u.tacho = s.tacho

theorem ofTable_cases {i : Fin 113} (h : ofTable i) : (∃ e, i = signalItem e) ∨ ∃ k, i = gaugeItem k := by
  rcases h with h | ⟨h, h'⟩
  · exact .inl ⟨⟨i, h⟩, rfl⟩
  · exact .inr ⟨⟨i - 104, by omega⟩, Fin.ext (by show (i : Nat) = 104 + (i - 104); omega)⟩

section
variable {s u v : State}

theorem TableReports.accounts (h : TableReports s u) : ReportedOnly (fun i => (∃ e : Fin 64, i = signalItem e ∧ EntryDiffers s.signals[e] u.signals[e]) ∨ gaugeHanded s u i) s u := by
  intro p i hi
  rcases h.only p i hi with k | k
  · exact .inl k
  · rcases ofTable_cases k with ⟨e, rfl⟩ | ⟨g, rfl⟩
    · exact (h.entries p _ hi).imp id fun d => .inl ⟨e, rfl, d e rfl⟩
    · exact (h.gauges p _ hi).imp id fun d => .inr (d g rfl)

theorem TableReports.refl (s : State) : TableReports s s := ⟨.refl s _, .refl s _, .refl s _, .refl s, rfl⟩

/-- What the consumers took, by the views of the recomputed entries. -/
theorem gaugesReported_of_followed {b : Bool} {fed : Fin 64 → Prop} (h : Followed b fed s u) :
    ReportedOnly (fun i => ∀ k : Fin 6, i = gaugeItem k → gaugeHanded s u i) s u := by
  obtain ⟨handed, views, took⟩ := h.consumers
  refine took.silent.mono fun i hi k e => ?_
  obtain ⟨gs, settings, changed⟩ := hi k e
  exact ⟨k, gs, _, e, settings, (views gs.desc.entry).2.2, changed⟩

theorem TableReports.of {b : Bool} {fed : Fin 64 → Prop} (only : ReportedOnly ofTable s u) (entries : EntriesReported s u) (shown : SameShown s u)
    (table : TableEvent s u) (followed : Followed b fed s u) : TableReports s u :=
  ⟨only, entries, gaugesReported_of_followed followed, shown, table.tacho⟩

end

section
variable (s : State)

theorem tableReports_deliver (src : Source) (x : Update) : TableReports s (deliver src x s) := by
  by_cases h : s.cycle.state = .load
  · rw [deliver_load src x s h]
    exact .refl s
  · have delivered := deliver_spec src x s h
    exact .of (deliver_only _ _ s) (deliver_reported _ _ s) (deliver_shown _ _ s) delivered.table delivered.followed

theorem tableReports_ageTable : TableReports s (ageTable s) :=
  .of (.forAll s _ fun i s => changeSlots_only _ i s) (ageTable_reported s) (.forAll (fun i s => changeSlots_shown _ i s) s) (ageTable_spec s).1
    (ageTable_followed s)

theorem tableReports_forceLost (p : Port) : TableReports s (forceLost p s) :=
  .of (.forAll s _ fun i s => changeSlots_only _ i s) (forceLost_reported p s) (.forAll (fun i s => changeSlots_shown _ i s) s) (forceLost_spec p s).1
    (forceLost_followed p s)

theorem tableReports_reclaimExpiry (i : Fin 64) : TableReports s (reclaimExpiry i s) := by
  by_cases h : s.signals[i].reclaim.isRunning = true
  · refine .of ?_ (reclaimExpiry_reported i s) ?_ (reclaimExpiry_spec i s h).table (reclaimExpiry_followed i s h)
    all_goals
      unfold reclaimExpiry
      rw [if_pos h]
    · exact (ReportedOnly.of_ports (t := setEntry i _ s) _ (setEntry_ports ..)).trans (recompute_only _ _ i _)
    · exact (SameShown.of_lamps (t := setEntry i _ s) (setEntry_lamps ..)).trans (recompute_shown _ _ i _)
  · have same : reclaimExpiry i s = s := if_neg h
    rw [same]
    exact .refl s

theorem tableReports_disagreementExpiry (i : Fin 64) : TableReports s (disagreementExpiry i s) := by
  cases h : s.signals[i].disagreement with
  | running ms =>
    have entries := disagreementExpiry_reported i s
    rw [disagreementExpiry_running h] at entries ⊢
    have marked := setEntry_here i { s.signals[i] with disagreement := .expired, disagree := true } s
    have views (e : Fin 64) : (setEntry i { s.signals[i] with disagreement := .expired, disagree := true } s).signals[e].view = s.signals[e].view := by
      by_cases he : e = i
      · subst he
        rw [marked]
      · rw [setEntry_other _ s he]
    have blocks : (setEntry i { s.signals[i] with disagreement := .expired, disagree := true } s).lamps = s.lamps ∧
        (setEntry i { s.signals[i] with disagreement := .expired, disagree := true } s).tacho = s.tacho ∧
        (setEntry i { s.signals[i] with disagreement := .expired, disagree := true } s).ports = s.ports ∧
        (setEntry i { s.signals[i] with disagreement := .expired, disagree := true } s).gauges = s.gauges ∧
        (setEntry i { s.signals[i] with disagreement := .expired, disagree := true } s).cycle = s.cycle := ⟨rfl, rfl, rfl, rfl, rfl⟩
    generalize setEntry i { s.signals[i] with disagreement := .expired, disagree := true } s = m at marked views blocks entries ⊢
    obtain ⟨lamps, tacho, ports, gauges, cycle⟩ := blocks
    have stepped : Stepped false i True m (recompute s.signals[i] false i m) := by
      have := recompute_stepped (s := m) (i := i) (e := m.signals[i]) s.signals[i] false trivial rfl rfl rfl (by rw [marked]) (.inr rfl)
      rwa [setEntry_self] at this
    have table := (recompute_spec s.signals[i] false i m).table
    have handed := gaugesReported_of_followed (stepped.followed table)
    refine ⟨(ReportedOnly.of_ports _ ports).trans (recompute_only _ _ i _), entries, (ReportedOnly.of_ports _ ports).trans (handed.mono fun j hj k e => ?_),
      (SameShown.of_lamps lamps).trans (recompute_shown _ _ i _), table.tacho.trans tacho⟩
    obtain ⟨k', gs, l, e', settings, from_, changed⟩ := hj k e
    rw [gauges] at settings changed
    rw [cycle] at changed
    exact ⟨k', gs, l, e', settings, fun v hv => views gs.desc.entry ▸ from_ v hv, changed⟩
  | idle | expired =>
    have same : disagreementExpiry i s = s := by simp only [disagreementExpiry, h]
    rw [same]
    exact .refl s

end

/-! ## What an operation reports besides -/

/-- From `s` to `u` nothing is reported, and what the items show stands, but perhaps of the distance counter, the gauges and the cycle. -/
structure Quiet (s u : State) : Prop where
  shown : SameShown s u
  silent : ReportedOnly (fun _ => False) s u
  signals : u.signals = s.signals
  tacho : u.tacho = s.tacho

/-- The same of the distance counter, the gauges and the cycle state. -/
structure Beside (s u : State) : Prop extends Quiet s u where
  dist : u.dist = s.dist
  gauges : u.gauges = s.gauges
  state : u.cycle.state = s.cycle.state

section
variable {s u v : State} {due : Port → Fin 113 → Prop}

theorem Quiet.refl (s : State) : Quiet s s := ⟨.refl s, .refl s _, rfl, rfl⟩

theorem Quiet.trans (a : Quiet s u) (b : Quiet u v) : Quiet s v :=
  ⟨a.shown.trans b.shown, a.silent.trans b.silent, b.signals.trans a.signals, b.tacho.trans a.tacho⟩

theorem Beside.refl (s : State) : Beside s s := ⟨.refl s, rfl, rfl, rfl⟩

theorem Beside.trans (a : Beside s u) (b : Beside u v) : Beside s v := ⟨a.toQuiet.trans b.toQuiet, b.dist.trans a.dist, b.gauges.trans a.gauges, b.state.trans a.state⟩

theorem Quiet.accounted (h : Quiet s u) : Accounted due s u := accounted_shown h.shown fun p i hi => .inl ((h.silent p i hi).resolve_right id)

theorem quiet_ite {c : Prop} [Decidable c] (hu : c → Quiet s u) (hv : ¬c → Quiet s v) : Quiet s (if c then u else v) := by
  split
  · exact hu ‹_›
  · exact hv ‹_›

theorem TableReports.after (a : Beside s u) (b : TableReports u v) : TableReports s v where
  only := (a.silent.mono fun _ => False.elim).trans b.only
  entries := (a.silent.mono fun _ => False.elim).trans (b.entries.mono fun _ h e he => a.signals ▸ h e he)
  gauges := (a.silent.mono fun _ => False.elim).trans <| b.gauges.mono fun i h k e => by
    obtain ⟨k', gs, views, e', settings, from_, changed⟩ := h k e
    rw [a.gauges] at settings changed
    rw [a.state] at changed
    rw [a.signals] at from_
    exact ⟨k', gs, views, e', settings, from_, changed⟩
  shown := a.shown.trans b.shown
  tacho := b.tacho.trans a.tacho

theorem TableReports.before (a : TableReports s u) (b : Quiet u v) : TableReports s v where
  only := a.only.trans (b.silent.mono fun _ => False.elim)
  entries := by
    refine ReportedOnly.trans (a.entries.mono fun _ h e he => ?_) (b.silent.mono fun _ => False.elim)
    rw [b.signals]
    exact h e he
  gauges := by
    refine ReportedOnly.trans (a.gauges.mono fun i h k e => ?_) (b.silent.mono fun _ => False.elim)
    unfold gaugeHanded
    rw [b.signals]
    exact h k e
  shown := a.shown.trans b.shown
  tacho := b.tacho.trans a.tacho

/-- An operation that leaves the telltales and the ports, the signal table, the gauges, the cycle, the readout and the distance counter. -/
theorem Beside.of_eq (hl : u.lamps = s.lamps) (hp : u.ports = s.ports) (hs : u.signals = s.signals) (ht : u.tacho = s.tacho) (hd : u.dist = s.dist)
    (hg : u.gauges = s.gauges) (hc : u.cycle.state = s.cycle.state) : Beside s u :=
  ⟨⟨.of_lamps hl, .of_ports _ hp, hs, ht⟩, hd, hg, hc⟩

end

section
variable (s : State)

theorem beside_setConv (x : Converter) : Beside s (s.setConv x) := .of_eq rfl rfl rfl rfl rfl rfl rfl
theorem beside_setSwitches (x : SwitchBank) : Beside s (s.setSwitches x) := .of_eq rfl rfl rfl rfl rfl rfl rfl
theorem beside_setCond (c : Condition) (b : Bool) : Beside s (setCond c b s) := .of_eq rfl rfl rfl rfl rfl rfl rfl
theorem beside_setChannel (i : Fin 4) (x : PulseChannel) : Beside s (setChannel i x s) := .of_eq rfl rfl rfl rfl rfl rfl rfl
theorem beside_setInput (i : Fin 24) (x : SwitchInput) : Beside s (setInput i x s) := .of_eq rfl rfl rfl rfl rfl rfl rfl
theorem beside_setPass (p : Option Pass) : Beside s (setPass p s) := .of_eq rfl rfl rfl rfl rfl rfl rfl
theorem beside_setScanState (i : Fin 16) (z : ScanState) : Beside s (setScanState i z s) := beside_setConv ..

theorem beside_setCycle {x : CycleController} (h : x.state = s.cycle.state) : Beside s (s.setCycle x) := .of_eq rfl rfl rfl rfl rfl rfl h

theorem beside_signalEvent (ev : WaitEvent) : Beside s (signalEvent ev s) := ⟨⟨.of_lamps rfl, .signalEvent s _ ev, rfl, rfl⟩, rfl, rfl, rfl⟩

theorem beside_setPort {p : Port} {x : PortState} (h : x.changes = (s.port p).changes) : Beside s (setPort p x s) :=
  ⟨⟨.of_lamps rfl, .setPort s _ fun _ k => h ▸ k, rfl, rfl⟩, rfl, rfl, rfl⟩

theorem beside_addWakeCause (c : WakeCause) : Beside s (addWakeCause c s) := by
  unfold addWakeCause
  split
  · cases c <;> exact beside_setCycle s rfl
  · exact .refl s

theorem quiet_judgePassage : Quiet s (judgePassage s) := by
  have changed (c : CycleState) (u : State) : Quiet u (changeCycle c u) :=
    .trans (u := u.setCycle { u.cycle with state := c }) ⟨.of_lamps rfl, .of_ports _ rfl, rfl, rfl⟩ (beside_signalEvent _ .cycle).toQuiet
  unfold judgePassage
  split
  · exact quiet_ite (fun _ => changed ..) (fun _ => .refl s)
  · exact quiet_ite (fun _ => (beside_setConv ..).toQuiet.trans (changed ..)) (fun _ => .refl s)
  all_goals exact .refl s

end

end Sys2Proof.Machine
end

section
/-! Proofs: the reports of each command accounted for. -/

namespace Sys2Proof.Machine

/-- What a command may report besides, from the state before it to the state at the end of its event. -/
def dueOf (c : Instr) (s u : State) : Port → Fin 113 → Prop := ReportDue c s (finishEvent s u)

section
variable {c : Instr} {s u v : State} {p : Port} {i : Fin 113}

/-! ## What is due -/

theorem dueOf_handed (hc : recomputes c) (h : gaugeHanded s u i) : dueOf c s u p i := by
  unfold gaugeHanded at h
  rw [← (finishEvent_eventEnd s u).signals] at h
  exact .inr (.inr (.inr (.inr (.inr (.inl ⟨hc, h⟩)))))

theorem dueOf_recovered (hl : (s.port p).link = .lost) (hu : (u.port p).link = .up) (hw : (u.port p).watch[i] = true) : dueOf c s u p i := by
  have kept := (finishEvent_eventEnd s u).ports.kept p
  exact .inl ⟨hl, kept.link.trans hu, by rw [kept.watch]; exact hw⟩

theorem dueOf_commit (h : (i : Nat) < 110) : dueOf .commitEnd s u p i := .inr (.inl ⟨rfl, h⟩)

theorem dueOf_acceptance (k : Fin 24) (j : Fin 40) : dueOf (.debounceTimerExpiry k) s u p (telltaleItem j) := .inr (.inr (.inl ⟨k, rfl, .inl ⟨j, rfl⟩⟩))

theorem dueOf_ignition (j : Fin 6) : dueOf (.debounceTimerExpiry 23) s u p (gaugeItem j) := .inr (.inr (.inl ⟨23, rfl, .inr ⟨rfl, j, rfl⟩⟩))

theorem dueOf_testFail {zero full : AdcCode} (h : ofTable i) : dueOf (.testConversionsDone zero full) s u p i :=
  .inr (.inr (.inr (.inl ⟨⟨zero, full, rfl⟩, h⟩)))

theorem dueOf_supply {code : AdcCode} (h : u.conv.supply ≠ s.conv.supply) (j : Fin 6) : dueOf (.conversionDone code) s u p (gaugeItem j) := by
  rw [← (finishEvent_eventEnd s u).conv] at h
  exact .inr (.inr (.inr (.inr (.inl ⟨⟨code, rfl⟩, h, j, rfl⟩))))

theorem dueOf_retry (k : Fin 40) (shorted : Bool) : dueOf (.retryTimerExpiry k shorted) s u p (telltaleItem k) :=
  .inr (.inr (.inr (.inr (.inr (.inr (.inl ⟨k, shorted, rfl, rfl⟩))))))

theorem dueOf_minute (h : u.tacho.drivingSeconds < s.tacho.drivingSeconds) : dueOf .estimationTimerExpiry s u p tachoItem := by
  rw [← (finishEvent_eventEnd s u).tacho] at h
  exact .inr (.inr (.inr (.inr (.inr (.inr (.inr (.inl ⟨rfl, rfl, h⟩)))))))

/-! ## Commands of the signal table -/

theorem accounted_table (hc : recomputes c) (h : TableReports s u) : Accounted (dueOf c s u) s u :=
  accounted_shown h.shown fun p i hi => (h.accounts p i hi).imp id (Or.imp .inl (dueOf_handed hc))

end

section
variable (s : State)

theorem accounted_ageTable : Accounted (dueOf .agingTimerExpiry s (ageTable s)) s (ageTable s) := accounted_table (.inl rfl) (tableReports_ageTable s)

theorem accounted_reclaimExpiry (i : Fin 64) : Accounted (dueOf (.reclaimTimerExpiry i) s (reclaimExpiry i s)) s (reclaimExpiry i s) :=
  accounted_table (.inr (.inl ⟨i, rfl⟩)) (tableReports_reclaimExpiry s i)

theorem accounted_disagreementExpiry (i : Fin 64) :
    Accounted (dueOf (.disagreementTimerExpiry i) s (disagreementExpiry i s)) s (disagreementExpiry i s) :=
  accounted_table (.inr (.inr (.inl ⟨i, rfl⟩))) (tableReports_disagreementExpiry s i)

/-! ## Pulse unit -/

theorem quiet_putDistance {d : Distance} (h : distanceChanged s.dist d = false) : Quiet s (putDistance d s) := by
  have same : putDistance d s = setCond .odoMismatch d.mismatch (s.setDist d) := if_neg (by rw [h]; decide)
  rw [same]
  exact ⟨.of_lamps rfl, .of_ports _ rfl, rfl, rfl⟩

theorem quiet_takePulseSettings (c : Fin 4) (st : PulseSettings) : Quiet s (takePulseSettings c st s) :=
  quiet_ite (fun _ => (beside_setChannel s c _).toQuiet.trans (quiet_putDistance _ (takeStepSize_unreported ..))) (fun _ => (beside_setChannel ..).toQuiet)

theorem quiet_startGate (c : Fin 4) : Quiet s (startGate c s) := by
  unfold startGate
  split
  · exact (beside_setChannel ..).toQuiet
  · exact .refl s

theorem quiet_takeOverPulse (c : Fin 4) : Quiet s (takeOverPulse c s) := by
  unfold takeOverPulse
  split
  · exact quiet_takePulseSettings ..
  · exact .refl s

theorem tableReports_onGate (c : Fin 4) : TableReports s (onGate c s) := by
  unfold onGate
  split
  · unfold gateExpiry
    dsimp only
    have delivered (x : PulseChannel) (u : Update) : TableReports s (deliver (.pulse c) u (setChannel c x s)) :=
      .after (beside_setChannel s c x) (tableReports_deliver ..)
    refine .before ?_ ((quiet_takeOverPulse _ c).trans (quiet_startGate ..))
    split
    · exact (delivered ..).before (beside_signalEvent ..).toQuiet
    · exact delivered ..
  · exact .refl s

theorem accounted_onGate (c : Fin 4) (us : Nat) :
    Accounted (dueOf (.gateExpiry c us) s (onGate c (advanceCounter c us s))) s (onGate c (advanceCounter c us s)) :=
  accounted_table (.inr (.inr (.inr (.inl ⟨c, us, rfl⟩)))) (.after (beside_setChannel ..) (tableReports_onGate ..))

/-- The distance counter is reported where it has changed (R56). -/
theorem putDistance_reports {p : Port} {i : Fin 113} (d : Distance) (h : i ∈ ((putDistance d s).port p).changes) :
    i ∈ (s.port p).changes ∨ (i = distanceItem ∧ DistanceDiffers s.dist (putDistance d s).dist) := by
  refine (putDistance_only d s p i h).imp id fun ⟨e, changed⟩ => ⟨e, ?_⟩
  have dist : (putDistance d s).dist = d := by
    unfold putDistance
    dsimp only
    split <;> rfl
  rw [dist]
  exact (distanceChanged_iff _ _).1 changed

theorem putDistance_shown (d : Distance) : SameShown s (putDistance d s) := by
  refine .of_lamps ?_
  unfold putDistance
  dsimp only
  split <;> rfl

theorem accounted_onEdge (due : Port → Fin 113 → Prop) (c : Fin 4) (edge : EdgeKind) (us : Nat) : Accounted due s (onEdge c edge (advanceCounter c us s)) := by
  have counted : Beside s (advanceCounter c us s) := beside_setChannel ..
  generalize advanceCounter c us s = m at counted ⊢
  unfold onEdge
  split
  · split
    · unfold capturedEdge
      dsimp only
      split
      · split
        · have accepted := counted.trans (beside_setChannel m c m.pulse[c].accept)
          generalize setChannel c m.pulse[c].accept m = v at accepted ⊢
          refine accounted_shown (accepted.shown.trans (putDistance_shown v _)) fun p i h => ?_
          rcases putDistance_reports v _ h with k | ⟨e, d⟩
          · exact .inl ((accepted.silent p i k).resolve_right id)
          · exact .inr (.inl (.inr (.inr (.inr ⟨e, accepted.dist ▸ d⟩))))
        · exact (counted.trans (beside_setChannel ..)).accounted
      · exact (counted.trans (beside_setChannel ..)).accounted
    · exact counted.accounted
  · exact counted.accounted

/-! ## Converter -/

theorem quiet_setConv (x : Converter) : Quiet s (s.setConv x) := (beside_setConv s x).toQuiet

theorem quiet_takeOverConverter : Quiet s (takeOverConverter s) := by
  unfold takeOverConverter
  split
  · exact quiet_setConv ..
  all_goals exact .refl s

theorem quiet_beginPass (parked : Bool) : Quiet s (beginPass parked s) := by
  unfold beginPass
  split
  · exact quiet_setConv ..
  · dsimp only
    split
    · exact (quiet_takeOverConverter s).trans (beside_setPass ..).toQuiet
    · exact quiet_takeOverConverter s

theorem quiet_onParkedTimer : Quiet s (onParkedTimer s) := by
  refine quiet_ite (fun _ => (quiet_beginPass s true).trans ?_) (fun _ => .refl s)
  unfold renewParkedTimer
  split
  · exact quiet_setConv ..
  · exact .refl _

theorem quiet_onSettled : Quiet s (onSettled s) := by
  unfold onSettled
  split
  · exact quiet_ite (fun _ => (beside_setPass ..).toQuiet) (fun _ => .refl s)
  · exact .refl s

/-- Failed tests deliver one update after another (R63). -/
theorem onTestsDone_reports (zero full : AdcCode) : SameShown s (onTestsDone zero full s) ∧ ReportedOnly ofTable s (onTestsDone zero full s) := by
  have quiet {u v : State} (h : Quiet u v) : SameShown u v ∧ ReportedOnly ofTable u v := ⟨h.shown, h.silent.mono fun _ => False.elim⟩
  have failed (u : State) (i : Fin 16) : SameShown u (deliverTestFail i u) ∧ ReportedOnly ofTable u (deliverTestFail i u) := by
    unfold deliverTestFail
    split
    · split
      · exact quiet (.refl u)
      · exact ⟨deliver_shown _ _ u, deliver_only _ _ u⟩
    · exact quiet (.refl u)
  unfold onTestsDone
  split
  next p _ =>
    split
    · unfold endTests
      split
      · exact quiet ((beside_setCond ..).trans (beside_setPass ..)).toQuiet
      · have raised := quiet (beside_setCond s .adcTestFail true).toQuiet
        generalize setCond .adcTestFail true s = u at raised ⊢
        have each : SameShown u (p.todo.foldl (fun s i => deliverTestFail i s) u) ∧ ReportedOnly ofTable u (p.todo.foldl (fun s i => deliverTestFail i s) u) :=
          ⟨foldl_rel SameShown.refl (fun _ _ _ => .trans) _ (fun s i => (failed s i).1) _ u, .foldl u _ (fun s i => (failed s i).2) _⟩
        have left := quiet (beside_setPass (p.todo.foldl (fun s i => deliverTestFail i s) u) none).toQuiet
        exact ⟨(raised.1.trans each.1).trans left.1, (raised.2.trans each.2).trans left.2⟩
    · exact quiet (.refl s)
  · exact quiet (.refl s)

theorem accounted_onTestsDone (zero full : AdcCode) :
    Accounted (dueOf (.testConversionsDone zero full) s (onTestsDone zero full s)) s (onTestsDone zero full s) :=
  accounted_shown (onTestsDone_reports ..).1 fun p i h => ((onTestsDone_reports ..).2 p i h).imp id fun k => .inr (dueOf_testFail k)

/-- What a conversion reports: entries that differ, gauges that a delivered value has changed, and gauges that the supply state holds or lets go. -/
structure ConversionReports (s u : State) : Prop where
  shown : SameShown s u
  reports : ReportedOnly (fun i => (∃ e : Fin 64, i = signalItem e ∧ EntryDiffers s.signals[e] u.signals[e]) ∨ gaugeHanded s u i ∨
    (u.conv.supply ≠ s.conv.supply ∧ ∃ j, i = gaugeItem j)) s u

theorem TableReports.conversion {s u : State} (h : TableReports s u) : ConversionReports s u :=
  ⟨h.shown, h.accounts.mono fun _ => Or.imp id .inl⟩

theorem Quiet.conversion {s u : State} (h : Quiet s u) : ConversionReports s u := ⟨h.shown, h.silent.mono fun _ => False.elim⟩

theorem ConversionReports.before {s u v : State} (a : ConversionReports s u) (b : Quiet u v) (hs : v.conv.supply = u.conv.supply) :
    ConversionReports s v := by
  refine ⟨a.shown.trans b.shown, .trans (a.reports.mono fun i h => ?_) (b.silent.mono fun _ => False.elim)⟩
  unfold gaugeHanded at h ⊢
  rwa [b.signals, hs]

theorem forGauges_only (f : View → Gauge → Gauge) : ReportedOnly (fun i => ∃ j, i = gaugeItem j) s (forGauges f s) :=
  .forAll s _ fun i s => (putGauge_reported i _ s).2.2.mono fun _ h => ⟨i, h.1⟩

/-- A change of the supply state: only then are gauges held or let go (R103, R104). -/
theorem changeSupply_reports (new : Supply) (n : Nat) :
    SameShown s (changeSupply new n s) ∧ (changeSupply new n s).signals = s.signals ∧
      ReportedOnly (fun i => (changeSupply new n s).conv.supply ≠ s.conv.supply ∧ ∃ j, i = gaugeItem j) s (changeSupply new n s) := by
  have supply : (changeSupply new n s).conv.supply = new := (changeSupply_becomes new n s).table.supply
  rw [supply]
  unfold changeSupply
  dsimp only
  have base : Quiet s (setCond .supplyHigh (new == .high) (setCond .supplyLow (new == .low) (s.setConv { s.conv with supply := new, lowCount := n }))) :=
    ⟨.of_lamps rfl, .of_ports _ rfl, rfl, rfl⟩
  generalize setCond .supplyHigh (new == .high) (setCond .supplyLow (new == .low) (s.setConv { s.conv with supply := new, lowCount := n })) = x at base
  have moved (f : View → Gauge → Gauge) (h : new ≠ s.conv.supply) : SameShown s (forGauges f x) ∧ (forGauges f x).signals = s.signals ∧
      ReportedOnly (fun i => new ≠ s.conv.supply ∧ ∃ j, i = gaugeItem j) s (forGauges f x) := by
    obtain ⟨signals, lamps⟩ := forGauges_keeps f x
    exact ⟨base.shown.trans (.of_lamps lamps), signals.trans base.signals,
      (base.silent.mono fun _ => False.elim).trans ((forGauges_only x f).mono fun _ k => ⟨h, k⟩)⟩
  split
  next h => exact moved _ fun k => h.1 (k ▸ h.2)
  · split
    next h => exact moved _ fun k => h.2 (k ▸ h.1)
    · exact ⟨base.shown, base.signals, base.silent.mono fun _ => False.elim⟩

theorem TableReports.supply {s m : State} (h : TableReports s m) (hs : m.conv.supply = s.conv.supply) (new : Supply) (n : Nat) :
    ConversionReports s (changeSupply new n m) := by
  obtain ⟨shown, signals, reports⟩ := changeSupply_reports m new n
  refine ⟨h.shown.trans shown, (h.accounts.mono fun i k => ?_).trans (reports.mono fun i k => .inr (.inr (hs ▸ k)))⟩
  rw [signals]
  unfold gaugeHanded at k ⊢
  rw [signals]
  exact k.imp id .inl

theorem deliver_supply (src : Source) (x : Update) : (deliver src x s).conv.supply = s.conv.supply := by
  by_cases h : s.cycle.state = .load
  · rw [deliver_load src x s h]
  · exact (deliver_spec src x s h).table.supply

theorem conversionReports_scanResult (st : ConverterSettings) (parked : Bool) (i : Fin 16) (d : ScanSlot) (avg : Nat) :
    ConversionReports s (scanResult st parked i d avg s) := by
  have fault (c : FaultCause) : TableReports s (deliver (.analog d.channel) (.fault c) (clearRefuel i s)) :=
    .after (beside_setScanState s i _) (tableReports_deliver ..)
  have value (z : ScanState) (v : Int) : TableReports s (deliver (.analog d.channel) (.value v) (setScanState i z s)) :=
    .after (beside_setScanState s i z) (tableReports_deliver ..)
  have judged (z : ScanState) (v w : Int) : ConversionReports s (supplyJudgement w (deliver (.analog d.channel) (.value v) (setScanState i z s))) := by
    have kept := deliver_supply (setScanState i z s) (.analog d.channel) (.value v)
    have told := value z v
    generalize deliver (.analog d.channel) (.value v) (setScanState i z s) = m at kept told ⊢
    exact told.supply kept _ _
  unfold scanResult
  split
  · exact (TableReports.refl s).conversion
  · split
    · dsimp only
      split
      · exact ((fault _).before (beside_addWakeCause ..).toQuiet).conversion
      · exact (fault _).conversion
    · split
      · exact (fault _).conversion
      · dsimp only
        split
        · exact judged ..
        · exact (value ..).conversion

theorem accounted_onConversion (code : AdcCode) : Accounted (dueOf (.conversionDone code) s (onConversion code s)) s (onConversion code s) := by
  have told : ConversionReports s (onConversion code s) := by
    unfold onConversion
    split
    · unfold endConversion
      split
      · exact (beside_setPass ..).toQuiet.conversion
      · unfold takeConversion
        split
        · split
          · exact (beside_setPass ..).toQuiet.conversion
          · exact (conversionReports_scanResult ..).before (beside_setPass ..).toQuiet rfl
        · exact (Quiet.refl s).conversion
        · exact (Quiet.refl s).conversion
      all_goals exact (Quiet.refl s).conversion
    · exact (Quiet.refl s).conversion
  refine accounted_shown told.shown fun p i h => (told.reports p i h).imp id ?_
  rintro (k | k | ⟨k, j, rfl⟩)
  exacts [.inl (.inl k), .inr (dueOf_handed (.inr (.inr (.inr (.inr (.inl ⟨code, rfl⟩))))) k), .inr (dueOf_supply k j)]

end

end Sys2Proof.Machine
end

section
/-! Proofs: the reports of acceptances, gauges, telltales, the readout and the links accounted for. -/

namespace Sys2Proof.Machine

/-! ## The ignition events -/

/-- From `s` to `t` nothing but telltales and gauges are reported, and the entries and the readout stand. -/
structure Moved (s t : State) : Prop where
  signals : t.signals = s.signals
  tacho : t.tacho = s.tacho
  reports : ReportedOnly (fun i => (∃ j, i = telltaleItem j) ∨ ∃ j, i = gaugeItem j) s t

section
variable {s t u : State}

theorem Moved.refl (s : State) : Moved s s := ⟨rfl, rfl, .refl s _⟩

theorem Moved.trans (a : Moved s t) (b : Moved t u) : Moved s u := ⟨b.signals.trans a.signals, b.tacho.trans a.tacho, a.reports.trans b.reports⟩

theorem Quiet.moved (h : Quiet s t) : Moved s t := ⟨h.signals, h.tacho, h.silent.mono fun _ => False.elim⟩

theorem moved_ite {c : Prop} [Decidable c] (ht : c → Moved s t) (hu : ¬c → Moved s u) : Moved s (if c then t else u) := by
  split
  · exact ht ‹_›
  · exact hu ‹_›

end

section
variable (s : State)

theorem moved_settleUnits : Moved s (settleUnits true s) :=
  ⟨(settleUnits_eventEnd true s).signals, (settleUnits_eventEnd true s).tacho, (settleUnits_shown s).1.mono fun _ ⟨k, h, _⟩ => .inl ⟨k, h⟩⟩

theorem putGauge_tacho (i : Fin 6) (g : Gauge) : (putGauge i g s).tacho = s.tacho := by
  unfold putGauge
  dsimp only
  split
  · split <;> rfl
  · rw [(quiet_judgePassage _).tacho]
    split <;> rfl

theorem moved_putGauge (i : Fin 6) (g : Gauge) : Moved s (putGauge i g s) :=
  ⟨putGauge_signals .., putGauge_tacho .., (putGauge_reported i g s).2.2.mono fun _ h => .inr ⟨i, h.1⟩⟩

theorem moved_forGauges (f : View → Gauge → Gauge) : Moved s (forGauges f s) := forAll_rel Moved.refl (fun _ _ _ => .trans) _ (fun i s => moved_putGauge s i _) s

theorem moved_raiseGauge (i : Fin 6) : Moved s (raiseItem (gaugeItem i) s) := ⟨rfl, rfl, .raiseItem s (.inr ⟨i, rfl⟩)⟩

theorem moved_putTelltale (i : Fin 40) (x : Telltale) : Moved s (putTelltale i x s) := by
  rw [putTelltale_eq]
  exact moved_ite (fun _ => ⟨rfl, rfl, (ReportedOnly.of_ports (s := s) (t := withTelltale i x s) _ rfl).trans (.raiseItem _ (.inl ⟨i, rfl⟩))⟩)
    (fun _ => ⟨rfl, rfl, .of_ports _ rfl⟩)

theorem moved_changeCycle (c : CycleState) : Moved s (changeCycle c s) :=
  ⟨rfl, rfl, (ReportedOnly.of_ports (s := s) (t := s.setCycle { s.cycle with state := c }) _ rfl).trans (.signalEvent _ _ _)⟩

theorem moved_setCycle (x : CycleController) : Moved s (s.setCycle x) := ⟨rfl, rfl, .of_ports _ rfl⟩

theorem moved_startGauge (supply : Supply) (i : Fin 6) : Moved s (startGauge supply i s) :=
  (moved_ite (fun _ => moved_raiseGauge s i) (fun _ => .refl s)).trans (moved_putGauge _ i _)

theorem moved_enterStarting : Moved s (enterStarting s) := by
  unfold enterStarting openCycle
  dsimp only
  have opened := (moved_setCycle s { s.cycle with window := .running s.cycle.windowLength, causeSwitch := false, causeWindow := false }).trans
    (moved_changeCycle _ .starting)
  generalize changeCycle .starting _ = u at opened ⊢
  have started : Moved u (startGauges s.conv.supply u) := forAll_rel Moved.refl (fun _ _ _ => .trans) _ (fun i s' => moved_startGauge s' s.conv.supply i) u
  generalize startGauges s.conv.supply u = v at started ⊢
  have converter : Moved v (startConverter v) := (quiet_setConv ..).moved
  generalize startConverter v = w at converter ⊢
  exact opened.trans <| started.trans <| converter.trans <|
    forAll_rel Moved.refl (fun _ _ _ => .trans) _ (fun i s => moved_putTelltale s i _) w

theorem moved_enterStopping : Moved s (enterStopping s) := by
  unfold enterStopping
  have closed := (moved_setCycle s { s.cycle with window := .stopped }).trans (moved_changeCycle _ .stopping)
  generalize changeCycle .stopping _ = u at closed ⊢
  exact closed.trans ((moved_forGauges u _).trans (quiet_judgePassage _).moved)

theorem moved_ignitionEvent (on : Bool) : Moved s (ignitionEvent on s) := by
  unfold ignitionEvent
  dsimp only
  refine (moved_setCycle s { s.cycle with ignition := on }).trans ?_
  generalize s.setCycle { s.cycle with ignition := on } = u
  split
  · exact moved_ite (fun _ => moved_enterStarting u) (fun _ => .refl u)
  · exact moved_ite (fun _ => .refl u) (fun _ => moved_enterStopping u)
  · exact moved_ite (fun _ => .refl u) (fun _ => moved_enterStopping u)
  · exact moved_ite (fun _ => moved_enterStarting u) (fun _ => .refl u)
  · exact .refl u

/-! ## Acceptances -/

/-- What an acceptance at an input reports (R82). -/
def acceptanceReport (i : Fin 24) (s u : State) (j : Fin 113) : Prop :=
  (∃ e : Fin 64, j = signalItem e ∧ EntryDiffers s.signals[e] u.signals[e]) ∨ gaugeHanded s u j ∨ (∃ k, j = telltaleItem k) ∨
    (i = 23 ∧ ∃ k, j = gaugeItem k)

theorem acceptanceReport_kept {i : Fin 24} {s u v : State} (h : ReportedOnly (acceptanceReport i s u) s u) (signals : v.signals = u.signals)
    (reports : ReportedOnly (acceptanceReport i s v) u v) : ReportedOnly (acceptanceReport i s v) s v := by
  refine .trans (h.mono fun j k => ?_) reports
  unfold acceptanceReport gaugeHanded at k ⊢
  rwa [signals]

theorem acceptanceReport_quiet {i : Fin 24} {s u v : State} (h : ReportedOnly (acceptanceReport i s u) s u) (m : Quiet u v) :
    ReportedOnly (acceptanceReport i s v) s v := acceptanceReport_kept h m.signals (m.silent.mono fun _ => False.elim)

theorem acceptanceReport_settled {i : Fin 24} {s u : State} (h : ReportedOnly (acceptanceReport i s u) s u) :
    ReportedOnly (acceptanceReport i s (settleUnits true u)) s (settleUnits true u) :=
  acceptanceReport_kept h (moved_settleUnits u).signals ((settleUnits_shown u).1.mono fun _ ⟨k, e, _⟩ => .inr (.inr (.inl ⟨k, e⟩)))

theorem acceptanceReport_ignitionOf {i : Fin 24} {s u : State} (h : ReportedOnly (acceptanceReport i s u) s u) (b : Option Bool) (a : Bool) :
    ReportedOnly (acceptanceReport i s (ignitionOf i b a u)) s (ignitionOf i b a u) := by
  unfold ignitionOf
  split
  next k =>
    have moved := moved_ignitionEvent u a
    exact acceptanceReport_kept h moved.signals (moved.reports.mono fun j n => .inr (.inr (n.imp id fun g => ⟨k.1, g⟩)))
  · exact h

theorem onDebounce_reports (i : Fin 24) : ReportedOnly (acceptanceReport i s (onDebounce i s)) s (onDebounce i s) := by
  unfold onDebounce
  split
  next st _ =>
    split
    · unfold debounceExpiry
      dsimp only
      split
      · exact .of_ports _ rfl
      · generalize s.switches.inputs[i].accepted.map (logicalOf (st.polarity i)) = before
        generalize logicalOf (st.polarity i) s.switches.inputs[i].raw = after
        unfold acceptLevel presentLevel deliverLevel
        have delivered : ReportedOnly (acceptanceReport i s (deliver (.switch i) (levelUpdate after) s)) s (deliver (.switch i) (levelUpdate after) s) :=
          (tableReports_deliver s (.switch i) (levelUpdate after)).accounts.mono fun _ => Or.imp id .inl
        have presented := acceptanceReport_settled (acceptanceReport_quiet (acceptanceReport_settled delivered) (beside_setInput _ i
          { s.switches.inputs[i] with accepted := some s.switches.inputs[i].raw, debounce := .stopped }).toQuiet)
        have lit := acceptanceReport_ignitionOf presented before after
        unfold wakeOf
        split
        · exact acceptanceReport_quiet lit (beside_addWakeCause ..).toQuiet
        · exact lit
    · exact .refl s _
  · exact .refl s _

theorem accounted_onDebounce (i : Fin 24) : Accounted (dueOf (.debounceTimerExpiry i) s (onDebounce i s)) s (onDebounce i s) := by
  refine accounted_of (fun p j h => (onDebounce_reports s i p j h).imp id ?_) fun j ⟨k, e, _⟩ => .inr fun p => e ▸ dueOf_acceptance i k
  rintro (h | h | ⟨k, rfl⟩ | ⟨rfl, k, rfl⟩)
  · exact .inl (.inl h)
  · exact .inr (.inr (dueOf_handed (.inr (.inr (.inr (.inr (.inr (.inl ⟨i, rfl⟩)))))) h))
  · exact .inr (.inr (dueOf_acceptance i k))
  · exact .inr (.inr (dueOf_ignition k))

/-! ## Gauges -/

theorem accounted_putGauge (due : Port → Fin 113 → Prop) (k : Fin 6) (g : Gauge) : Accounted due s (putGauge k g s) := by
  refine accounted_shown (putGauge_shown k g s) fun p i h => ((putGauge_reported k g s).2.2 p i h).imp id fun ⟨e, d⟩ => .inl (.inr (.inl ⟨k, e, ?_⟩))
  rw [putGauge_gauges]
  simpa using d

/-! ## Telltales -/

theorem quiet_onFlasher (which : Flasher) : Quiet s (onFlasher which s) := by
  cases which <;> exact ⟨.of_telltales rfl, .of_ports _ rfl, rfl, rfl⟩

theorem quiet_changePlaying (phase : ChimePhase) (f : ChimeDesc → Chime → Chime) : Quiet s (changePlaying phase f s) := by
  unfold changePlaying
  split
  · exact quiet_ite (fun _ => ⟨.of_telltales rfl, .of_ports _ rfl, rfl, rfl⟩) (fun _ => .refl s)
  all_goals exact .refl s

theorem putTelltale_reports {p : Port} {i : Fin 113} (k : Fin 40) (x : Telltale) (h : i ∈ ((putTelltale k x s).port p).changes) :
    i ∈ (s.port p).changes ∨ lampChanged s (putTelltale k x s) i := by
  unfold lampChanged
  rw [putTelltale_lamps]
  rw [putTelltale_eq] at h
  split at h
  next d =>
    rcases ReportedOnly.raiseItem (N := (· = telltaleItem k)) (withTelltale k x s) rfl p i h with h | h
    · exact .inl h
    · exact .inr ⟨k, h, by simpa [withTelltale] using (telltaleChanged_iff _ _).1 d⟩
  · exact .inl h

/-- A telltale whose driver's part alone is replaced. -/
theorem putTelltale_patterns {k : Fin 40} {x : Telltale} (hr : x.resolved = s.lamps.telltales[k].resolved) (hs : x.shown = s.lamps.telltales[k].shown)
    (hf : x.failed = s.lamps.telltales[k].failed) (j : Fin 40) :
    (putTelltale k x s).lamps.telltales[j].resolved = s.lamps.telltales[j].resolved ∧
      (putTelltale k x s).lamps.telltales[j].shown = s.lamps.telltales[j].shown ∧
      (putTelltale k x s).lamps.telltales[j].failed = s.lamps.telltales[j].failed := by
  rw [putTelltale_lamps]
  by_cases e : k = j
  · subst e
    simp [withTelltale, hr, hs, hf]
  · have other : (s.lamps.telltales.set k x)[j] = s.lamps.telltales[j] := by
      simp only [Fin.getElem_fin]
      exact Vector.getElem_set_ne _ _ fun i => e (Fin.ext i)
    have here : (withTelltale k x s).lamps.telltales[j] = s.lamps.telltales[j] := other
    rw [here]
    exact ⟨rfl, rfl, rfl⟩

theorem accounted_putTelltale (due : Port → Fin 113 → Prop) {k : Fin 40} {x : Telltale} (hr : x.resolved = s.lamps.telltales[k].resolved)
    (hs : x.shown = s.lamps.telltales[k].shown) (hf : x.failed = s.lamps.telltales[k].failed) : Accounted due s (putTelltale k x s) :=
  accounted_faults (putTelltale_patterns s hr hs hf) fun _ _ h => (putTelltale_reports s k x h).imp id fun d => .inr (.inl d)

theorem Telltale.foundShort_shows (x : Telltale) :
    x.foundShort.resolved = x.resolved ∧ x.foundShort.shown = x.shown ∧ x.foundShort.failed = x.failed := by
  unfold Telltale.foundShort
  split <;> exact ⟨rfl, rfl, rfl⟩

theorem Telltale.retry_shows (lit shorted : Bool) (x : Telltale) :
    (x.retry lit shorted).resolved = x.resolved ∧ (x.retry lit shorted).shown = x.shown ∧ (x.retry lit shorted).failed = x.failed := by
  unfold Telltale.retry
  dsimp only
  split
  · exact ⟨rfl, rfl, rfl⟩
  · split
    · exact Telltale.foundShort_shows _
    · exact ⟨rfl, rfl, rfl⟩

theorem accounted_onOpenCheck (due : Port → Fin 113 → Prop) (k : Fin 40) (current : Nat) : Accounted due s (onOpenCheck k current s) := by
  unfold onOpenCheck
  dsimp only
  split
  · exact accounted_putTelltale s due rfl rfl rfl
  · exact (Quiet.refl s).accounted

theorem accounted_onShort (due : Port → Fin 113 → Prop) (k : Fin 40) : Accounted due s (onShort k s) := by
  obtain ⟨hr, hs, hf⟩ := Telltale.foundShort_shows s.lamps.telltales[k]
  unfold onShort
  dsimp only
  split
  · exact accounted_putTelltale s due hr hs hf
  · exact (Quiet.refl s).accounted

theorem accounted_onRetry (k : Fin 40) (shorted : Bool) :
    Accounted (dueOf (.retryTimerExpiry k shorted) s (onRetry k shorted s)) s (onRetry k shorted s) := by
  obtain ⟨hr, hs, hf⟩ := Telltale.retry_shows (lampLit k s) shorted s.lamps.telltales[k]
  by_cases h : s.lamps.telltales[k].retryTimer.isRunning = true
  · have tried : onRetry k shorted s = raiseItem (telltaleItem k) (putTelltale k (s.lamps.telltales[k].retry (lampLit k s) shorted) s) := if_pos h
    rw [tried]
    refine accounted_faults (putTelltale_patterns s hr hs hf) fun p i hi => ?_
    rcases ReportedOnly.raiseItem (N := (· = telltaleItem k)) (putTelltale k _ s) rfl p i hi with hi | rfl
    · exact (putTelltale_reports s k _ hi).imp id fun d => .inr (.inl d)
    · exact .inr (.inr (.inr (dueOf_retry k shorted)))
  · have same : onRetry k shorted s = s := if_neg h
    rw [same]
    exact (Quiet.refl s).accounted

end

end Sys2Proof.Machine
end

section
/-! Proofs: the reports of the readout and of the links accounted for. -/

namespace Sys2Proof.Machine

section
variable {s u v : State} {due : Port → Fin 113 → Prop}

/-! ## A report of the readout -/

theorem LampsNormal.kept (h : LampsNormal s) (e : u.lamps.settings = s.lamps.settings) : LampsNormal u := fun st hst => h st (e ▸ hst)

/-- A unit that has been settled shows the same behind the end of the event. -/
theorem reportTacho_shown (hn : LampsNormal v) (b : State) : SameShown (reportTacho v) (finishEvent b (reportTacho v)) := by
  have inputs : SameInputs (settleUnits true v) (reportTacho v) := (EventEnd.raiseItem not_ofTable_tacho (settleUnits true v)).inputs
  have resolved : ClaimsResolved (reportTacho v) := (settleUnits_resolved hn).congr inputs rfl (fun _ => rfl) (fun _ => rfl) rfl
  have failed : FailedCondition (reportTacho v) := (settleUnits_failedCondition v).congr rfl (fun _ => rfl) rfl
  have settled : LampsSettled (reportTacho v) := (settleUnits_lampsSettled v).congr rfl rfl rfl rfl rfl
  have same := settleUnits_same resolved failed settled.patterns
  generalize reportTacho v = m at same ⊢
  refine same.trans (.of_lamps ?_)
  unfold finishEvent cycleNotice
  split <;> rfl

theorem reportTacho_reports {p : Port} {i : Fin 113} (h : i ∈ ((reportTacho v).port p).changes) :
    i ∈ (v.port p).changes ∨ i = tachoItem ∨ lampChanged v (reportTacho v) i := by
  rcases ReportedOnly.raiseItem (N := (· = tachoItem)) (settleUnits true v) rfl p i h with h | h
  · exact ((settleUnits_shown v).1 p i h).imp id .inr
  · exact .inr (.inl h)

/-- A command that ends with a report of the readout (R146). -/
theorem accounted_reportTacho (hn : LampsNormal v) (shown : SameShown s v)
    (reports : ∀ p i, i ∈ (v.port p).changes → i ∈ (s.port p).changes ∨ blockChanged s v i ∨ due p i)
    (tacho : ReadoutDiffers s.tacho v.tacho ∨ ∀ p, due p tachoItem) : Accounted due s (reportTacho v) := by
  have ended := reportTacho_eventEnd v
  have blocks {i : Fin 113} (h : blockChanged s v i) : blockChanged s (reportTacho v) i := by
    unfold blockChanged at h ⊢
    rwa [ended.signals, ended.gauges, ended.tacho, ended.dist]
  refine accounted_settled (reportTacho_shown hn s) fun p i h => ?_
  rcases reportTacho_reports h with h | rfl | ⟨k, e, d⟩
  · exact (reports p i h).imp id (Or.imp blocks .inr)
  · rcases tacho with differs | h
    · exact .inr (.inl (blocks (.inr (.inr (.inl ⟨rfl, differs⟩)))))
    · exact .inr (.inr (.inr (h p)))
  · exact .inr (.inr (.inl ⟨k, e, shown.left' d⟩))

end

section
variable (s : State)

theorem judgedDriving_keeps (st : ReadoutSettings) (r : Readout) :
    (judgeStale (judgeDriving st (s.setTacho r))).lamps = s.lamps ∧ (judgeStale (judgeDriving st (s.setTacho r))).ports = s.ports ∧
      (judgeStale (judgeDriving st (s.setTacho r))).tacho = r := ⟨rfl, rfl, rfl⟩

theorem accounted_onRecordAge (due : Port → Fin 113 → Prop) (hn : LampsNormal s) : Accounted due s (onRecordAge s) := by
  unfold onRecordAge
  split
  · unfold recordAgeExpiry
    dsimp only
    split
    · have aged : SameShown s (s.setTacho { s.tacho with age := min 65535 (s.tacho.age + 1) }) := .of_lamps rfl
      split
      next h =>
        refine accounted_reportTacho (hn.kept rfl) (.of_lamps rfl) (fun p i h => .inl h) (.inl (.inl ?_))
        show ReadoutState.estimated ≠ s.tacho.state
        rw [show s.tacho.state = .current from h.1]
        decide
      · exact accounted_shown aged fun p i h => .inl h
    · exact (Quiet.refl s).accounted
  · exact (Quiet.refl s).accounted

theorem accounted_onEstimation (hn : LampsNormal s) : Accounted (dueOf .estimationTimerExpiry s (onEstimation s)) s (onEstimation s) := by
  unfold onEstimation
  split
  next st _ =>
    by_cases running : s.tacho.estimation.isRunning = true
    · unfold estimationExpiry
      rw [if_pos running]
      dsimp only
      generalize hr : s.tacho.estimate st (drivingSecond st s.signals[(0 : Fin 64)].view) = r
      obtain ⟨lamps, ports, tacho⟩ := judgedDriving_keeps s st r
      generalize judgeStale (judgeDriving st (s.setTacho r)) = v at lamps ports tacho ⊢
      have silent (p : Port) (i : Fin 113) (h : i ∈ (v.port p).changes) : i ∈ (s.port p).changes := by rwa [port_of_ports ports] at h
      by_cases reported : estimateReported s.tacho r = true
      · rw [if_pos reported]
        refine accounted_reportTacho (hn.kept (by rw [lamps])) (.of_lamps lamps) (fun p i h => .inl (silent p i h)) ?_
        rw [estimateReported, Bool.or_eq_true, bne_iff_ne, decide_eq_true_eq] at reported
        rcases reported with h | h
        · exact .inl (.inl (by rw [tacho]; exact fun k => h k.symm))
        · refine .inr fun p => dueOf_minute ?_
          rw [(reportTacho_eventEnd v).tacho, tacho]
          exact h
      · rw [if_neg reported]
        exact accounted_shown (.of_lamps lamps) fun p i h => .inl (silent p i h)
    · have same : estimationExpiry st s = s := if_neg running
      rw [same]
      exact (Quiet.refl s).accounted
  · exact (Quiet.refl s).accounted

end

/-! ## Links -/

/-- From `s` to `u` the change lists, the links and the watch sets stand. -/
structure ListsStand (s u : State) : Prop where
  shown : SameShown s u
  changes : ∀ p, (u.port p).changes = (s.port p).changes
  link : ∀ p, (u.port p).link = (s.port p).link
  watch : ∀ p, (u.port p).watch = (s.port p).watch

/-- From `s` to `u` nothing is reported but where a link recovers from LOST (R175). -/
structure Recovers (s u : State) : Prop where
  shown : SameShown s u
  reports : ∀ p i, i ∈ (u.port p).changes → i ∈ (s.port p).changes ∨
    ((s.port p).link = .lost ∧ (u.port p).link = .up ∧ (u.port p).watch[i] = true)

section
variable {s u v : State}

theorem ListsStand.refl (s : State) : ListsStand s s := ⟨.refl s, fun _ => rfl, fun _ => rfl, fun _ => rfl⟩

theorem ListsStand.recovers (h : ListsStand s u) : Recovers s u := ⟨h.shown, fun p i k => .inl (by rwa [h.changes] at k)⟩

theorem Recovers.after (a : ListsStand s u) (b : Recovers u v) : Recovers s v := by
  refine ⟨a.shown.trans b.shown, fun p i h => ?_⟩
  rw [← a.changes p, ← a.link p]
  exact b.reports p i h

theorem Recovers.before (a : Recovers s u) (b : ListsStand u v) : Recovers s v := by
  refine ⟨a.shown.trans b.shown, fun p i h => ?_⟩
  rw [b.changes] at h
  simp only [b.link, b.watch]
  exact a.reports p i h

theorem Recovers.accounted (h : Recovers s u) (c : Instr) : Accounted (dueOf c s u) s u :=
  accounted_shown h.shown fun p i k => (h.reports p i k).imp id fun ⟨lost, up, watched⟩ => .inr (dueOf_recovered lost up watched)

theorem listsStand_setPort (s : State) {p : Port} {x : PortState} (hc : x.changes = (s.port p).changes) (hl : x.link = (s.port p).link)
    (hw : x.watch = (s.port p).watch) : ListsStand s (setPort p x s) := by
  refine ⟨.of_lamps rfl, fun q => ?_, fun q => ?_, fun q => ?_⟩
  all_goals
    rw [port_setPort]
    split
    next h =>
      subst h
      assumption
    · rfl

theorem listsStand_setCond (s : State) (c : Condition) (b : Bool) : ListsStand s (setCond c b s) :=
  ⟨.of_lamps rfl, fun _ => rfl, fun _ => rfl, fun _ => rfl⟩

end

section
variable (s : State)

theorem recovers_setPort {p : Port} {x : PortState} (hc : x.changes = (s.port p).changes) (hl : x.link = (s.port p).link)
    (hw : x.watch = (s.port p).watch) : Recovers s (setPort p x s) := (listsStand_setPort s hc hl hw).recovers

theorem recovers_acceptFrame (p : Port) (n : Byte) (body : List Byte) : Recovers s (acceptFrame p n body s) := by
  have cleared : ListsStand s (if (s.port p).link = .lost then setCond (linkLostCondition p) false s else s) := by
    split
    · exact listsStand_setCond ..
    · exact .refl s
  have same : (if (s.port p).link = .lost then setCond (linkLostCondition p) false s else s).port p = s.port p := by split <;> rfl
  have accepted : acceptFrame p n body s = setPort p ((s.port p).accepted
      (if (s.port p).link = .lost then setCond (linkLostCondition p) false s else s).inLoad n body)
      (if (s.port p).link = .lost then setCond (linkLostCondition p) false s else s) := rfl
  rw [accepted]
  generalize (if (s.port p).link = .lost then setCond (linkLostCondition p) false s else s) = u at cleared same ⊢
  refine .after cleared ⟨.of_lamps rfl, fun q i h => ?_⟩
  rw [port_setPort] at h ⊢
  split at h
  next e =>
    subst e
    rw [if_pos rfl, same]
    rw [PortState.accepted_eq] at h ⊢
    dsimp only at h ⊢
    split at h
    next lost => exact .inr ⟨lost, rfl, by simpa using h⟩
    · exact .inl h
  next e => exact .inl h

theorem recovers_takeVerdict (p : Port) (v : Verdict) : Recovers s (takeVerdict p v s) := by
  cases v with
  | good n body => exact recovers_acceptFrame s p n body
  | bad o n => exact recovers_setPort s (by rfl) (by rfl) (by rfl)

theorem recovers_frameArrived (p : Port) (v : Verdict) : Recovers s (frameArrived p v s) := by
  unfold frameArrived
  split
  · exact recovers_setPort s (by rfl) (by rfl) (by rfl)
  · exact recovers_takeVerdict s p v

theorem recovers_endPeriod (p : Port) (bytes : List Byte) : Recovers s (endPeriod p bytes s) := by
  have closed : ListsStand s (setPort p ((s.port p).closePeriod bytes) s) := listsStand_setPort s rfl rfl rfl
  unfold endPeriod
  dsimp only
  generalize setPort p ((s.port p).closePeriod bytes) s = u at closed ⊢
  split
  · exact closed.recovers
  · split
    · exact .after closed (recovers_frameArrived ..)
    · exact closed.recovers

theorem listsStand_setReceiver (r : Receiver) : ListsStand s (setReceiver r s) := listsStand_setPort s rfl rfl rfl

theorem recovers_tlinkFrame (began : Bool) (v : Verdict) (next : Receiver) : Recovers s (tlinkFrame began v next s) := by
  refine .before ?_ (listsStand_setReceiver ..)
  split
  · exact recovers_setPort s (by rfl) (by rfl) (by rfl)
  · exact recovers_takeVerdict ..

theorem recovers_setReceiver (r : Receiver) : Recovers s (setReceiver r s) := (listsStand_setReceiver s r).recovers

theorem Recovers.refl : Recovers s s := (ListsStand.refl s).recovers

theorem recovers_tlinkByte (b : Byte) (stopBit : Bool) : Recovers s (tlinkByte b stopBit s) := by
  unfold tlinkByte
  split
  · unfold tlinkOpening
    split
    · exact .refl s
    · split
      · exact recovers_setReceiver ..
      · split
        · exact recovers_tlinkFrame ..
        · exact .refl s
  · unfold tlinkFrameByte
    dsimp only
    split
    · exact recovers_tlinkFrame ..
    · split
      · exact recovers_tlinkFrame ..
      · split
        · exact recovers_tlinkFrame ..
        · exact recovers_setReceiver ..
  · exact .refl s

theorem recovers_tlinkGap : Recovers s (tlinkGap s) := by
  unfold tlinkGap
  split
  · exact .refl s
  · exact recovers_tlinkFrame ..
  · exact recovers_setReceiver ..

theorem recovers_openPeriod (p : Port) : Recovers s (openPeriod p s) := by
  unfold openPeriod
  dsimp only
  split
  · exact recovers_setPort s (by rfl) (by rfl) (by rfl)
  all_goals exact .refl s

/-! ## The loss of a link -/

theorem clearPortClaims_quiet (p : Port) : Quiet s (clearPortClaims p s) := by
  refine ⟨fun i => ?_, .of_ports _ rfl, rfl, rfl⟩
  simp [clearPortClaims, not_telltaleDiffers]

/-- The table, the claims and the condition at the loss of a link. -/
theorem tableReports_lostClaims (p : Port) : TableReports s (clearPortClaims p (forceLost p (linkLost p s))) := by
  have lost : Beside s (linkLost p s) :=
    (beside_setPort s (p := p) (x := { s.port p with link := .lost, linkTimer := .stopped }) rfl).trans (beside_setCond ..)
  generalize linkLost p s = u at lost ⊢
  exact (TableReports.after lost (tableReports_forceLost u p)).before (clearPortClaims_quiet ..)

theorem accounted_linkExpiry (p : Port) (hn : LampsNormal s) : Accounted (dueOf (.linkTimerExpiry p) s (linkExpiry p s)) s (linkExpiry p s) := by
  have recomputed : recomputes (.linkTimerExpiry p) := .inr (.inr (.inr (.inr (.inr (.inr ⟨p, rfl⟩)))))
  by_cases runs : (s.port p).link = .up ∧ (s.port p).linkTimer.isRunning = true
  · have lost : linkExpiry p s = loseLink p s := if_pos runs
    rw [lost]
    have table := tableReports_lostClaims s p
    by_cases ends : p = .tlink ∧ (s.tacho.state = .current ∨ s.tacho.state = .estimated)
    · rw [loseLink_lost ends.1 ends.2]
      have settings : (clearPortClaims p (forceLost p (linkLost p s))).lamps.settings = s.lamps.settings := by
        have kept := (forceLost_spec p (linkLost p s)).1.lampSettings
        generalize forceLost p (linkLost p s) = t at kept ⊢
        exact kept
      generalize clearPortClaims p (forceLost p (linkLost p s)) = m at table settings ⊢
      generalize hv : setCond .tachoStale true (m.setTacho { s.tacho with state := .lost, estimation := .stopped }) = v
      have blocks : v.lamps = m.lamps ∧ v.ports = m.ports ∧ v.signals = m.signals ∧ v.tacho = { s.tacho with state := .lost, estimation := .stopped } := by
        rw [← hv]
        exact ⟨rfl, rfl, rfl, rfl⟩
      obtain ⟨lamps, ports, signals, tacho⟩ := blocks
      refine accounted_reportTacho (hn.kept (by rw [lamps, settings])) (table.shown.trans (.of_lamps lamps)) (fun q i h => ?_) (.inl (.inl ?_))
      · rw [port_of_ports ports] at h
        refine (table.accounts q i h).imp id (Or.imp (fun k => .inl (by rw [signals]; exact k)) fun k => dueOf_handed recomputed ?_)
        unfold gaugeHanded at k ⊢
        rwa [(reportTacho_eventEnd v).signals, signals]
      · rw [tacho]
        show ReadoutState.lost ≠ s.tacho.state
        rcases ends.2 with k | k <;> rw [k] <;> decide
    · rw [loseLink_kept ends]
      exact accounted_table recomputed table
  · have same : linkExpiry p s = s := if_neg runs
    rw [same]
    exact (Quiet.refl s).accounted

end

end Sys2Proof.Machine
end

section
/-! Proofs: the reports of the end of a commit and of the exit from LOAD accounted for. -/

namespace Sys2Proof.Machine

section
variable {s t u v : State}

/-! ## The end of a commit -/

/-- From `s` to `t` no item is reported but of the entries, the telltales and the gauges, and the readout stands. -/
structure BelowReadout (s t : State) : Prop where
  tacho : t.tacho = s.tacho
  reports : ReportedOnly (fun i => (i : Nat) < 110) s t

theorem BelowReadout.refl (s : State) : BelowReadout s s := ⟨rfl, .refl s _⟩

theorem BelowReadout.trans (a : BelowReadout s t) (b : BelowReadout t u) : BelowReadout s u := ⟨b.tacho.trans a.tacho, a.reports.trans b.reports⟩

theorem telltaleItem_below (k : Fin 40) : (telltaleItem k : Nat) < 110 := by
  simp only [telltaleItem]
  omega

theorem below_of_ofTable {i : Fin 113} (h : ofTable i) : (i : Nat) < 110 := by
  rcases h with h | h <;> omega

theorem Moved.below (h : Moved s t) : BelowReadout s t := by
  refine ⟨h.tacho, h.reports.mono fun i k => ?_⟩
  rcases k with ⟨j, rfl⟩ | ⟨j, rfl⟩
  exacts [telltaleItem_below j, below_of_ofTable (ofTable_gauge j)]

theorem Quiet.below (h : Quiet s t) : BelowReadout s t := h.moved.below

theorem TableReports.below (h : TableReports s t) : BelowReadout s t := ⟨h.tacho, h.only.mono fun _ => below_of_ofTable⟩

theorem below_of_eq (ht : t.tacho = s.tacho) (hp : t.ports = s.ports) : BelowReadout s t := ⟨ht, .of_ports _ hp⟩

theorem below_ite {c : Prop} [Decidable c] (ht : c → BelowReadout s t) (hu : ¬c → BelowReadout s u) : BelowReadout s (if c then t else u) := by
  split
  · exact ht ‹_›
  · exact hu ‹_›

theorem below_forAll {n : Nat} (f : Fin n → State → State) (h : ∀ i s, BelowReadout s (f i s)) (s : State) : BelowReadout s (forAll n f s) :=
  forAll_rel BelowReadout.refl (fun _ _ _ => .trans) f h s

end

section
variable (s : State)

theorem below_commitInput (old new : SwitchSettings) (i : Fin 24) : BelowReadout s (commitInput old new i s) := by
  unfold commitInput
  dsimp only
  have timed : BelowReadout s (if s.switches.inputs[i].debounce.isRunning = true then
      setInput i { s.switches.inputs[i] with debounce := .running new.debounceMs[i] } s else s) :=
    below_ite (fun _ => (beside_setInput ..).toQuiet.below) (fun _ => .refl s)
  split
  · exact timed
  · refine timed.trans (.trans ?_ (tableReports_deliver ..).below)
    refine below_ite (fun _ => .refl _) fun _ => .trans ?_ (below_ite (fun _ => (beside_addWakeCause ..).toQuiet.below) (fun _ => .refl _))
    exact below_ite (fun _ => (moved_ignitionEvent ..).below) (fun _ => .refl _)

theorem below_commitSwitches (c : Configuration) : BelowReadout s (commitSwitches c s) :=
  .trans (beside_setSwitches s { s.switches with settings := some c.switches }).toQuiet.below (below_forAll _ (fun i s => below_commitInput s _ _ i) _)

theorem below_commitLampSettings (c : Configuration) : BelowReadout s (commitLampSettings c s) := by
  obtain ⟨u, hu, tacho, ports⟩ : ∃ u, commitLampSettings c s = telltaleNotices s.lamps.telltales u ∧ u.tacho = s.tacho ∧ u.ports = s.ports :=
    ⟨_, rfl, rfl, rfl⟩
  rw [hu]
  refine (below_of_eq tacho ports).trans ⟨(telltaleNotices_eventEnd ..).tacho, (telltaleNotices_reports ..).1.mono ?_⟩
  rintro i ⟨k, rfl, -⟩
  exact telltaleItem_below k

theorem below_noticeAllEntries : BelowReadout s (noticeAllEntries s) := by
  have one (i : Fin 64) (s : State) : BelowReadout s (raiseItem (signalItem i) s) := ⟨rfl, .raiseItem s (below_of_ofTable (ofTable_signal i))⟩
  exact below_forAll _ one s

theorem below_commitGauges (c : Configuration) : BelowReadout s (commitGauges c s) := below_forAll _ (fun i s => (moved_putGauge s i _).below) s

/-- A commit's end up to the readout's taking of its settings. -/
def beforeReadout (c : Configuration) (s : State) : State :=
  let s := noticeAllEntries (emptyTable c.descriptors s)
  let s := s.setDist { s.dist with tolerance := c.odoTolerance }
  let s := commitSwitches c s
  commitGauges c (settleUnits true (commitLampSettings c s))

theorem below_beforeReadout (c : Configuration) : BelowReadout s (beforeReadout c s) := by
  unfold beforeReadout
  dsimp only
  have emptied : BelowReadout s (noticeAllEntries (emptyTable c.descriptors s)) :=
    .trans (t := emptyTable c.descriptors s) (below_of_eq rfl rfl) (below_noticeAllEntries _)
  generalize noticeAllEntries (emptyTable c.descriptors s) = u at emptied ⊢
  refine emptied.trans (.trans (t := u.setDist { u.dist with tolerance := c.odoTolerance }) (below_of_eq rfl rfl) ?_)
  generalize u.setDist { u.dist with tolerance := c.odoTolerance } = v
  exact (below_commitSwitches v c).trans <| (below_commitLampSettings ..).trans <| (moved_settleUnits _).below.trans (below_commitGauges ..)

theorem handConfiguration_eq (c : Configuration) :
    handConfiguration c s = setTakeOvers (takeWindowLength c (takeTimeouts c (takeReadoutSettings c (beforeReadout c s)))) := rfl

/-- What the end of a commit reports: the readout where its remaining time is another (R147). -/
theorem onCommitEnd_reports :
    ReportedOnly (fun i => (i : Nat) < 110 ∨ (i = tachoItem ∧ (onCommitEnd s).tacho.remaining ≠ s.tacho.remaining)) s (onCommitEnd s) := by
  unfold onCommitEnd
  split
  · unfold commitEnd
    split
    next c _ =>
      rw [handConfiguration_eq]
      have below := (below_of_eq (s := s) (t := putInForce c s) rfl rfl).trans (below_beforeReadout _ c.normal)
      generalize beforeReadout c.normal (putInForce c s) = m at below ⊢
      have taken := takeReadoutSettings_spec c.normal m
      generalize takeReadoutSettings c.normal m = r at taken ⊢
      have told : ReportedOnly (fun i => (i : Nat) < 110 ∨ (i = tachoItem ∧ r.tacho.remaining ≠ s.tacho.remaining)) s r := by
        refine (below.reports.mono fun i => .inl).trans (taken.only.mono ?_)
        rintro i ⟨differs, rfl | ⟨k, rfl⟩⟩
        · exact .inr ⟨rfl, below.tacho ▸ differs⟩
        · exact .inl (telltaleItem_below k)
      have closed : (closeCommit (setTakeOvers (takeWindowLength c.normal (takeTimeouts c.normal r)))).tacho = r.tacho ∧
          ReportedOnly (fun _ => False) r (closeCommit (setTakeOvers (takeWindowLength c.normal (takeTimeouts c.normal r)))) :=
        ⟨rfl, .of_changes _ fun p i h => by cases p <;> exact h⟩
      generalize closeCommit (setTakeOvers (takeWindowLength c.normal (takeTimeouts c.normal r))) = w at closed ⊢
      obtain ⟨tacho, silent⟩ := closed
      rw [← tacho] at told
      have told := told.trans (silent.mono fun _ => False.elim)
      unfold afterCommit
      split
      · exact .of_changes _ fun p i h => by cases p <;> exact absurd h List.not_mem_nil
      · split
        · have started := moved_enterStarting w
          rw [← started.tacho] at told
          exact told.trans (started.below.reports.mono fun i => .inl)
        · exact told
    · exact .refl s _
  · exact .refl s _

theorem accounted_onCommitEnd : Accounted (dueOf .commitEnd s (onCommitEnd s)) s (onCommitEnd s) := by
  refine accounted_of (fun p i h => (onCommitEnd_reports s p i h).imp id ?_) fun i ⟨k, e, _⟩ => .inr fun p => e ▸ dueOf_commit (telltaleItem_below k)
  rintro (h | ⟨e, h⟩)
  · exact .inr (.inr (dueOf_commit h))
  · exact .inl (.inr (.inr (.inl ⟨e, .inr (.inr (.inr h))⟩)))

end

/-! ## The exit from LOAD -/

section
variable {s u v w : State}

/-- The first judgement of the telltales leaves nothing for the end of the event to change in what they show. -/
theorem firstJudged_shown (hn : LampsNormal w) (b : State) : SameShown (settleUnits false w) (finishEvent b (settleUnits false w)) := by
  have resolved := (settleUnits_resolved hn).congr (settleUnits_quiet_inputs w) (settleUnits_quiet w).builtIn (settleUnits_quiet w).resolved
    (settleUnits_quiet w).failed (settleUnits_quiet w).condition
  have failed := (settleUnits_failedCondition w).congr (settleUnits_quiet_inputs w).settings (settleUnits_quiet w).failed (settleUnits_quiet w).condition
  have same := settleUnits_same resolved failed (settleUnits_false_settled w).patterns
  generalize settleUnits false w = m at same ⊢
  refine same.trans (.of_lamps ?_)
  unfold finishEvent cycleNotice
  split <;> rfl

theorem firstJudged_ports (s : State) : (settleUnits false s).ports = s.ports := by
  rw [settleUnits, settleChimes_ports]
  unfold settleLamps
  split
  · rfl
  · next st _ => exact (showAll_ports st _).trans (lampRounds_ports st 3 s)

/-- The drivers' faults stand where the telltale unit takes its settings. -/
theorem blocksTaken_fault (c : Configuration) (u : State) (k : Fin 40) :
    (blocksTaken c u).lamps.telltales[k].fault = u.lamps.telltales[k].fault := by
  obtain ⟨-, -, -, ⟨-, -, -, -, lamps, -⟩, -⟩ := gatesStarted c (takeWindowLength c u)
  unfold blocksTaken
  rw [takeLampSettings_eq]
  generalize forAll 4 (firstGateStart c) (takeWindowLength c u) = g at lamps ⊢
  have same : (takeGaugeSettings c (takeSwitchSettings c (takeConverterSettings c g))).lamps = u.lamps := lamps
  simp [same]

/-- What an entry into STARTING reports of the gauges and the telltales (R90, R125). -/
structure StartReports (u w : State) : Prop where
  moved : Moved u w
  telltales : ∀ k : Fin 40, w.lamps.telltales[k] = u.lamps.telltales[k].newCycle
  reports : ReportedOnly (fun i => (∃ k : Fin 6, i = gaugeItem k ∧ (GaugeDiffers u.gauges[k] w.gauges[k] ∨ u.gauges[k].state = .parked)) ∨
    lampChanged u w i) u w

theorem reparks_parked {g : Gauge} {x : View} (h : g.reparks x = true) : g.state = .parked := by
  rw [Gauge.reparks, Bool.and_eq_true] at h
  simpa using h.1

theorem startReports (u : State) : StartReports u (enterStarting u) := by
  have moved := moved_enterStarting u
  have started := startGauges_spec u.conv.supply (u := openCycle u) rfl rfl
  have opened : ReportedOnly (fun _ => False) u (openCycle u) := (ReportedOnly.of_ports (s := u)
    (t := (u.setCycle { u.cycle with window := .running u.cycle.windowLength, causeSwitch := false, causeWindow := false }).setCycle
      { u.cycle with window := .running u.cycle.windowLength, causeSwitch := false, causeWindow := false, state := .starting }) _ rfl).trans (.signalEvent _ _ .cycle)
  unfold enterStarting at moved ⊢
  generalize startGauges u.conv.supply (openCycle u) = a at started moved ⊢
  have renewed := newLampCycle_renewed (startConverter a)
  have lampsA : (startConverter a).lamps = u.lamps := started.moved.units.2.2
  have portsA := startConverter_ports a
  generalize newLampCycle (startConverter a) = m at renewed moved ⊢
  have gauges : m.gauges = a.gauges := by
    obtain ⟨-, -, gaugesM, -⟩ := renewed.moved.units
    exact gaugesM
  refine ⟨moved, fun k => by rw [renewed.telltales k, if_pos (List.mem_finRange k), lampsA], fun p i h => ?_⟩
  rcases moved.reports p i h with old | new
  · exact .inl old
  · rcases renewed.only p i h with before | ⟨k, e, d⟩
    · rw [port_of_ports portsA] at before
      rcases new with ⟨k, rfl⟩ | ⟨k, rfl⟩
      · rcases started.others p _ before with k' | k'
        · exact (opened p _ k').imp id False.elim
        · exact absurd rfl (k' k)
      · rcases started.silent p _ before with k' | k'
        · exact (opened p _ k').imp id False.elim
        · refine .inr (.inl ⟨k, rfl, ?_⟩)
          rw [gauges]
          exact (k' k rfl).imp id reparks_parked
    · exact .inr (.inr ⟨k, e, lampsA ▸ d⟩)

/-- The part with the settings of every block, at the exit from LOAD. -/
structure SettingsTaken (s v : State) : Prop where
  normal : LampsNormal v
  gauges : ∀ k : Fin 6, ∃ gs, v.gauges[k] = { s.gauges[k] with settings := gs }
  faults : ∀ k : Fin 40, v.lamps.telltales[k].fault = s.lamps.telltales[k].fault
  reports : ReportedOnly (fun i => v.tacho.remaining ≠ s.tacho.remaining ∧ (i = tachoItem ∨ ∃ k, i = telltaleItem k)) s v

theorem startLinkTimers_changes (s : State) (p : Port) : ((startLinkTimers s).port p).changes = (s.port p).changes := by
  rw [startLinkTimers, port_mapPorts]
  split <;> rfl

theorem settingsTaken (c : Configuration) (s : State) : SettingsTaken s (takeAllSettings c.normal s) := by
  have taken := blocksTaken_spec c.normal s
  have readout := takeReadoutSettings_spec c.normal (blocksTaken c.normal s)
  have fault := blocksTaken_fault c.normal s
  have stages : takeAllSettings c.normal s = startLinkTimers (takeTimeouts c.normal (takeReadoutSettings c.normal (blocksTaken c.normal s))) := rfl
  rw [stages]
  generalize blocksTaken c.normal s = b at taken readout fault ⊢
  generalize takeReadoutSettings c.normal b = r at readout ⊢
  obtain ⟨-, -, -, tacho, ports⟩ := taken.others
  obtain ⟨-, -, -, -, -, gauges⟩ := readout.blocks
  refine ⟨lampsNormal_of_settings (c := c) (readout.lamps.settings.trans taken.lamps.1), fun k => ⟨some (gaugeSettings c.normal s.store.gaugeMarks k), ?_⟩,
    fun k => (readout.lamps.telltales k).2.2.1.trans (fault k), ?_⟩
  · exact (congrArg (·[k]) gauges).trans (taken.gauges k)
  · refine ReportedOnly.trans (t := r) ?_ (.of_changes _ fun p i h => ?_)
    · show ReportedOnly (fun i => r.tacho.remaining ≠ s.tacho.remaining ∧ _) s r
      rw [← tacho]
      exact (ReportedOnly.of_ports _ ports).trans readout.only
    · have timed : ((startLinkTimers (takeTimeouts c.normal r)).port p).changes = (r.port p).changes := by
        rw [startLinkTimers_changes]
        cases p <;> rfl
      rwa [timed] at h

theorem dueOf_load {c : Instr} (hc : c = .configLoadComplete ∨ c = .restartLoadEnd) {p : Port} {k : Fin 6} (h : s.gauges[k].state = .parked) :
    dueOf c s u p (gaugeItem k) := .inr (.inr (.inr (.inr (.inr (.inr (.inr (.inr ⟨hc, .inl ⟨k, rfl, h⟩⟩)))))))

theorem dueOf_loadReadout {c : Instr} (hc : c = .configLoadComplete ∨ c = .restartLoadEnd) {p : Port} (k : Fin 40)
    (h : u.tacho.remaining ≠ s.tacho.remaining) : dueOf c s u p (telltaleItem k) := by
  rw [← (finishEvent_eventEnd s u).tacho] at h
  exact .inr (.inr (.inr (.inr (.inr (.inr (.inr (.inr ⟨hc, .inr ⟨h, k, rfl⟩⟩)))))))

/-- LOAD left for PARKED or STARTING: of the gauges and the telltales, no more is reported than at an entry into STARTING (R150). -/
structure LeaveReports (v w : State) : Prop where
  normal : LampsNormal v → LampsNormal w
  tacho : w.tacho = v.tacho
  reports : ReportedOnly (fun i => (∃ k : Fin 6, i = gaugeItem k ∧ (GaugeDiffers v.gauges[k] w.gauges[k] ∨ v.gauges[k].state = .parked)) ∨
    ∃ k : Fin 40, i = telltaleItem k ∧ w.lamps.telltales[k].fault ≠ v.lamps.telltales[k].fault) v w

theorem leaveReports (v : State) : LeaveReports v (leaveLoad v) := by
  unfold leaveLoad
  split
  · have started := startReports v
    refine ⟨fun h => h.kept (settingsKept_enterStarting v).lamps, started.moved.tacho, started.reports.mono fun i => Or.imp id ?_⟩
    rintro ⟨k, e, d⟩
    refine ⟨k, e, ?_⟩
    rw [started.telltales k] at d ⊢
    exact newCycle_differs d
  · rw [enterParked_eq]
    exact ⟨fun h => h, rfl, (ReportedOnly.of_ports (s := v) (t := (v.setConv (parkedConverter v)).setCycle { v.cycle with state := .parked }) _ rfl).trans
      (.signalEvent _ _ .cycle)⟩

theorem GaugeDiffers.of_settings {g h : Gauge} {gs : Option GaugeSettings} (d : GaugeDiffers { g with settings := gs } h) : GaugeDiffers g h := d

/-- The exit from LOAD: what it reports is a gauge or a driver that the STARTING entry has changed, or due (R90, R125, R134, R145). -/
theorem accounted_loadExit {c : Instr} (hc : c = .configLoadComplete ∨ c = .restartLoadEnd) {s m : State} (gauges : m.gauges = s.gauges)
    (lamps : m.lamps = s.lamps) (tacho : m.tacho = s.tacho) (ports : m.ports = s.ports) (unloaded : m.store.inForce = none → m = s) :
    Accounted (dueOf c s (loadExit m)) s (loadExit m) := by
  unfold loadExit State.config
  cases inForce : m.store.inForce with
  | none =>
    rw [unloaded inForce]
    exact (Quiet.refl s).accounted
  | some config =>
    show Accounted (dueOf c s (settleUnits false (leaveLoad (takeAllSettings config.normal m)))) s
      (settleUnits false (leaveLoad (takeAllSettings config.normal m)))
    have taken := settingsTaken config m
    generalize takeAllSettings config.normal m = v at taken ⊢
    have left := leaveReports v
    generalize leaveLoad v = w at left ⊢
    have shown := firstJudged_shown (left.normal taken.normal) s
    have quiet := firstJudged_ports w
    have ended := settleUnits_eventEnd false w
    generalize settleUnits false w = z at shown quiet ended ⊢
    have tachoZ : z.tacho = v.tacho := ended.tacho.trans left.tacho
    refine accounted_of (fun p i h => ?_) fun i ⟨k, _, d⟩ => absurd d (shown k)
    rw [port_of_ports quiet] at h
    rcases left.reports p i h with h | ⟨k, rfl, d | parked⟩ | ⟨k, e, d⟩
    · rcases taken.reports p i h with h | ⟨differs, rfl | ⟨k, rfl⟩⟩
      · exact .inl (by rwa [port_of_ports ports] at h)
      · rw [tacho] at differs
        exact .inr (.inl (.inr (.inr (.inl ⟨rfl, .inr (.inr (.inr (by rw [tachoZ]; exact differs)))⟩))))
      · rw [tacho] at differs
        exact .inr (.inr (.inr (dueOf_loadReadout hc k (by rw [tachoZ]; exact differs))))
    · obtain ⟨gs, hk⟩ := taken.gauges k
      rw [hk, gauges, ← ended.gauges] at d
      exact .inr (.inl (.inr (.inl ⟨k, rfl, d.of_settings⟩)))
    · obtain ⟨gs, hk⟩ := taken.gauges k
      rw [hk, gauges] at parked
      exact .inr (.inr (.inr (dueOf_load hc parked)))
    · refine .inr (.inr (.inl ⟨k, e, .inr (.inr (.inl ?_))⟩))
      rw [((finishEvent_eventEnd s z).lamps.telltales k).2.2.1, (ended.lamps.telltales k).2.2.1, ← lamps, ← taken.faults k]
      exact d

theorem accounted_onLoadComplete (s : State) : Accounted (dueOf .configLoadComplete s (onLoadComplete s)) s (onLoadComplete s) := by
  by_cases h : s.cycle.state = .load ∧ s.store.state = .loading
  · have loaded : onLoadComplete s = loadExit (loadImage s) := if_pos h
    rw [loaded]
    have blocks : (loadImage s).gauges = s.gauges ∧ (loadImage s).lamps = s.lamps ∧ (loadImage s).tacho = s.tacho ∧ (loadImage s).ports = s.ports := by
      unfold loadImage takeLoaded
      dsimp only
      split <;> exact ⟨rfl, rfl, rfl, rfl⟩
    have inForce : (loadImage s).store.inForce ≠ none := by
      have stored : (loadImage s).store = s.store.load := by
        unfold loadImage takeLoaded
        dsimp only
        split <;> rfl
      rw [stored]
      unfold ConfigStore.load
      split <;> exact nofun
    obtain ⟨gauges, lamps, tacho, ports⟩ := blocks
    exact accounted_loadExit (.inl rfl) gauges lamps tacho ports fun k => absurd k inForce
  · have same : onLoadComplete s = s := if_neg h
    rw [same]
    exact (Quiet.refl s).accounted

theorem accounted_onRestartLoadEnd (s : State) : Accounted (dueOf .restartLoadEnd s (onRestartLoadEnd s)) s (onRestartLoadEnd s) := by
  by_cases h : s.cycle.state = .load ∧ s.store.state ≠ .loading
  · have left : onRestartLoadEnd s = loadExit s := if_pos h
    rw [left]
    exact accounted_loadExit (.inr rfl) rfl rfl rfl rfl fun _ => rfl
  · have same : onRestartLoadEnd s = s := if_neg h
    rw [same]
    exact (Quiet.refl s).accounted

end

end Sys2Proof.Machine
end

section
/-! Proofs: the reports of a request of a frame accounted for, and what is shown and reported at every step (R120 to R127). -/

namespace Sys2Proof.Machine

/-! ## Requests that report nothing themselves -/

section
variable {s u v : State} {due : Port → Fin 113 → Prop}

theorem quiet_setPort {p : Port} {x : PortState} (h : ∀ i ∈ x.changes, i ∈ (s.port p).changes) : Quiet s (setPort p x s) :=
  ⟨.of_lamps rfl, .setPort s _ h, rfl, rfl⟩

end

section
variable (s : State)

theorem quiet_mapExec (f : FrameExec → FrameExec) (p : Port) : Quiet s (mapExec f p s) := quiet_setPort fun _ h => h

theorem beside_pushResult (p : Port) (o : RequestOutcome) (n : Nat) (data : List Byte) : Beside s (pushResult p o n data s) := by
  have taken (f : FrameExec → FrameExec) : Beside s (mapExec f p s) := beside_setPort s rfl
  unfold pushResult
  dsimp only
  split
  · exact (taken _).trans (beside_setPort _ rfl)
  · exact taken _

theorem quiet_pushResult (p : Port) (o : RequestOutcome) (n : Nat) (data : List Byte) : Quiet s (pushResult p o n data s) :=
  (beside_pushResult s p o n data).toQuiet

theorem quiet_setCursor (p : Port) (r : Region) (i : Nat) : Quiet s (setCursor p r i s) := quiet_setPort fun _ h => h

theorem quiet_runRead (p : Port) (region index count : Nat) : Quiet s (runRead p region index count s) := by
  unfold runRead
  split
  · exact quiet_pushResult ..
  · refine quiet_ite (fun _ => quiet_pushResult ..) fun _ => quiet_ite (fun _ => quiet_pushResult ..) fun _ => ?_
    unfold readElements
    dsimp only
    exact .trans (quiet_ite (fun _ => .refl s) (fun _ => quiet_setCursor ..)) (quiet_pushResult ..)

theorem quiet_runWait (p : Port) (index count : Nat) : Quiet s (runWait p index count s) := by
  unfold runWait
  split
  · exact quiet_pushResult ..
  · exact quiet_ite (fun _ => quiet_pushResult ..) fun _ => quiet_ite (fun _ => quiet_pushResult ..) fun _ =>
      (quiet_mapExec ..).trans (quiet_setPort fun _ h => h)

theorem quiet_runChanges (p : Port) (count : Nat) : Quiet s (runChanges p count s) := by
  refine quiet_ite (fun _ => quiet_pushResult ..) fun _ => .trans (quiet_setPort (p := p) fun i h => ?_) (quiet_pushResult ..)
  exact List.mem_of_mem_drop h

/-! ## Elements of a WRITE -/

theorem quiet_writePattern (p : Port) (i : Fin 40) (v : Pattern) : Quiet s (writePattern p i v s) := by
  refine ⟨fun k => ?_, .of_ports _ rfl, rfl, rfl⟩
  by_cases e : i = k
  · subst e
    simp [writePattern, not_telltaleDiffers]
  · have other : (writePattern p i v s).lamps.telltales[k] = s.lamps.telltales[k] := by
      simp only [writePattern, State.setLamps_lamps, Fin.getElem_fin]
      exact Vector.getElem_set_ne _ _ fun j => e (Fin.ext j)
    rw [other]
    exact TelltaleDiffers.irrefl _

/-- An element of a WRITE to a region whose elements report nothing as they take effect. -/
theorem quiet_writeElement (r : Region) (p : Port) (i : Nat) (data : List Byte)
    (h : r ≠ .signals ∧ r ≠ .tacho ∧ r ≠ .distance ∧ r ≠ .control) : Quiet s (writeElement r p i data s) := by
  obtain ⟨hs, ht, hd, hc⟩ := h
  cases r with
  | signals => exact absurd rfl hs
  | tacho => exact absurd rfl ht
  | distance => exact absurd rfl hd
  | control => exact absurd rfl hc
  | telltales =>
    simp only [writeElement]
    cases finOf 40 i with
    | none => exact .refl s
    | some k => exact quiet_writePattern ..
  | chimes =>
    simp only [writeElement]
    cases finOf 8 i with
    | none => exact .refl s
    | some k => exact ⟨.of_telltales rfl, .of_ports _ rfl, rfl, rfl⟩
  | config => exact ⟨.of_lamps rfl, .of_ports _ rfl, rfl, rfl⟩
  | watch => exact quiet_setPort fun i h => (List.mem_filter.1 h).1
  | directory | signalDetail | gauges | links | cycleState => exact .refl s

/-- Signals written one after another report entries and gauges. -/
theorem writeSignals_reports (p : Port) (items : List (Nat × List Byte)) :
    SameShown s (items.foldl (fun s it => writeElement .signals p it.1 it.2 s) s) ∧
      ReportedOnly ofTable s (items.foldl (fun s it => writeElement .signals p it.1 it.2 s) s) := by
  have one (s : State) (it : Nat × List Byte) :
      SameShown s (writeElement .signals p it.1 it.2 s) ∧ ReportedOnly ofTable s (writeElement .signals p it.1 it.2 s) := by
    simp only [writeElement]
    cases finOf 64 it.1 with
    | none => exact ⟨.refl s, .refl s _⟩
    | some e => exact ⟨deliverTo_shown _ _ e s, deliverTo_only _ _ e s⟩
  exact ⟨foldl_rel SameShown.refl (fun _ _ _ => .trans) _ (fun s it => (one s it).1) items s, .foldl s _ (fun s it => (one s it).2) items⟩

/-! ## DISTANCE -/

/-- What seeds and resets of the trips, each of which is accepted, may have made of the distance counter (R49, R54). -/
structure DistanceWritten (a b : Distance) : Prop where
  odo : (b.odo = a.odo ∧ b.odoState = a.odoState) ∨ (a.odoState = .unknown ∧ b.odoState = .seeded)
  mismatch : b.mismatch = a.mismatch
  ldc : b.ldc = a.ldc
  tripA : b.tripA = a.tripA ∨ b.tripA = 0
  tripB : b.tripB = a.tripB ∨ b.tripB = 0

theorem DistanceWritten.differs {a b : Distance} (h : DistanceWritten a b) :
    DistanceDiffers a b ↔ b.odoState ≠ a.odoState ∨ b.tripA ≠ a.tripA ∨ b.tripB ≠ a.tripB := by
  unfold DistanceDiffers
  rw [h.mismatch, h.ldc]
  rcases h.odo with ⟨odo, state⟩ | ⟨unknown, seeded⟩
  · simp [odo, state]
  · simp [unknown, seeded]

/-- The distance counter that an element of DISTANCE makes (R49, R54). -/
def Distance.written (i v : Nat) (d : Distance) : Distance :=
  if i = 0 then d.seed v else if i = 2 then { d with tripA := 0 } else { d with tripB := 0 }

theorem DistanceWritten.refl (a : Distance) : DistanceWritten a a := ⟨.inl ⟨rfl, rfl⟩, rfl, rfl, .inl rfl, .inl rfl⟩

/-- A further element keeps what an earlier one has changed. -/
theorem DistanceWritten.write {a b : Distance} (h : DistanceWritten a b) (i v : Nat) (seeds : i = 0 → a.odoState = .unknown) :
    DistanceWritten a (b.written i v) ∧ (DistanceDiffers a b ∨ DistanceDiffers b (b.written i v) → DistanceDiffers a (b.written i v)) := by
  by_cases hi : i = 0
  · have seeded : b.written i v = b.seed v := if_pos hi
    rw [seeded]
    refine ⟨⟨.inr ⟨seeds hi, rfl⟩, h.mismatch, h.ldc, h.tripA, h.tripB⟩, fun _ => .inr (.inl ?_)⟩
    rw [seeds hi]
    exact nofun
  · by_cases h2 : i = 2
    · have cleared : b.written i v = { b with tripA := 0 } := by simp [Distance.written, h2]
      have next : DistanceWritten a { b with tripA := 0 } := ⟨h.odo, h.mismatch, h.ldc, .inr rfl, h.tripB⟩
      rw [cleared]
      refine ⟨next, fun d => next.differs.2 ?_⟩
      have trip := h.tripA
      rw [h.differs] at d
      simp only [DistanceDiffers, ne_eq, not_true_eq_false, false_or, or_false] at d ⊢
      grind
    · have cleared : b.written i v = { b with tripB := 0 } := by simp [Distance.written, hi, h2]
      have next : DistanceWritten a { b with tripB := 0 } := ⟨h.odo, h.mismatch, h.ldc, h.tripA, .inr rfl⟩
      rw [cleared]
      refine ⟨next, fun d => next.differs.2 ?_⟩
      have trip := h.tripB
      rw [h.differs] at d
      simp only [DistanceDiffers, ne_eq, not_true_eq_false, false_or] at d ⊢
      grind

/-- What elements of DISTANCE, written one after another, make and report. -/
structure DistanceReports (s u : State) : Prop where
  shown : SameShown s u
  written : DistanceWritten s.dist u.dist
  reports : ReportedOnly (fun i => i = distanceItem ∧ DistanceDiffers s.dist u.dist) s u

theorem DistanceReports.refl (s : State) : DistanceReports s s := ⟨.refl s, .refl _, .refl s _⟩

theorem DistanceReports.write {s u : State} (h : DistanceReports s u) (i v : Nat) (seeds : i = 0 → s.dist.odoState = .unknown) :
    DistanceReports s (writeDistance i v u) := by
  obtain ⟨written, differs⟩ := h.written.write i v seeds
  have dist : (writeDistance i v u).dist = u.dist.written i v := putDistance_dist ..
  refine ⟨h.shown.trans (putDistance_shown u _), by rw [dist]; exact written, ?_⟩
  rw [dist]
  refine (h.reports.mono fun j => And.imp id fun d => differs (.inl d)).trans fun p j hj => ?_
  rcases putDistance_reports u _ hj with k | ⟨e, d⟩
  · exact .inl k
  · rw [putDistance_dist] at d
    exact .inr ⟨e, differs (.inr d)⟩

theorem writeDistances_reports (s : State) (p : Port) (items : List (Nat × List Byte))
    (judged : ∀ it ∈ items, judgeElement .distance p it.1 it.2 s = none) :
    DistanceReports s (items.foldl (fun s it => writeElement .distance p it.1 it.2 s) s) := by
  have seeds (it : Nat × List Byte) (h : judgeElement .distance p it.1 it.2 s = none) (h0 : it.1 = 0) : s.dist.odoState = .unknown := by
    by_contra k
    have refused : judgeDistance s.dist it.1 it.2 ≠ none := by simp [judgeDistance, refuseIf, h0, k]
    exact refused h
  have each : ∀ (l : List (Nat × List Byte)) (u : State), (∀ it ∈ l, judgeElement .distance p it.1 it.2 s = none) → DistanceReports s u →
      DistanceReports s (l.foldl (fun s it => writeElement .distance p it.1 it.2 s) u) := by
    intro l
    induction l with
    | nil => exact fun u _ h => h
    | cons it l ih =>
      intro u hl hu
      exact ih _ (fun x hx => hl x (List.mem_cons_of_mem _ hx)) (hu.write _ _ (seeds it (hl it List.mem_cons_self)))
  exact each items s judged (.refl s)

/-! ## TACHO -/

/-- The telltale unit stands as its claims and the cycle give it. -/
structure UnitSettled (x : State) : Prop where
  resolved : ClaimsResolved x
  failed : FailedCondition x
  lamps : LampsSettled x

theorem unitSettled_settleUnits {v : State} (hn : LampsNormal v) : UnitSettled (settleUnits true v) :=
  ⟨settleUnits_resolved hn, settleUnits_failedCondition v, settleUnits_lampsSettled v⟩

theorem UnitSettled.congr {v x : State} (h : UnitSettled v) (inputs : SameInputs v x) (cycle : x.cycle = v.cycle) (lamps : x.lamps = v.lamps)
    (condition : x.cond .telltaleFailed = v.cond .telltaleFailed) : UnitSettled x :=
  ⟨h.resolved.congr inputs (by rw [lamps]) (fun _ => by rw [lamps]) (fun _ => by rw [lamps]) condition,
    h.failed.congr (by rw [lamps]) (fun _ => by rw [lamps]) condition,
    h.lamps.congr (by rw [lamps]) (by rw [lamps]) (by rw [lamps]) (by rw [lamps]) cycle⟩

theorem UnitSettled.setPort {v : State} (h : UnitSettled v) {p : Port} {y : PortState} (hl : y.link = (v.port p).link) : UnitSettled (setPort p y v) := by
  have link : ((Machine.setPort p y v).port .dlink).link = (v.port .dlink).link := by
    rw [port_setPort]
    split
    next e => rw [hl, e]
    · rfl
  have fallback : (Machine.setPort p y v).fallbackOn = v.fallbackOn := by
    rw [State.fallbackOn, State.fallbackOn, link]
    rfl
  exact h.congr ⟨rfl, rfl, fun _ _ => rfl, fallback, rfl, fun _ => ⟨rfl, rfl, rfl⟩⟩ rfl rfl rfl

theorem UnitSettled.pushResult {v : State} (h : UnitSettled v) (p : Port) (o : RequestOutcome) (n : Nat) (data : List Byte) :
    UnitSettled (pushResult p o n data v) := by
  unfold Machine.pushResult mapExec
  dsimp only
  have taken := h.setPort (p := p) (y := { v.port p with exec := (v.port p).exec.map fun f =>
    { f with results := f.results ++ resultBytes o n data, room := f.room - data.length } }) rfl
  split
  · exact taken.setPort rfl
  · exact taken

/-- It shows the same behind the end of the event. -/
theorem UnitSettled.shown {x : State} (h : UnitSettled x) (b : State) : SameShown x (finishEvent b x) := by
  refine (settleUnits_same h.resolved h.failed h.lamps.patterns).trans (.of_lamps ?_)
  unfold finishEvent cycleNotice
  split <;> rfl

/-- What a record's arrival reports (R138): the readout, and entries, gauges and the distance counter that it changes. -/
structure ArrivalReports (s u : State) : Prop where
  settled : UnitSettled u
  reports : ReportedOnly (fun i => ofTable i ∨ i = tachoItem ∨ (i = distanceItem ∧ DistanceDiffers s.dist u.dist) ∨ lampChanged s u i) s u

theorem arrivalReports {st : ReadoutSettings} (rec : TachoRecord) (s : State) (hn : LampsNormal s) (hs : s.tacho.settings = some st) :
    ArrivalReports s (recordArrival rec s) := by
  unfold recordArrival
  rw [hs]
  dsimp only
  have stored : SameShown s (storeRecord rec s) ∧ (storeRecord rec s).ports = s.ports ∧ (storeRecord rec s).dist = s.dist ∧
      (storeRecord rec s).lamps.settings = s.lamps.settings := ⟨.of_lamps rfl, rfl, rfl, rfl⟩
  generalize storeRecord rec s = s1 at stored ⊢
  obtain ⟨shown1, ports1, dist1, settings1⟩ := stored
  have table2 := deliverTo_table (.link .tlink) (.value rec.speed) 2 s1
  have shown2 := deliverTo_shown (.link .tlink) (.value rec.speed) 2 s1
  have only2 := deliverTo_only (.link .tlink) (.value rec.speed) 2 s1
  generalize deliverTo (.link .tlink) (.value rec.speed) 2 s1 = s2 at table2 shown2 only2 ⊢
  have reports3 {p : Port} {i : Fin 113} := putDistance_reports s2 (p := p) (i := i) (s2.dist.adopt rec.odometer)
  have shown3 := putDistance_shown s2 (s2.dist.adopt rec.odometer)
  have settings3 := (settingsKept_putDistance s2 (s2.dist.adopt rec.odometer)).lamps
  generalize putDistance (s2.dist.adopt rec.odometer) s2 = s3 at reports3 shown3 settings3 ⊢
  have current : (becomeCurrent st rec s3).lamps = s3.lamps ∧ (becomeCurrent st rec s3).ports = s3.ports ∧ (becomeCurrent st rec s3).dist = s3.dist := by
    simp [becomeCurrent, judgeStale, judgeRecord, judgeDriving]
  generalize becomeCurrent st rec s3 = v at current ⊢
  obtain ⟨lamps4, ports4, dist4⟩ := current
  have normal : LampsNormal v := hn.kept (by rw [lamps4, settings3, table2.lampSettings, settings1])
  have shown : SameShown s v := shown1.trans (shown2.trans (shown3.trans (.of_lamps lamps4)))
  have ended : EventEnd (settleUnits true v) (signalEvent .tachoRecord (reportTacho v)) :=
    (EventEnd.raiseItem not_ofTable_tacho _).trans (.signalEvent _ _)
  have dist : (signalEvent .tachoRecord (reportTacho v)).dist = s3.dist := (ended.dist.trans (settleUnits_eventEnd true v).dist).trans dist4
  refine ⟨(unitSettled_settleUnits normal).congr ended.inputs ended.cycle rfl rfl, fun p i h => ?_⟩
  rw [dist]
  rcases ReportedOnly.signalEvent (reportTacho v) (fun _ => False) .tachoRecord p i h with h | h
  · rcases reportTacho_reports h with h | h | ⟨k, e, d⟩
    · rw [port_of_ports ports4] at h
      rcases reports3 h with h | ⟨e, d⟩
      · refine (only2 p i h).imp (fun k => by rwa [port_of_ports ports1] at k) .inl
      · rw [table2.dist, dist1] at d
        exact .inr (.inr (.inr (.inl ⟨e, d⟩)))
    · exact .inr (.inr (.inl h))
    · exact .inr (.inr (.inr (.inr ⟨k, e, shown.left' d⟩)))
  · exact h.elim

/-! ## A WRITE -/

/-- What a request of a frame may report besides what has changed: a WRITE of signals entries and gauges, a WRITE of a record the readout too. -/
def requestDue (q : Request) (i : Fin 113) : Prop :=
  (∃ index count data, q = .write .signals index count data ∧ ofTable i) ∨
    (∃ index count data, q = .write .tacho index count data ∧ (ofTable i ∨ i = tachoItem))

section
variable {s m : State}

theorem Quiet.accountedFrom {due : Port → Fin 113 → Prop} {u : State} (a : Beside s m) (b : Quiet m u) : Accounted due s u := (a.toQuiet.trans b).accounted

/-- A restart leaves no list with an item, and no settings in the telltale unit. -/
theorem accounted_restarted (due : Port → Fin 113 → Prop) (p : Port) (o : RequestOutcome) (n : Nat) (data : List Byte) (v : State) :
    Accounted due s (pushResult p o n data (restart v)) := by
  have quiet := quiet_pushResult (restart v) p o n data
  have settings : (pushResult p o n data (restart v)).lamps.settings = none := (settingsKept_pushResult (restart v) p o n data).lamps
  generalize pushResult p o n data (restart v) = u at quiet settings ⊢
  refine accounted_of (fun q i h => ?_) fun i ⟨k, _, d⟩ => ?_
  · rcases quiet.silent q i h with k | k
    · cases q <;> exact absurd k List.not_mem_nil
    · exact k.elim
  · have same : (finishEvent s u).lamps.telltales = u.lamps.telltales := by
      rw [← settleUnits_unset settings]
      unfold finishEvent cycleNotice
      split <;> rfl
    rw [same] at d
    exact absurd d (TelltaleDiffers.irrefl _)

theorem accounted_runControl {q : Request} (alike : Beside s m) (p : Port) (i : Nat) (o : RequestOutcome) (n : Nat) (data : List Byte) :
    Accounted (fun _ => requestDue q) s (pushResult p o n data (runControl p i m)) := by
  have quiet (u : State) (h : Quiet m u) : Accounted (fun _ => requestDue q) s (pushResult p o n data u) :=
    Quiet.accountedFrom alike (h.trans (quiet_pushResult ..))
  unfold runControl
  split
  · exact quiet _ (.trans (u := (m.setStore { m.store with state := .committing }).setCycle { m.cycle with commitInFlight := true })
      ⟨.of_lamps rfl, .of_ports _ rfl, rfl, rfl⟩ (quiet_mapExec ..))
  · split
    · unfold requestRestart
      split
      · exact quiet _ (beside_setCycle m (x := { m.cycle with restartPending := true }) rfl).toQuiet
      · exact accounted_restarted _ p o n data m
    · exact quiet _ (beside_setCycle m (x := { m.cycle with causeSwitch := false, causeWindow := false }) rfl).toQuiet

/-- A WRITE of signals: what it reports is due. -/
theorem accounted_writeSignals {index count : Nat} {data : List Byte} (alike : Beside s m) (p : Port) (items : List (Nat × List Byte))
    (o : RequestOutcome) (n : Nat) :
    Accounted (fun _ => requestDue (.write .signals index count data)) s
      (pushResult p o n [] (items.foldl (fun s it => writeElement .signals p it.1 it.2 s) m)) := by
  have written := writeSignals_reports m p items
  generalize items.foldl (fun s it => writeElement .signals p it.1 it.2 s) m = u at written ⊢
  have answered := quiet_pushResult u p o n []
  have reports : ReportedOnly ofTable s (pushResult p o n [] u) :=
    (alike.silent.mono fun _ => False.elim).trans (written.2.trans (answered.silent.mono fun _ => False.elim))
  exact accounted_shown (alike.shown.trans (written.1.trans answered.shown)) fun q i h =>
    (reports q i h).imp id fun h => .inr (.inl ⟨index, count, data, rfl, h⟩)

/-- A WRITE of the distance counter: what it reports has changed. -/
theorem accounted_writeDistances {due : Port → Fin 113 → Prop} (alike : Beside s m) (p : Port) (items : List (Nat × List Byte))
    (judged : ∀ it ∈ items, judgeElement .distance p it.1 it.2 m = none) (o : RequestOutcome) (n : Nat) :
    Accounted due s (pushResult p o n [] (items.foldl (fun s it => writeElement .distance p it.1 it.2 s) m)) := by
  have written := writeDistances_reports m p items judged
  generalize items.foldl (fun s it => writeElement .distance p it.1 it.2 s) m = u at written ⊢
  have answered := beside_pushResult u p o n []
  have reports : ReportedOnly (fun i => i = distanceItem ∧ DistanceDiffers m.dist u.dist) s (pushResult p o n [] u) :=
    (alike.silent.mono fun _ => False.elim).trans (written.reports.trans (answered.silent.mono fun _ => False.elim))
  refine accounted_shown (alike.shown.trans (written.shown.trans answered.shown)) fun q i h => (reports q i h).imp id fun ⟨e, d⟩ => .inl ?_
  rw [alike.dist, ← answered.dist] at d
  exact .inr (.inr (.inr ⟨e, d⟩))

/-- A WRITE of a record: entries and gauges, and the readout, are due; all else that it reports has changed. -/
theorem accounted_writeRecord {index count : Nat} {data : List Byte} (alike : Beside s m) (hn : LampsNormal m) (p : Port) (rec : TachoRecord)
    (o : RequestOutcome) (n : Nat) :
    Accounted (fun _ => requestDue (.write .tacho index count data)) s (pushResult p o n [] (recordArrival rec m)) := by
  cases hs : m.tacho.settings with
  | none =>
    have lost : recordArrival rec m = m := by
      unfold recordArrival
      rw [hs]
    rw [lost]
    exact Quiet.accountedFrom alike (quiet_pushResult ..)
  | some st =>
    have arrived := arrivalReports rec m hn hs
    generalize recordArrival rec m = u at arrived ⊢
    have answered := beside_pushResult u p o n []
    have settled := arrived.settled.pushResult p o n []
    have due {i : Fin 113} (h : ofTable i ∨ i = tachoItem) : requestDue (.write .tacho index count data) i := .inr ⟨index, count, data, rfl, h⟩
    generalize pushResult p o n [] u = v at answered settled ⊢
    refine accounted_settled (settled.shown s) fun q i h => ?_
    rcases answered.silent q i h with h | h
    · rcases arrived.reports q i h with h | h | h | ⟨e, d⟩ | ⟨k, e, d⟩
      · exact .inl ((alike.silent q i h).resolve_right id)
      · exact .inr (.inr (.inr (due (.inl h))))
      · exact .inr (.inr (.inr (due (.inr h))))
      · rw [alike.dist, ← answered.dist] at d
        exact .inr (.inl (.inr (.inr (.inr ⟨e, d⟩))))
      · exact .inr (.inr (.inl ⟨k, e, answered.shown.right (alike.shown.left' d)⟩))
    · exact h.elim

theorem accounted_applyWrite (alike : Beside s m) (hn : LampsNormal m) (p : Port) (r : Region) (index first count : Nat) (data : List Byte)
    (hl : legalWrite r index count = true) (hj : firstRefusal r p (writeItems r first count data) m = none) :
    Accounted (fun _ => requestDue (.write r index count data)) s (applyWrite p r first count (writeItems r first count data) m) := by
  unfold applyWrite
  dsimp only
  obtain ⟨span, single⟩ := legalWrite_iff.1 hl
  obtain ⟨-, least, most⟩ := legalSpan_iff.1 span
  have judged : ∀ it ∈ writeItems r first count data, judgeElement r p it.1 it.2 m = none := List.findSome?_eq_none_iff.1 hj
  have moved : Beside s (setCursor p r ((first + count) % r.elements) m) := alike.trans (beside_setPort m rfl)
  have normal : LampsNormal (setCursor p r ((first + count) % r.elements) m) := hn
  have judged' : ∀ it ∈ writeItems r first count data, r = .distance →
      judgeElement .distance p it.1 it.2 (setCursor p r ((first + count) % r.elements) m) = none := by
    rintro it hit rfl
    exact judged it hit
  generalize (writeItems r first count data).any (fun it => clampsElement r it.1 it.2 m) = clamped
  generalize setCursor p r ((first + count) % r.elements) m = m1 at moved normal judged' ⊢
  generalize (if clamped then RequestOutcome.okClamped else .ok) = o
  by_cases hq : r ≠ .signals ∧ r ≠ .tacho ∧ r ≠ .distance ∧ r ≠ .control
  · refine Quiet.accountedFrom moved (.trans ?_ (quiet_pushResult ..))
    exact foldl_rel Quiet.refl (fun _ _ _ => .trans) _ (fun s (it : Nat × List Byte) => quiet_writeElement s r p it.1 it.2 hq) _ _
  · have special : r = .signals ∨ r = .tacho ∨ r = .distance ∨ r = .control := by tauto
    rcases special with rfl | rfl | rfl | rfl
    · exact accounted_writeSignals moved p _ o count
    · obtain rfl : count = 1 := le_antisymm most least
      exact accounted_writeRecord moved normal p _ o 1
    · exact accounted_writeDistances moved p _ (fun it hit => judged' it hit rfl) o count
    · obtain rfl : count = 1 := single rfl
      exact accounted_runControl moved p _ o 1 []

/-- A request of a frame reports nothing but what has changed, or what is due. -/
theorem accounted_runRequest (alike : Beside s m) (hn : LampsNormal m) (p : Port) (q : Request) :
    Accounted (fun _ => requestDue q) s (runRequest p q m) := by
  cases q with
  | read region index count => exact Quiet.accountedFrom alike (quiet_runRead ..)
  | wait index count => exact Quiet.accountedFrom alike (quiet_runWait ..)
  | changes count => exact Quiet.accountedFrom alike (quiet_runChanges ..)
  | faulty o => exact Quiet.accountedFrom alike (quiet_pushResult ..)
  | write r index count data =>
    have refused (o : RequestOutcome) : Accounted (fun _ => requestDue (.write r index count data)) s (pushResult p o 0 [] m) :=
      Quiet.accountedFrom alike (quiet_pushResult ..)
    show Accounted _ s (runWrite p r index count data m)
    unfold runWrite
    dsimp only
    split
    · exact refused _
    · split
      next legal =>
        exact refused _
      next legal =>
        split
        · exact refused _
        next hj => exact accounted_applyWrite alike hn p r index _ count data (by simpa using legal) hj

/-- One advance of a frame reports nothing but what has changed, or what its request makes due. -/
theorem advanceFrame_accounted {p : Port} {f : FrameExec} (hn : LampsNormal s) (hf : (s.port p).exec = some f) (q : Port) (i : Fin 113)
    (h : i ∈ ((advanceFrame p s).port q).changes) :
    i ∈ (s.port q).changes ∨ itemChanged s (advanceFrame p s) i ∨ ∃ r rest, f.rest = r :: rest ∧ requestDue r i := by
  cases hr : f.rest with
  | nil =>
    rw [advanceFrame_end s hf hr] at h
    have kept : Quiet s (finishFrame p f s) := by
      have ended : Beside s (setPort p (resumeLinkTimer s.inLoad
          { s.port p with exec := none, reply := some (replyFrame f.sequence .ok f.results) }) s) :=
        beside_setPort s (by unfold resumeLinkTimer; split <;> rfl)
      unfold finishFrame
      dsimp only
      exact quiet_ite (fun _ => ended.toQuiet.trans ⟨.of_lamps rfl, .of_ports _ rfl, rfl, rfl⟩) fun _ => ended.toQuiet
    exact .inl ((kept.silent q i h).resolve_right id)
  | cons r rest =>
    rw [advanceFrame_request s hf hr] at h ⊢
    have alike : Beside s (setPort p { s.port p with exec := some { f with rest := rest } } s) := beside_setPort s rfl
    exact (accounted_runRequest alike hn p r q i h).imp id (Or.imp id fun due => ⟨r, rest, rfl, due⟩)

end

end

end Sys2Proof.Machine
end

section
/-! Proofs: what is shown and reported at every step (R120 to R127, R162). -/

namespace Sys2Proof.Machine

section
variable (s : State)

theorem noticed_powerOn (strap : BitRate) (i : Fin 113) : noticed i (powerOn strap s) := by
  intro p watched
  have unwatched : ((powerOn strap s).port p).watch = .replicate 113 false := by cases p <;> rfl
  rw [unwatched] at watched
  simp at watched

theorem unlisted_powerOn (strap : BitRate) (p : Port) : ((powerOn strap s).port p).changes = [] := by cases p <;> rfl

theorem quiet_onRawLevel (input : Fin 24) (level : Level) : Quiet s (onRawLevel input level s) := by
  unfold onRawLevel
  dsimp only
  split
  · exact .refl s
  · split
    · exact (beside_setInput ..).toQuiet
    · exact (beside_setInput ..).toQuiet

theorem quiet_onBulbCheck : Quiet s (onBulbCheck s) :=
  quiet_ite (fun _ => (beside_setCycle s (x := { s.cycle with window := .stopped }) rfl).toQuiet.trans (quiet_judgePassage _)) fun _ => .refl s

variable {s}

/-- A command reports, by the end of its event, nothing but what has changed and what is due. -/
theorem exec_accounted (hn : LampsNormal s) (c : Instr) (hp : ∀ strap, c ≠ .powerOnReset strap) :
    ∃ u, exec c s = .next (complete s u) ∧ Accounted (dueOf c s u) s u := by
  cases c with
  | powerOnReset strap => exact absurd rfl (hp strap)
  | configLoadComplete => exact ⟨_, rfl, accounted_onLoadComplete s⟩
  | restartLoadEnd => exact ⟨_, rfl, accounted_onRestartLoadEnd s⟩
  | agingTimerExpiry => exact ⟨_, rfl, accounted_ageTable s⟩
  | reclaimTimerExpiry i => exact ⟨_, rfl, accounted_reclaimExpiry s i⟩
  | disagreementTimerExpiry i => exact ⟨_, rfl, accounted_disagreementExpiry s i⟩
  | pulseEdge i edge us => exact ⟨_, rfl, accounted_onEdge s _ i edge us⟩
  | gateExpiry i us => exact ⟨_, rfl, accounted_onGate s i us⟩
  | scanTimerExpiry => exact ⟨_, rfl, (quiet_ite (fun _ => quiet_beginPass s false) (fun _ => .refl s)).accounted⟩
  | parkedTimerExpiry => exact ⟨_, rfl, (quiet_onParkedTimer s).accounted⟩
  | testConversionsDone zero full => exact ⟨_, rfl, accounted_onTestsDone s zero full⟩
  | settleTimeExpiry => exact ⟨_, rfl, (quiet_onSettled s).accounted⟩
  | conversionDone code => exact ⟨_, rfl, accounted_onConversion s code⟩
  | rawLevelChange input level => exact ⟨_, rfl, (quiet_onRawLevel s input level).accounted⟩
  | debounceTimerExpiry input => exact ⟨_, rfl, accounted_onDebounce s input⟩
  | motionTimerExpiry k => exact ⟨_, rfl, accounted_putGauge s _ k _⟩
  | homingTimerExpiry k => exact ⟨_, rfl, accounted_putGauge s _ k _⟩
  | flasherPhaseChange which => exact ⟨_, rfl, (quiet_onFlasher s which).accounted⟩
  | openCheckTimerExpiry k current => exact ⟨_, rfl, accounted_onOpenCheck s _ k current⟩
  | lampShort k => exact ⟨_, rfl, accounted_onShort s _ k⟩
  | retryTimerExpiry k shorted => exact ⟨_, rfl, accounted_onRetry s k shorted⟩
  | chimeOnTimeExpiry => exact ⟨_, rfl, (quiet_changePlaying s ..).accounted⟩
  | chimeOffTimeExpiry => exact ⟨_, rfl, (quiet_changePlaying s ..).accounted⟩
  | recordAgeTimerExpiry => exact ⟨_, rfl, accounted_onRecordAge s _ hn⟩
  | estimationTimerExpiry => exact ⟨_, rfl, accounted_onEstimation s hn⟩
  | bulbCheckExpiry => exact ⟨_, rfl, (quiet_onBulbCheck s).accounted⟩
  | commitEnd => exact ⟨_, rfl, accounted_onCommitEnd s⟩
  | spiPeriodEnd p bytes => exact ⟨_, rfl, (recovers_endPeriod s p.toPort bytes).accounted _⟩
  | tlinkByteReceived b stop => exact ⟨_, rfl, (recovers_tlinkByte s b stop).accounted _⟩
  | tlinkGapTimeout => exact ⟨_, rfl, (recovers_tlinkGap s).accounted _⟩
  | tlinkReplySent => exact ⟨_, rfl, (beside_setPort s (p := .tlink) (x := { s.port .tlink with reply := none }) rfl).toQuiet.accounted⟩
  | waitTimerExpiry p => exact ⟨_, rfl, (quiet_mapExec s _ p).accounted⟩
  | linkTimerExpiry p => exact ⟨_, rfl, accounted_linkExpiry s p hn⟩
  | chipSelectActive p => exact ⟨_, rfl, (recovers_openPeriod s p.toPort).accounted _⟩

/-- What holds of a power-on reset and of the end of every command's event, holds where the command completes. -/
theorem completes_announced {c : Instr} {P : State → Prop} (h1 : c ≠ .configLoadComplete) (h2 : c ≠ .restartLoadEnd)
    (h : ∀ t, Reported s t → P t) : Completes c s P := by
  by_cases hp : ∃ strap, c = .powerOnReset strap
  · obtain ⟨strap, rfl⟩ := hp
    exact ⟨powerOn strap s, rfl, h _ (announces_powerOn s strap).toReported⟩
  · obtain ⟨u, hc, told⟩ := exec_announces s c (fun strap e => hp ⟨strap, e⟩) h1 h2
    exact completes_finish hc (h _ (told.trans (announces_finishEvent u s)).toReported)

end

theorem bulbChecked_eq (windowRunning : Bool) (d : TelltaleDesc) (p : Pattern) :
    bulbChecked windowRunning d p = if windowRunning = true ∧ d.proveOut = true ∧ p = .off then .on else p := by
  simp [bulbChecked, and_assoc]

theorem lit_iff (u : TelltaleUnit) (p : Pattern) :
    u.lit p = true ↔ p = .on ∨ p = .follow ∨ (p = .slow ∧ u.slowOn = true) ∨ (p = .fast ∧ u.fastOn = true) := by
  cases p <;> simp [TelltaleUnit.lit]

/-- Settles O9: each event's reports are judged by operation (`exec_announces`, `exec_accounted`), and its end settles the lamps. -/
theorem shownKept : Obligations.ShownKept := by
  refine ⟨fun s t h k => shown_establishedAtEnd.step trivial h k, bulbChecked_eq, fun c d p => ?_, lit_iff,
    fun c s h1 h2 => completes_announced h1 h2 fun t h => h.lamps, fun p s => (reported_advanceFrame s p).lamps,
    fun before s => (announces_finishEvent s before).lamps, fun c s hn => ?_, fun p f s hn hf => ?_, fun c s => ?_,
    fun c s h1 h2 => completes_announced h1 h2 fun t h => h.gauges, fun p s => (reported_advanceFrame s p).gauges⟩
  · refine ⟨?_, ?_, ?_⟩
    · rintro rfl
      rfl
    · rintro (rfl | rfl) <;> rfl
    · rintro (rfl | rfl) <;> rfl
  · by_cases hp : ∃ strap, c = .powerOnReset strap
    · obtain ⟨strap, rfl⟩ := hp
      refine ⟨powerOn strap s, rfl, fun p i h => ?_⟩
      rw [unlisted_powerOn] at h
      exact absurd h List.not_mem_nil
    · obtain ⟨u, hc, accounted⟩ := exec_accounted hn c fun strap e => hp ⟨strap, e⟩
      exact completes_finish hc accounted
  · intro t q i h
    refine (advanceFrame_accounted hn hf q i h).imp id (Or.imp id ?_)
    rintro ⟨r, rest, hr, ⟨index, count, data, rfl, table⟩ | ⟨index, count, data, rfl, readout⟩⟩
    · exact .inl ⟨index, count, data, rest, hr, table⟩
    · exact .inr ⟨index, count, data, rest, hr, readout⟩
  · rcases exec_forms (s := s) c with ⟨strap, rfl, -⟩ | ⟨u, hc, -⟩
    · exact ⟨powerOn strap s, rfl, fun _ => noticed_powerOn s strap _⟩
    · exact completes_finish hc finishEvent_noticed

end Sys2Proof.Machine
end

section
/-! Proofs: the signal table behind a delivery follows from the table before it alone (R2, R4, R11). -/

namespace Sys2Proof.Machine

section
variable {s t : State}

/-- An operation whose signal table follows from the table before it. -/
def TableLocal (f : State → State) : Prop := ∀ s t, t.signals = s.signals → (f t).signals = (f s).signals

theorem tableLocal_forAll {n : Nat} {f : Fin n → State → State} (h : ∀ i, TableLocal (f i)) : TableLocal (forAll n f) := by
  unfold forAll
  have each : ∀ l : List (Fin n), TableLocal (l.foldl fun s i => f i s) := by
    intro l
    induction l with
    | nil => exact fun _ _ e => e
    | cons i l ih => exact fun s t e => ih _ _ (h i s t e)
  exact each _

theorem judgePairOf_local (isUpdate : Bool) (a : Fin 64) : TableLocal (judgePairOf isUpdate a) := by
  intro s t h
  unfold judgePairOf
  rw [h]
  split
  · exact h
  · simp only [setEntry_signals, h]

theorem judgePairs_local (isUpdate : Bool) (i : Fin 64) : TableLocal (judgePairs isUpdate i) :=
  tableLocal_forAll fun a s t h => by
    rw [h]
    split
    · exact judgePairOf_local isUpdate a s t h
    · exact h

theorem noticeEntry_local (before : Entry) (i : Fin 64) : TableLocal (noticeEntry before i) := by
  intro s t h
  unfold noticeEntry
  rw [h]
  dsimp only
  split
  · simp only [raiseItem_signals, setEntry_signals, h]
  · exact h

theorem handEffective_local (i : Fin 64) : TableLocal (handEffective i) := fun s t h => by
  rw [(handEffective_took i t).1, (handEffective_took i s).1, h]

theorem reportPartners_local (table : Vector Entry 64) (i : Fin 64) : TableLocal (reportPartners table i) :=
  tableLocal_forAll fun a s t h => by
    rw [h]
    split
    · exact handEffective_local a _ _ (noticeEntry_local table[a] a s t h)
    · exact h

theorem recompute_local (before : Entry) (isUpdate : Bool) (i : Fin 64) : TableLocal (recompute before isUpdate i) := by
  intro s t h
  unfold recompute
  rw [h]
  exact reportPartners_local _ i _ _ <| handEffective_local i _ _ <| noticeEntry_local before i _ _ <| judgePairs_local isUpdate i _ _ <| by
    simp only [setEntry_signals, h]

theorem deliverTo_local (src : Source) (u : Update) (i : Fin 64) (h : t.signals = s.signals) (hs : s.cycle.state ≠ .load)
    (ht : t.cycle.state ≠ .load) : (deliverTo src u i t).signals = (deliverTo src u i s).signals := by
  unfold deliverTo
  rw [if_neg hs, if_neg ht, h]
  split
  · unfold updatePrimary
    rw [h]
    exact recompute_local _ true i _ _ (by simp only [setEntry_signals, h])
  · split
    · unfold updateAlternate
      rw [h]
      exact recompute_local _ true i _ _ (by simp only [setEntry_signals, h])
    · exact h

/-- Outside LOAD, a delivery's table follows from the table before it. -/
theorem deliver_local (src : Source) (u : Update) (h : t.signals = s.signals) (hs : s.cycle.state ≠ .load) (ht : t.cycle.state ≠ .load) :
    (deliver src u t).signals = (deliver src u s).signals := by
  unfold deliver forAll
  generalize List.finRange 64 = l
  induction l generalizing s t with
  | nil => exact h
  | cons i l ih =>
    exact ih (deliverTo_local src u i h hs ht) (fun k => hs ((deliverTo_table src u i s).inLoad.1 k))
      fun k => ht ((deliverTo_table src u i t).inLoad.1 k)

end

/-! ## A delivery in PARKED -/

/-- What a delivery in PARKED leaves as it is, of what the end of a commit speaks of. -/
structure KeptParked (s t : State) : Prop where
  blocks : t.pulse = s.pulse ∧ t.dist = s.dist ∧ t.conv = s.conv ∧ t.tacho = s.tacho ∧ t.store = s.store ∧ t.pending = s.pending
  conditions : ∀ c, c ≠ .telltaleFailed → t.cond c = s.cond c
  flashers : t.lamps.slowOn = s.lamps.slowOn ∧ t.lamps.fastOn = s.lamps.fastOn
  telltales : ∀ i : Fin 40, t.lamps.telltales[i].patterns = s.lamps.telltales[i].patterns ∧
    t.lamps.telltales[i].fault = s.lamps.telltales[i].fault ∧ t.lamps.telltales[i].retryTimer = s.lamps.telltales[i].retryTimer
  portClaims : ∀ i : Fin 8, t.lamps.chimes[i].portClaims = s.lamps.chimes[i].portClaims
  settings : ∀ i : Fin 6, t.gauges[i].settings = s.gauges[i].settings
  resting : ∀ i : Fin 6, s.gauges[i].state = .unhomed ∨ s.gauges[i].state = .parked → t.gauges[i] = s.gauges[i]
  ports : PortsTook s t

section
variable {s t u : State}

theorem KeptParked.of_eq (blocks : t.pulse = s.pulse ∧ t.dist = s.dist ∧ t.conv = s.conv ∧ t.tacho = s.tacho ∧ t.store = s.store ∧ t.pending = s.pending)
    (hc : t.conditions = s.conditions) (hl : t.lamps = s.lamps) (hg : t.gauges = s.gauges) (hp : t.ports = s.ports) : KeptParked s t where
  blocks := blocks
  conditions c _ := by simp only [State.cond, hc]
  flashers := by simp only [hl, and_self]
  telltales i := by simp only [hl, and_self]
  portClaims i := by rw [hl]
  settings i := by rw [hg]
  resting i _ := by rw [hg]
  ports := .of_ports hp

theorem KeptParked.refl (s : State) : KeptParked s s := .of_eq ⟨rfl, rfl, rfl, rfl, rfl, rfl⟩ rfl rfl rfl rfl

theorem KeptParked.trans (a : KeptParked s t) (b : KeptParked t u) : KeptParked s u where
  blocks := by
    obtain ⟨p, d, c, r, st, q⟩ := a.blocks
    obtain ⟨p', d', c', r', st', q'⟩ := b.blocks
    exact ⟨p'.trans p, d'.trans d, c'.trans c, r'.trans r, st'.trans st, q'.trans q⟩
  conditions c h := (b.conditions c h).trans (a.conditions c h)
  flashers := ⟨b.flashers.1.trans a.flashers.1, b.flashers.2.trans a.flashers.2⟩
  telltales i := by
    obtain ⟨p, f, r⟩ := a.telltales i
    obtain ⟨p', f', r'⟩ := b.telltales i
    exact ⟨p'.trans p, f'.trans f, r'.trans r⟩
  portClaims i := (b.portClaims i).trans (a.portClaims i)
  settings i := (b.settings i).trans (a.settings i)
  resting i h := by
    have first := a.resting i h
    exact (b.resting i (by rw [first]; exact h)).trans first
  ports := a.ports.trans b.ports

theorem Gauge.effectiveUpdate_resting {g : Gauge} (h : g.state = .unhomed ∨ g.state = .parked) (v : View) : g.effectiveUpdate .parked v = g := by
  unfold Gauge.effectiveUpdate
  rcases h with h | h
  · rw [h]
    split <;> rfl
  · rw [h]
    split
    · rfl
    · exact if_neg nofun

theorem converter_eq {a b : Converter} (settings : a.settings = b.settings) (pass : a.pass = b.pass) (slots : a.slots = b.slots)
    (supply : a.supply = b.supply) (lowCount : a.lowCount = b.lowCount) (overruns : a.overruns = b.overruns) (takeOver : a.takeOver = b.takeOver)
    (scanTimer : a.scanTimer = b.scanTimer) (parkedTimer : a.parkedTimer = b.parkedTimer) : a = b := by
  cases a
  cases b
  simp_all

theorem cycle_eq {a b : CycleController} (state : a.state = b.state) (ignition : a.ignition = b.ignition) (window : a.window = b.window)
    (windowLength : a.windowLength = b.windowLength) (commitInFlight : a.commitInFlight = b.commitInFlight)
    (restartPending : a.restartPending = b.restartPending) (causeSwitch : a.causeSwitch = b.causeSwitch)
    (causeWindow : a.causeWindow = b.causeWindow) : a = b := by
  cases a
  cases b
  simp_all

/-- A delivery in PARKED: the bank and the cycle controller stand too. -/
theorem deliver_parked (src : Source) (x : Update) (h : s.cycle.state = .parked) :
    KeptParked s (deliver src x s) ∧ (deliver src x s).switches = s.switches ∧ (deliver src x s).cycle = s.cycle := by
  have delivered := deliver_spec src x s (by rw [h]; decide)
  generalize deliver src x s = t at delivered ⊢
  obtain ⟨handed, -, took⟩ := delivered.followed.consumers
  have e := delivered.table
  have parked : t.cycle.state = .parked := (h ▸ e.passage).parked
  obtain ⟨scan, parkedTimer⟩ := e.timersKept (.inr h)
  refine ⟨⟨⟨e.pulse, e.dist, ?_, e.tacho, e.store, e.pending⟩, e.conditions, e.flashers, fun i => ⟨e.patterns i, (e.drivers i).1, (e.drivers i).2.2⟩,
    e.portClaims, e.gaugeSettings, fun i rest => ?_, e.ports⟩, e.switches, ?_⟩
  · exact converter_eq e.convSettings e.convPass e.convSlots e.supply e.lowCount e.overruns e.convTakeOver scan parkedTimer
  · rw [took.gauges i]
    cases s.gauges[i].settings with
    | none => rfl
    | some gs =>
      have keeps : ∀ l : List View, l.foldl (fun g v => g.effectiveUpdate s.cycle.state v) s.gauges[i] = s.gauges[i] := by
        intro l
        induction l with
        | nil => rfl
        | cons v l ih => rw [List.foldl_cons, h, Gauge.effectiveUpdate_resting rest, ← h, ih]
      exact keeps _
  · exact cycle_eq (parked.trans h.symm) e.ignition e.window e.windowLength e.commitInFlight e.restartPending e.causeSwitch e.causeWindow

end

end Sys2Proof.Machine
end

section
/-! Proofs: the switch bank's taking of its settings at the end of a commit in PARKED (R86). -/

namespace Sys2Proof.Machine

/-! ## One input -/

/-- An input whose running debounce timer has taken another time (R86). -/
def SwitchInput.retimed (ms : Nat) (x : SwitchInput) : SwitchInput :=
  { x with debounce := if x.debounce = .stopped then .stopped else .running ms }

/-- Whether a change of polarity changes the logical level of an input. -/
def repolarised (old new : SwitchSettings) (b : SwitchBank) (i : Fin 24) : Bool :=
  b.inputs[i].accepted.any fun l => logicalOf (old.polarity i) l != logicalOf (new.polarity i) l

/-- The ignition level behind the input `i` (R86, R151). -/
def ignitionBehind (old new : SwitchSettings) (b : SwitchBank) (i : Fin 24) (on : Bool) : Bool :=
  if i = 23 ∧ repolarised old new b i = true then b.inputs[i].accepted.elim on (logicalOf (new.polarity i)) else on

/-- The part once an input has taken its debounce time and its polarity, before its level is delivered again. -/
def inputTaken (old new : SwitchSettings) (i : Fin 24) (s : State) : State :=
  (setInput i (s.switches.inputs[i].retimed new.debounceMs[i]) s).setCycle
    { s.cycle with
      ignition := ignitionBehind old new s.switches i s.cycle.ignition
      causeSwitch := s.cycle.causeSwitch || (new.wake[i] && repolarised old new s.switches i) }

section
variable {s t u : State} {old new : SwitchSettings}

theorem setInput_self (i : Fin 24) (s : State) : setInput i s.switches.inputs[i] s = s := by
  have kept : s.switches.inputs.set i s.switches.inputs[i] = s.switches.inputs := Vector.set_getElem_self _
  unfold setInput
  rw [kept]
  rfl

/-- A running debounce timer takes the new time; a stopped one stays. -/
theorem setInput_retimed (ms : Nat) (i : Fin 24) (s : State) :
    (if s.switches.inputs[i].debounce.isRunning = true then setInput i { s.switches.inputs[i] with debounce := .running ms } s else s) =
      setInput i (s.switches.inputs[i].retimed ms) s := by
  cases h : s.switches.inputs[i].debounce with
  | stopped =>
    have stays : s.switches.inputs[i].retimed ms = s.switches.inputs[i] := by
      unfold SwitchInput.retimed
      rw [if_pos h, ← h]
    rw [stays, setInput_self]
    exact if_neg nofun
  | running n =>
    have taken : s.switches.inputs[i].retimed ms = { s.switches.inputs[i] with debounce := .running ms } := by
      unfold SwitchInput.retimed
      rw [h]
      rfl
    rw [taken]
    exact if_pos rfl

/-- In PARKED, where a commit is in flight, an ignition event sets the ignition level alone (R151). -/
theorem ignitionEvent_parked (on : Bool) (hc : s.cycle.state = .parked) (hf : s.cycle.commitInFlight = true) :
    ignitionEvent on s = withIgnition on s := by
  rw [ignitionEvent_eq]
  refine ignite_idle ?_
  cases on with
  | true => exact .inl ⟨rfl, .inr (.inr ⟨hc, hf⟩)⟩
  | false => exact .inr ⟨rfl, .inl hc⟩

/-- The ignition event and the wake cause of a level that a change of polarity has changed, in PARKED with a commit in flight. -/
theorem eventsOf_parked (wake before after : Bool) (i : Fin 24) (hc : s.cycle.state = .parked) (hf : s.cycle.commitInFlight = true)
    (h : before ≠ after) :
    wakeOf wake (some before) after (ignitionOf i (some before) after s) =
      s.setCycle { s.cycle with
        ignition := if i = 23 then after else s.cycle.ignition
        causeSwitch := s.cycle.causeSwitch || wake } := by
  have turned : before = !after := by cases before <;> cases after <;> simp_all
  have ignition : ignitionOf i (some before) after s = withIgnition (if i = 23 then after else s.cycle.ignition) s := by
    unfold ignitionOf
    by_cases hi : i = 23
    · rw [if_pos ⟨hi, h⟩, if_pos hi, ignitionEvent_parked after hc hf]
    · rw [if_neg fun k => hi k.1, if_neg hi]
      rfl
  rw [ignition, wakeOf_eq, wakes, turned]
  have parked : (withIgnition (if i = 23 then after else s.cycle.ignition) s).cycle.state = .parked := hc
  rw [parked, show (some (!after) == some (!after)) = true from beq_self_eq_true _, show (CycleState.parked == .parked) = true from rfl, Bool.and_true,
    Bool.and_true]
  rfl

theorem inputTaken_unchanged {i : Fin 24} (h : repolarised old new s.switches i = false) :
    inputTaken old new i s = setInput i (s.switches.inputs[i].retimed new.debounceMs[i]) s := by
  have level : ignitionBehind old new s.switches i s.cycle.ignition = s.cycle.ignition := if_neg fun k => by simp [h] at k
  unfold inputTaken
  rw [level, h, Bool.and_false, Bool.or_false]
  rfl

theorem inputTaken_changed {i : Fin 24} {l : Level} (ha : s.switches.inputs[i].accepted = some l) (h : repolarised old new s.switches i = true) :
    inputTaken old new i s = (setInput i (s.switches.inputs[i].retimed new.debounceMs[i]) s).setCycle
      { s.cycle with
        ignition := if i = 23 then logicalOf (new.polarity i) l else s.cycle.ignition
        causeSwitch := s.cycle.causeSwitch || new.wake[i] } := by
  have level : ignitionBehind old new s.switches i s.cycle.ignition = if i = 23 then logicalOf (new.polarity i) l else s.cycle.ignition := by
    unfold ignitionBehind
    rw [ha]
    simp only [h, and_true, Option.elim_some]
  unfold inputTaken
  rw [level, h, Bool.and_true]

theorem commitInput_eq (i : Fin 24) (hc : s.cycle.state = .parked) (hf : s.cycle.commitInFlight = true) :
    commitInput old new i s =
      s.switches.inputs[i].accepted.elim (inputTaken old new i s) fun l =>
        deliver (.switch i) (levelUpdate (logicalOf (new.polarity i) l)) (inputTaken old new i s) := by
  unfold commitInput
  dsimp only
  rw [setInput_retimed]
  cases ha : s.switches.inputs[i].accepted with
  | none =>
    have stays : repolarised old new s.switches i = false := by
      unfold repolarised
      rw [ha]
      rfl
    exact (inputTaken_unchanged stays).symm
  | some l =>
    have changes : repolarised old new s.switches i = (logicalOf (old.polarity i) l != logicalOf (new.polarity i) l) := by
      unfold repolarised
      rw [ha]
      rfl
    dsimp only [Option.elim_some]
    congr 1
    by_cases same : logicalOf (old.polarity i) l = logicalOf (new.polarity i) l
    · rw [if_pos same, inputTaken_unchanged (changes.trans (by simp [same]))]
    · rw [if_neg same, inputTaken_changed ha (changes.trans (by simp [same]))]
      exact eventsOf_parked _ _ _ i hc hf same

/-! ## All inputs -/

/-- The updates that hand the accepted levels of inputs again (R86). -/
def redelivered (new : SwitchSettings) (b : SwitchBank) (l : List (Fin 24)) : List (Source × Update) :=
  l.filterMap fun k => b.inputs[k].accepted.map fun x => (.switch k, levelUpdate (logicalOf (new.polarity k) x))

theorem deliverAll_nil (s : State) : deliverAll [] s = s := rfl

theorem deliverAll_append (l m : List (Source × Update)) (s : State) : deliverAll (l ++ m) s = deliverAll m (deliverAll l s) :=
  List.foldl_append

theorem deliverAll_inLoad (l : List (Source × Update)) (hl : s.cycle.state ≠ .load) : (deliverAll l s).cycle.state ≠ .load := by
  induction l generalizing s with
  | nil => exact hl
  | cons p l ih =>
    rw [deliverAll_cons]
    exact ih fun k => hl ((deliver_table p.1 p.2 s).inLoad.1 k)

/-- What the inputs of a list make of the part, one after another, as they take their settings. -/
structure InputsTaken (old new : SwitchSettings) (l : List (Fin 24)) (s t : State) : Prop where
  inputs : ∀ k : Fin 24, t.switches.inputs[k] = if k ∈ l then s.switches.inputs[k].retimed new.debounceMs[k] else s.switches.inputs[k]
  bank : t.switches.settings = s.switches.settings
  cycle : t.cycle =
    { s.cycle with
      ignition := if 23 ∈ l then ignitionBehind old new s.switches 23 s.cycle.ignition else s.cycle.ignition
      causeSwitch := s.cycle.causeSwitch || l.any fun k => new.wake[k] && repolarised old new s.switches k }
  kept : KeptParked s t
  table : ∀ v : State, v.signals = s.signals → v.cycle.state ≠ .load → (deliverAll (redelivered new s.switches l) v).signals = t.signals

theorem inputsTaken_nil (s : State) : InputsTaken old new [] s s :=
  ⟨fun _ => rfl, rfl, by simp, .refl s, fun _ h _ => h⟩

theorem inputTaken_kept (old new : SwitchSettings) (i : Fin 24) (s : State) : KeptParked s (inputTaken old new i s) :=
  .of_eq ⟨rfl, rfl, rfl, rfl, rfl, rfl⟩ rfl rfl rfl rfl

theorem inputTaken_input (old new : SwitchSettings) (i k : Fin 24) (s : State) :
    (inputTaken old new i s).switches.inputs[k] =
      if k = i then s.switches.inputs[k].retimed new.debounceMs[k] else s.switches.inputs[k] := by
  show (s.switches.inputs.set i (s.switches.inputs[i].retimed new.debounceMs[i]))[k] = _
  by_cases h : k = i
  · subst h
    rw [if_pos rfl]
    exact Vector.getElem_set_self _
  · rw [if_neg h]
    exact Vector.getElem_set_ne _ _ fun e => h (Fin.ext e.symm)

/-- One input's taking of its settings, as the first of a list. -/
structure InputTaken (old new : SwitchSettings) (i : Fin 24) (s t : State) : Prop where
  switches : t.switches = (inputTaken old new i s).switches
  cycle : t.cycle = (inputTaken old new i s).cycle
  kept : KeptParked s t
  table : ∀ v : State, v.signals = s.signals → v.cycle.state ≠ .load →
    (deliverAll (redelivered new s.switches [i]) v).signals = t.signals

theorem commitInput_taken (old new : SwitchSettings) (i : Fin 24) (hc : s.cycle.state = .parked) (hf : s.cycle.commitInFlight = true) :
    InputTaken old new i s (commitInput old new i s) := by
  rw [commitInput_eq i hc hf]
  have kept := inputTaken_kept old new i s
  have parked : (inputTaken old new i s).cycle.state = .parked := hc
  have signals : (inputTaken old new i s).signals = s.signals := rfl
  generalize hm : inputTaken old new i s = m at kept parked signals ⊢
  cases ha : s.switches.inputs[i].accepted with
  | none =>
    refine ⟨by rw [hm]; rfl, by rw [hm]; rfl, kept, fun v h _ => ?_⟩
    simp only [redelivered, List.filterMap_cons, List.filterMap_nil, ha, Option.map_none]
    exact h.trans signals.symm
  | some l =>
    obtain ⟨handed, switches, cycle⟩ := deliver_parked (.switch i) (levelUpdate (logicalOf (new.polarity i) l)) parked
    have one : redelivered new s.switches [i] = [(.switch i, levelUpdate (logicalOf (new.polarity i) l))] := by
      simp only [redelivered, List.filterMap_cons, List.filterMap_nil, ha, Option.map_some]
    have table (v : State) (h : v.signals = s.signals) (hv : v.cycle.state ≠ .load) :
        (deliver (.switch i) (levelUpdate (logicalOf (new.polarity i) l)) v).signals =
          (deliver (.switch i) (levelUpdate (logicalOf (new.polarity i) l)) m).signals :=
      deliver_local _ _ (h.trans signals.symm) (by rw [parked]; decide) hv
    rw [Option.elim_some]
    generalize deliver (.switch i) (levelUpdate (logicalOf (new.polarity i) l)) m = w at handed switches cycle table ⊢
    subst hm
    refine ⟨switches, cycle, kept.trans handed, fun v h hv => ?_⟩
    rw [one, deliverAll_cons, deliverAll_nil]
    exact table v h hv

theorem InputTaken.input {i : Fin 24} (h : InputTaken old new i s t) (k : Fin 24) :
    t.switches.inputs[k] = if k = i then s.switches.inputs[k].retimed new.debounceMs[k] else s.switches.inputs[k] := by
  rw [h.switches, inputTaken_input]

theorem InputTaken.accepted {i : Fin 24} (h : InputTaken old new i s t) (k : Fin 24) :
    t.switches.inputs[k].accepted = s.switches.inputs[k].accepted := by
  rw [h.input]
  split <;> rfl

theorem repolarised_congr {a b : SwitchBank} {k : Fin 24} (h : b.inputs[k].accepted = a.inputs[k].accepted) :
    repolarised old new b k = repolarised old new a k := by
  rw [repolarised, h, repolarised]

theorem ignitionBehind_congr {a b : SwitchBank} {k : Fin 24} (h : b.inputs[k].accepted = a.inputs[k].accepted) (on : Bool) :
    ignitionBehind old new b k on = ignitionBehind old new a k on := by
  rw [ignitionBehind, repolarised_congr h, h, ignitionBehind]

theorem redelivered_congr {a b : SwitchBank} (h : ∀ k : Fin 24, b.inputs[k].accepted = a.inputs[k].accepted) (l : List (Fin 24)) :
    redelivered new b l = redelivered new a l := by
  unfold redelivered
  simp only [h]

theorem redelivered_cons (b : SwitchBank) (i : Fin 24) (l : List (Fin 24)) :
    redelivered new b (i :: l) = redelivered new b [i] ++ redelivered new b l :=
  List.filterMap_append (l := [i]) (l' := l)

/-- The first input, and then the others. -/
theorem InputTaken.cons {i : Fin 24} {l : List (Fin 24)} (a : InputTaken old new i s t) (b : InputsTaken old new l t u) (hi : i ∉ l) :
    InputsTaken old new (i :: l) s u where
  inputs k := by
    rw [b.inputs k, a.input k]
    by_cases e : k = i
    · subst e
      rw [if_neg hi, if_pos rfl, if_pos List.mem_cons_self]
    · simp only [List.mem_cons, e, false_or, if_false]
  bank := by
    rw [b.bank, a.switches]
    rfl
  cycle := by
    have levels (k : Fin 24) := repolarised_congr (old := old) (new := new) (a.accepted k)
    rw [b.cycle, a.cycle, ignitionBehind_congr (a.accepted 23)]
    simp only [levels, List.any_cons, Bool.or_assoc, inputTaken, State.setCycle_cycle, List.mem_cons]
    have ignition : (if (23 : Fin 24) ∈ l then ignitionBehind old new s.switches 23 (ignitionBehind old new s.switches i s.cycle.ignition)
        else ignitionBehind old new s.switches i s.cycle.ignition) =
        if (23 : Fin 24) = i ∨ 23 ∈ l then ignitionBehind old new s.switches 23 s.cycle.ignition else s.cycle.ignition := by
      by_cases e : (23 : Fin 24) = i
      · subst e
        rw [if_neg hi, if_pos (.inl rfl)]
      · have stays : ignitionBehind old new s.switches i s.cycle.ignition = s.cycle.ignition := if_neg fun k => e k.1.symm
        simp only [stays, e, false_or]
    rw [ignition]
  kept := a.kept.trans b.kept
  table v h hv := by
    rw [redelivered_cons, deliverAll_append, ← redelivered_congr a.accepted l]
    exact b.table _ (a.table v h hv) (deliverAll_inLoad _ hv)

theorem inputsTaken (old new : SwitchSettings) {l : List (Fin 24)} (hl : l.Nodup) (s : State) (hc : s.cycle.state = .parked)
    (hf : s.cycle.commitInFlight = true) : InputsTaken old new l s (l.foldl (fun s i => commitInput old new i s) s) := by
  induction l generalizing s with
  | nil => exact inputsTaken_nil s
  | cons i l ih =>
    obtain ⟨hi, hl⟩ := List.nodup_cons.1 hl
    have first := commitInput_taken old new i hc hf
    rw [List.foldl_cons]
    generalize commitInput old new i s = m at first ⊢
    exact first.cons (ih hl m (by rw [first.cycle]; exact hc) (by rw [first.cycle]; exact hf)) hi

end

end Sys2Proof.Machine
end

section
/-! Proofs: what the blocks make of a new configuration at the end of a commit in PARKED (R24, R43, R77, R86, R108, R133, R147, R188). -/

namespace Sys2Proof.Machine

section
variable {s t u : State}

/-! ## The table -/

theorem noticeAllEntries_told (s : State) :
    (∃ p, noticeAllEntries s = s.setPorts p) ∧ PortsTook s (noticeAllEntries s) ∧ ∀ i : Fin 64, noticed (signalItem i) (noticeAllEntries s) := by
  have each : ∀ (l : List (Fin 64)) (s : State), (∃ p, (l.foldl (fun s i => raiseItem (signalItem i) s) s) = s.setPorts p) ∧
      PortsTook s (l.foldl (fun s i => raiseItem (signalItem i) s) s) ∧
      ∀ i ∈ l, noticed (signalItem i) (l.foldl (fun s i => raiseItem (signalItem i) s) s) := by
    intro l
    induction l with
    | nil => exact fun s => ⟨⟨s.ports, rfl⟩, .refl s, fun i h => absurd h List.not_mem_nil⟩
    | cons i l ih =>
      intro s
      have first := noticed_raiseItem s (signalItem i)
      have took := PortsTook.raiseItem s (signalItem i)
      have form : ∃ p, raiseItem (signalItem i) s = s.setPorts p := ⟨_, rfl⟩
      rw [List.foldl_cons]
      generalize raiseItem (signalItem i) s = m at first took form ⊢
      obtain ⟨p, rfl⟩ := form
      obtain ⟨⟨q, later⟩, ports, told⟩ := ih (s.setPorts p)
      refine ⟨⟨q, by rw [later]; rfl⟩, took.trans ports, fun k hk => ?_⟩
      rcases List.mem_cons.1 hk with rfl | hk
      · exact first.took ports
      · exact told k hk
  obtain ⟨form, took, told⟩ := each (List.finRange 64) s
  exact ⟨form, took, fun i => told i (List.mem_finRange i)⟩

/-! ## The switch bank -/

/-- The settings that the bank compares with: its own, where it has any (R86). -/
def priorSettings (c : Configuration) (s : State) : SwitchSettings := s.switches.settings.getD c.switches

theorem commitSwitches_taken (c : Configuration) (s : State) (hc : s.cycle.state = .parked) (hf : s.cycle.commitInFlight = true) :
    InputsTaken (priorSettings c s) c.switches (List.finRange 24) (s.setSwitches { s.switches with settings := some c.switches })
      (commitSwitches c s) :=
  inputsTaken _ _ (List.nodup_finRange 24) _ hc hf

/-! ## The telltale unit -/

/-- The telltale unit at the end of a commit, before its claims are resolved (R133). -/
def committedLamps (c : Configuration) (s : State) : TelltaleUnit :=
  { s.lamps with
    settings := some (lampSettings c)
    telltales := Vector.ofFn fun i : Fin 40 =>
      { s.lamps.telltales[i].commit c.telltales[i] with latches := c.telltales[i].claims.map (Claim.firstLatch s) }
    chimes := Vector.ofFn fun i : Fin 8 =>
      { s.lamps.chimes[i] with
        served := false
        portClaims := keepClaims c.chimes[i].claims s.lamps.chimes[i].portClaims
        latches := c.chimes[i].claims.map (Claim.firstLatch s) } }

theorem commitLampSettings_eq (c : Configuration) (s : State) :
    commitLampSettings c s = telltaleNotices s.lamps.telltales (s.setLamps (committedLamps c s)) := by
  have latches (x : TelltaleUnit) : Claim.firstLatch (s.setLamps x) = Claim.firstLatch s := firstLatch_congr rfl
  unfold commitLampSettings freshLatches committedLamps
  simp only [latches, State.setLamps_lamps, Fin.getElem_fin, Vector.getElem_ofFn, lampSettings]
  rfl

/-- A chime settled outside RUN does not become SERVED. -/
theorem Chime.settle_unserved {d : ChimeDesc} {claimed chosen : Bool} {x : Chime} (h : x.served = false) :
    (x.settle d claimed chosen false).served = false := by
  unfold Chime.settle
  split
  · rfl
  · rw [if_neg (by simp [h])]
    split
    · split
      · exact h
      · exact h
    · split
      · rw [if_neg (by simp)]
        exact h
      · exact h

theorem lampPass_chimes (st : LampSettings) (s : State) : (lampPass st s).lamps.chimes = s.lamps.chimes := by
  unfold lampPass
  rw [setCond_lamps, State.setLamps_lamps]

theorem lampRounds_chimes (st : LampSettings) : ∀ n s, (lampRounds n st s).lamps.chimes = s.lamps.chimes
  | 0, _ => rfl
  | n + 1, s => by
    unfold lampRounds
    dsimp only
    have first := lampPass_chimes st s
    generalize lampPass st s = m at first ⊢
    split
    · exact first
    · exact (lampRounds_chimes st n m).trans first

/-- No chime has its served flag set. -/
def Unserved (s : State) : Prop := ∀ i : Fin 8, s.lamps.chimes[i].served = false

theorem unserved_settleUnits (notify : Bool) (hc : s.cycle.state ≠ .run) (h : Unserved s) : Unserved (settleUnits notify s) := by
  have kept : (settleLamps notify s).lamps.chimes = s.lamps.chimes ∧ (settleLamps notify s).cycle = s.cycle := by
    refine ⟨?_, (settleLamps_eventEnd notify s).cycle⟩
    unfold settleLamps
    split
    · rfl
    · next st _ =>
      have rounds := lampRounds_chimes st 3 s
      generalize lampRounds 3 st s = m at rounds ⊢
      have shown : (showAll st m).lamps.chimes = s.lamps.chimes := by
        rw [showAll, State.setLamps_lamps]
        exact rounds
      dsimp only
      split
      · rw [(telltaleNotices_lamps _ _).1, shown]
      · exact shown
  obtain ⟨chimes, cycle⟩ := kept
  unfold settleUnits
  generalize settleLamps notify s = m at chimes cycle ⊢
  have unserved : Unserved m := fun i => by rw [chimes]; exact h i
  unfold settleChimes
  split
  · exact unserved
  · intro i
    have off : (m.cycle.state == .run) = false := by rw [cycle]; simpa using hc
    simp only [State.setLamps_lamps, Fin.getElem_fin, Vector.getElem_ofFn, off]
    exact Chime.settle_unserved (unserved i)

/-- What the telltale unit makes of its new settings (R133). -/
structure LampsTaken (c : Configuration) (s t : State) : Prop where
  ended : EventEnd (s.setLamps (committedLamps c s)) t
  unserved : s.cycle.state ≠ .run → Unserved t

theorem lampsTaken (c : Configuration) (s : State) : LampsTaken c s (settleUnits true (commitLampSettings c s)) := by
  rw [commitLampSettings_eq]
  have fresh : Unserved (s.setLamps (committedLamps c s)) := fun i => by simp [committedLamps]
  have cycle : (s.setLamps (committedLamps c s)).cycle = s.cycle := rfl
  generalize hm : s.setLamps (committedLamps c s) = m at fresh cycle
  have ended := telltaleNotices_eventEnd s.lamps.telltales m
  obtain ⟨lamps, -⟩ := telltaleNotices_lamps s.lamps.telltales m
  generalize telltaleNotices s.lamps.telltales m = n at ended lamps
  refine ⟨hm ▸ ended.trans (settleUnits_eventEnd true n), fun h => unserved_settleUnits true ?_ fun i => ?_⟩
  · rw [ended.cycle, cycle]
    exact h
  · rw [lamps]
    exact fresh i

/-! ## The gauges -/

/-- What the gauges make of their new settings in PARKED (R108). -/
structure GaugesTaken (g : Fin 6 → GaugeSettings) (l : List (Fin 6)) (s t : State) : Prop where
  moved : GaugesMoved s t
  gauges : ∀ k : Fin 6, t.gauges[k] = if k ∈ l then s.gauges[k].commit (g k) else s.gauges[k]
  ports : PortsTook s t

theorem putGauge_parked (i : Fin 6) (g : Gauge) (hc : s.cycle.state = .parked) : GaugesMoved s (putGauge i g s) := by
  unfold putGauge
  dsimp only
  generalize hm : (if gaugeNotice s.gauges[i] g = true then raiseItem (gaugeItem i) (s.setGauges (s.gauges.set i g))
      else s.setGauges (s.gauges.set i g) : State) = m
  have form : GaugesMoved s m := by
    rw [← hm]
    split
    · exact ⟨_, _, rfl⟩
    · exact ⟨s.gauges.set i g, s.ports, rfl⟩
  split
  · exact form
  · obtain ⟨x, p, rfl⟩ := form
    rw [judgePassage_parked (s := (s.setGauges x).setPorts p) hc]
    exact ⟨x, p, rfl⟩

theorem gaugesTaken (g : Fin 6 → GaugeSettings) {l : List (Fin 6)} (hl : l.Nodup) (s : State) (hc : s.cycle.state = .parked) :
    GaugesTaken g l s (l.foldl (fun s i => putGauge i (s.gauges[i].commit (g i)) s) s) := by
  induction l generalizing s with
  | nil => exact ⟨.refl s, fun k => rfl, .refl s⟩
  | cons i l ih =>
    obtain ⟨hi, hl⟩ := List.nodup_cons.1 hl
    have moved := putGauge_parked i (s.gauges[i].commit (g i)) hc
    have gauges := putGauge_gauges i (s.gauges[i].commit (g i)) s
    obtain ⟨took, -, -⟩ := putGauge_reported i (s.gauges[i].commit (g i)) s
    rw [List.foldl_cons]
    generalize putGauge i (s.gauges[i].commit (g i)) s = m at moved gauges took ⊢
    have parked : m.cycle.state = .parked := by
      obtain ⟨x, p, rfl⟩ := moved
      exact hc
    have rest := ih hl m parked
    refine ⟨moved.trans rest.moved, fun k => ?_, took.trans rest.ports⟩
    rw [rest.gauges k, gauges]
    by_cases e : k = i
    · subst e
      rw [if_neg hi, if_pos List.mem_cons_self]
      exact Vector.getElem_set_self _
    · have other : (s.gauges.set i (s.gauges[i].commit (g i)))[k] = s.gauges[k] := Vector.getElem_set_ne _ _ fun h => e (Fin.ext h.symm)
      simp only [other, List.mem_cons, e, false_or]

theorem commitGauges_taken (c : Configuration) (s : State) (hc : s.cycle.state = .parked) :
    GaugesTaken (gaugeSettings c s.store.gaugeMarks) (List.finRange 6) s (commitGauges c s) := by
  have steps : ∀ (l : List (Fin 6)) (t : State), t.cycle.state = .parked → t.store = s.store →
      l.foldl (fun s i => putGauge i (s.gauges[i].commit (gaugeSettings c s.store.gaugeMarks i)) s) t =
        l.foldl (fun t i => putGauge i (t.gauges[i].commit (gaugeSettings c s.store.gaugeMarks i)) t) t := by
    intro l
    induction l with
    | nil => exact fun _ _ _ => rfl
    | cons i l ih =>
      intro t ht hs
      rw [List.foldl_cons, List.foldl_cons, hs]
      obtain ⟨x, p, form⟩ := putGauge_parked i (t.gauges[i].commit (gaugeSettings c s.store.gaugeMarks i)) ht
      rw [form]
      exact ih _ ht hs
  have taken := gaugesTaken (gaugeSettings c s.store.gaugeMarks) (List.nodup_finRange 6) s hc
  rw [← steps _ s hc rfl] at taken
  exact taken

theorem Gauge.commit_settings (g : GaugeSettings) (x : Gauge) : (x.commit g).settings = some g := by
  unfold Gauge.commit
  dsimp only
  split <;> rfl

/-! ## The ports -/

theorem PortState.take_timeout (e : PortEvent) (n : Nat) (x : PortState) : PortState.take { x with timeout := n } e = { x.take e with timeout := n } := by
  have signal (ev : WaitEvent) (x : PortState) : PortState.signal ev { x with timeout := n } = { x.signal ev with timeout := n } := by
    unfold PortState.signal
    dsimp only
    split
    · split
      · split <;> rfl
      · rfl
    · rfl
  cases e with
  | signal ev => exact signal ev x
  | notice i =>
    show PortState.notice i { x with timeout := n } = { x.notice i with timeout := n }
    unfold PortState.notice
    dsimp only
    split
    · exact signal .change { x with changes := x.changes ++ [i] }
    · rfl

theorem PortState.takeAll_timeout (l : List PortEvent) (n : Nat) (x : PortState) :
    PortState.takeAll { x with timeout := n } l = { x.takeAll l with timeout := n } := by
  induction l generalizing x with
  | nil => rfl
  | cons e l ih =>
    show PortState.takeAll (PortState.take { x with timeout := n } e) l = _
    rw [take_timeout]
    exact ih _

/-- From `s` to `t` every port has taken the same notices and events, and its timeout. -/
def PortsTimed (c : Configuration) (s t : State) : Prop :=
  t.ports.bitRate = s.ports.bitRate ∧ ∃ l, ∀ p, t.port p = { (s.port p).takeAll l with timeout := c.timing.timeout p }

theorem PortsTook.timed {c : Configuration} (h : PortsTook s t) (ht : u.ports = (takeTimeouts c t).ports) : PortsTimed c s u := by
  obtain ⟨rate, l, took⟩ := h
  refine ⟨by rw [ht]; exact rate, l, fun p => ?_⟩
  have timed : u.port p = { t.port p with timeout := c.timing.timeout p } := by
    rw [State.port, ht]
    cases p <;> rfl
  rw [timed, took]

theorem PortsTimed.took {c : Configuration} (h : PortsTimed c s t) (k : PortsTook t u) : PortsTimed c s u := by
  obtain ⟨rate, l, timed⟩ := h
  obtain ⟨rate', m, took⟩ := k
  refine ⟨rate'.trans rate, l ++ m, fun p => ?_⟩
  rw [took, timed, PortState.takeAll_timeout]
  simp only [PortState.takeAll, List.foldl_append]

theorem noticed.timed {c : Configuration} {i : Fin 113} (h : noticed i t) (ht : u.ports = (takeTimeouts c t).ports) : noticed i u := by
  intro p
  have timed : u.port p = { t.port p with timeout := c.timing.timeout p } := by
    rw [State.port, ht]
    cases p <;> rfl
  rw [timed]
  exact h p

end

end Sys2Proof.Machine
end

section
/-! Proofs: the stages of a commit's end in PARKED, one behind the other (R188). -/

namespace Sys2Proof.Machine

section
variable {s t u w e : State} {c : Configuration}

/-! ## The stages behind the switch bank -/

theorem unserved_takeReadoutSettings (hc : s.cycle.state ≠ .run) (h : Unserved s) : Unserved (takeReadoutSettings c s) := by
  obtain ⟨m, taken, lamps, cycle⟩ : ∃ m, takeReadoutSettings c s = (if s.tacho.remaining = m.tacho.remaining then m else reportTacho m) ∧
      m.lamps = s.lamps ∧ m.cycle = s.cycle := ⟨_, rfl, rfl, rfl⟩
  have unserved : Unserved m := fun i => by rw [lamps]; exact h i
  rw [taken]
  split
  · exact unserved
  · exact unserved_settleUnits true (by rw [cycle]; exact hc) unserved

/-- What the stages behind the switch bank make of the part, and the close of the commit. -/
structure HandedOn (c : Configuration) (w z : State) : Prop where
  blocks : z.signals = w.signals ∧ z.dist = w.dist ∧ z.switches = w.switches ∧ z.pending = w.pending
  pulse : z.pulse = w.pulse.map fun x => { x with takeOver := true }
  conv : z.conv = { w.conv with takeOver := true }
  store : z.store = { w.store with state := .loaded, programming := false }
  gauges : ∀ k : Fin 6, z.gauges[k] = w.gauges[k].commit (gaugeSettings c w.store.gaugeMarks k)
  lamps : ClaimsKept (committedLamps c w) z.lamps
  unserved : Unserved z
  tacho : z.tacho = takenReadout c w.tacho
  cycle : z.cycle = { w.cycle with windowLength := c.timing.bulbMs, commitInFlight := false }
  defaults : z.cond .configDefaults = false
  conditions : ∀ d, d ∉ [.configDefaults, .telltaleFailed, .tachoPrewarn, .tachoLimit] → z.cond d = w.cond d
  ports : PortsTimed c w z
  notices : ∀ i, noticed i w → noticed i z
  readout : z.tacho.remaining ≠ w.tacho.remaining → noticed tachoItem z

/-- The close of the commit, behind the timeouts, the window length and the take-overs. -/
def closed (c : Configuration) (b : State) : State := closeCommit (setTakeOvers (takeWindowLength c (takeTimeouts c b)))

theorem handedOn (c : Configuration) (w : State) (hc : w.cycle.state = .parked) :
    HandedOn c w (closed c (takeReadoutSettings c (commitGauges c (settleUnits true (commitLampSettings c w))))) := by
  have lamps := lampsTaken c w
  generalize settleUnits true (commitLampSettings c w) = x at lamps ⊢
  have unit := lamps.ended
  have unserved := lamps.unserved (by rw [hc]; decide)
  have parked : x.cycle.state = .parked := (congrArg CycleController.state unit.cycle).trans hc
  have gauges := commitGauges_taken c x parked
  generalize commitGauges c x = y at gauges ⊢
  obtain ⟨⟨gs, ps, rfl⟩, commits, took⟩ := gauges
  have unservedY : Unserved ((x.setGauges gs).setPorts ps) := unserved
  have unservedB := unserved_takeReadoutSettings (c := c) (s := (x.setGauges gs).setPorts ps)
    (by show x.cycle.state ≠ .run; rw [parked]; decide) unservedY
  have readout := takeReadoutSettings_spec c ((x.setGauges gs).setPorts ps)
  generalize takeReadoutSettings c ((x.setGauges gs).setPorts ps) = b at unservedB readout ⊢
  have ports : PortsTook w b := (unit.ports.congr (s' := w) rfl rfl).trans (took.trans readout.ports)
  obtain ⟨signals, pulse, dist, conv, switches, gaugesB⟩ := readout.blocks
  obtain ⟨cycle, store, pending⟩ := readout.units
  have storeW : b.store = w.store := store.trans unit.store
  have tachoW : (x.setGauges gs).tacho = w.tacho := unit.tacho
  refine {
    blocks := ⟨signals.trans unit.signals, dist.trans unit.dist, switches.trans unit.switches, pending.trans unit.pending⟩
    pulse := ?_, conv := ?_, store := ?_, gauges := fun k => ?_, lamps := unit.lamps.trans readout.lamps, unserved := unservedB
    tacho := ?_, cycle := ?_, defaults := ?_, conditions := fun d hd => ?_, ports := ports.timed rfl, notices := fun i h => ?_
    readout := fun h => ?_ }
  · show b.pulse.map _ = _
    rw [pulse]
    exact congrArg (Vector.map _) unit.pulse
  · show ({ b.conv with takeOver := true } : Converter) = _
    rw [conv]
    exact congrArg (fun v : Converter => { v with takeOver := true }) unit.conv
  · show ({ b.store with state := .loaded, programming := false } : ConfigStore) = _
    rw [storeW]
  · show b.gauges[k] = _
    have marks : x.store.gaugeMarks = w.store.gaugeMarks := congrArg ConfigStore.gaugeMarks unit.store
    have before : x.gauges[k] = w.gauges[k] := by rw [unit.gauges]; rfl
    rw [gaugesB, commits k, if_pos (List.mem_finRange k), marks, before]
  · show b.tacho = _
    rw [readout.tacho]
    exact congrArg (takenReadout c) unit.tacho
  · show ({ b.cycle with windowLength := c.timing.bulbMs, commitInFlight := false } : CycleController) = _
    rw [cycle]
    exact congrArg (fun v : CycleController => { v with windowLength := c.timing.bulbMs, commitInFlight := false }) unit.cycle
  · simp [closed, closeCommit]
  · simp only [List.mem_cons, List.not_mem_nil, or_false, not_or] at hd
    obtain ⟨defaults, failed, prewarn, limit⟩ := hd
    have later : (closed c b).cond d = b.cond d := by simp [closed, closeCommit, setTakeOvers, takeWindowLength, takeTimeouts, defaults]
    rw [later, readout.conditions d (by simp [failed, prewarn, limit])]
    exact unit.conditions d failed
  · exact (h.took ports).timed (c := c) rfl
  · exact (readout.item fun k => h (k.trans (congrArg Readout.remaining tachoW))).timed (c := c) rfl

/-! ## From the image in force to the bank -/

/-- The part with the new configuration in force, its table emptied, and the tolerance taken (R22, R57, R187). -/
def emptiedFor (c : Configuration) (s : State) : State :=
  let m := noticeAllEntries (emptyTable c.normal.descriptors (putInForce c s))
  m.setDist { m.dist with tolerance := c.normal.odoTolerance }

/-- What stands once the table has been emptied and all 64 entries reported (R24). -/
structure EmptiedFor (c : Configuration) (s e : State) : Prop where
  signals : e.signals = c.normal.descriptors.map Entry.emptied
  dist : e.dist = { s.dist with tolerance := c.normal.odoTolerance }
  store : e.store = (putInForce c s).store
  blocks : e.pulse = s.pulse ∧ e.conv = s.conv ∧ e.switches = s.switches ∧ e.gauges = s.gauges ∧ e.lamps = s.lamps ∧ e.tacho = s.tacho
  units : e.cycle = s.cycle ∧ e.conditions = s.conditions ∧ e.pending = s.pending
  ports : PortsTook s e
  told : ∀ i : Fin 64, noticed (signalItem i) e

theorem emptiedFor_spec (c : Configuration) (s : State) : EmptiedFor c s (emptiedFor c s) := by
  obtain ⟨⟨p, form⟩, took, told⟩ := noticeAllEntries_told (emptyTable c.normal.descriptors (putInForce c s))
  unfold emptiedFor
  rw [form] at took told ⊢
  have ports : PortsTook s ((emptyTable c.normal.descriptors (putInForce c s)).setPorts p) := took.congr rfl rfl
  exact ⟨rfl, rfl, rfl, ⟨rfl, rfl, rfl, rfl, rfl, rfl⟩, ⟨rfl, rfl, rfl⟩, ports, told⟩

/-! ## The whole of it -/

/-- What the end of a commit in PARKED makes of the part before a restart pending or the ignition level is looked at (R158, R188). -/
structure Committed (c : Configuration) (s z : State) : Prop where
  store : z.store =
    { s.store with
      image := s.store.staging, inForce := some c, state := .loaded, programming := false
      senderMarks := c.curves.map senderCurveValid, gaugeMarks := c.gauges.map fun d => gaugeCurveValid d.points }
  defaults : z.cond .configDefaults = false
  conditions : ∀ d, d ∉ [.configDefaults, .telltaleFailed, .tachoPrewarn, .tachoLimit] → z.cond d = s.cond d
  table : ∀ v : State, v.signals = c.normal.descriptors.map Entry.emptied → v.cycle.state ≠ .load →
    (deliverAll (redelivered c.normal.switches s.switches (List.finRange 24)) v).signals = z.signals
  entries : ∀ i : Fin 64, noticed (signalItem i) z
  readout : z.tacho.remaining ≠ s.tacho.remaining → noticed tachoItem z
  dist : z.dist = { s.dist with tolerance := c.normal.odoTolerance }
  bank : z.switches.settings = some c.normal.switches ∧
    ∀ k : Fin 24, z.switches.inputs[k] = s.switches.inputs[k].retimed c.normal.switches.debounceMs[k]
  unit : z.lamps.settings = some (lampSettings c.normal) ∧ z.lamps.slowOn = s.lamps.slowOn ∧ z.lamps.fastOn = s.lamps.fastOn
  telltales : ∀ i : Fin 40, z.lamps.telltales[i].patterns = keepPatterns c.normal.telltales[i].claims s.lamps.telltales[i].patterns ∧
    z.lamps.telltales[i].latches = c.normal.telltales[i].claims.map (Claim.firstLatch z) ∧
    z.lamps.telltales[i].fault = (if c.normal.telltales[i].render = .screen then .ok else s.lamps.telltales[i].fault) ∧
    z.lamps.telltales[i].retryTimer = if c.normal.telltales[i].render = .screen then .stopped else s.lamps.telltales[i].retryTimer
  chimes : ∀ i : Fin 8, z.lamps.chimes[i].portClaims = keepClaims c.normal.chimes[i].claims s.lamps.chimes[i].portClaims ∧
    z.lamps.chimes[i].latches = c.normal.chimes[i].claims.map (Claim.firstLatch z)
  unserved : Unserved z
  settings : ∀ k : Fin 6, z.gauges[k].settings = some (gaugeSettings c.normal (gaugeMarks c) k)
  resting : ∀ k : Fin 6, s.gauges[k].state = .unhomed ∨ s.gauges[k].state = .parked →
    z.gauges[k] = s.gauges[k].commit (gaugeSettings c.normal (gaugeMarks c) k)
  tacho : z.tacho = takenReadout c.normal s.tacho
  ports : PortsTimed c.normal s z
  pulse : z.pulse = s.pulse.map fun x => { x with takeOver := true }
  conv : z.conv = { s.conv with takeOver := true }
  cycle : z.cycle =
    { s.cycle with
      windowLength := c.normal.timing.bulbMs
      commitInFlight := false
      ignition := ignitionBehind (priorSettings c.normal s) c.normal.switches s.switches 23 s.cycle.ignition
      causeSwitch := s.cycle.causeSwitch ||
        (List.finRange 24).any fun k => c.normal.switches.wake[k] && repolarised (priorSettings c.normal s) c.normal.switches s.switches k }
  pending : z.pending = s.pending

theorem Telltale.commit_eq (d : TelltaleDesc) (x : Telltale) :
    (x.commit d).patterns = keepPatterns d.claims x.patterns ∧ (x.commit d).fault = (if d.render = .screen then .ok else x.fault) ∧
      (x.commit d).retryTimer = if d.render = .screen then .stopped else x.retryTimer := by
  unfold Telltale.commit
  dsimp only
  split <;> exact ⟨rfl, rfl, rfl⟩

theorem committed (c : Configuration) (s : State) (hc : s.cycle.state = .parked) (hf : s.cycle.commitInFlight = true) :
    Committed c s (closeCommit (handConfiguration c.normal (putInForce c s))) := by
  have stages : closeCommit (handConfiguration c.normal (putInForce c s)) = closed c.normal (takeReadoutSettings c.normal
    (commitGauges c.normal (settleUnits true (commitLampSettings c.normal (commitSwitches c.normal (emptiedFor c s)))))) := rfl
  rw [stages]
  have emptied := emptiedFor_spec c s
  generalize emptiedFor c s = e at emptied ⊢
  obtain ⟨pulse, conv, switches, gauges, lamps, tacho⟩ := emptied.blocks
  obtain ⟨cycle, conditions, pending⟩ := emptied.units
  have bank := commitSwitches_taken c.normal e (by rw [cycle]; exact hc) (by rw [cycle]; exact hf)
  generalize commitSwitches c.normal e = w at bank ⊢
  have kept := bank.kept
  obtain ⟨pulseW, distW, convW, tachoW, storeW, pendingW⟩ := kept.blocks
  have cycleW := bank.cycle
  have handed := handedOn c.normal w (by rw [cycleW, ← hc, ← cycle]; rfl)
  generalize closed c.normal (takeReadoutSettings c.normal
    (commitGauges c.normal (settleUnits true (commitLampSettings c.normal w)))) = z at handed ⊢
  obtain ⟨signalsZ, distZ, switchesZ, pendingZ⟩ := handed.blocks
  have prior : priorSettings c.normal e = priorSettings c.normal s := by rw [priorSettings, switches, priorSettings]
  have marks : w.store.gaugeMarks = gaugeMarks c := by
    rw [storeW]
    show e.store.gaugeMarks = _
    rw [emptied.store]
    rfl
  have claims := handed.lamps
  have latch : Claim.firstLatch z = Claim.firstLatch w := firstLatch_congr signalsZ
  have lampsW (i : Fin 40) : w.lamps.telltales[i].patterns = s.lamps.telltales[i].patterns ∧
      w.lamps.telltales[i].fault = s.lamps.telltales[i].fault ∧ w.lamps.telltales[i].retryTimer = s.lamps.telltales[i].retryTimer := by
    rw [← lamps]
    exact kept.telltales i
  refine {
    store := ?_, defaults := handed.defaults, conditions := fun d hd => ?_, table := fun v hv load => ?_
    entries := fun i => handed.notices _ ((emptied.told i).took kept.ports), readout := fun h => ?_, dist := ?_, bank := ?_, unit := ?_
    telltales := fun i => ?_, chimes := fun i => ?_, unserved := handed.unserved, settings := fun k => ?_, resting := fun k h => ?_
    tacho := ?_, ports := ?_, pulse := ?_, conv := ?_, cycle := ?_, pending := pendingZ.trans (pendingW.trans pending) }
  · rw [handed.store, storeW]
    show ({ e.store with state := .loaded, programming := false } : ConfigStore) = _
    rw [emptied.store]
    rfl
  · rw [handed.conditions d hd, kept.conditions d fun h => hd (by simp [h])]
    show e.cond d = _
    rw [State.cond, conditions, State.cond]
  · rw [signalsZ, ← bank.table v (hv.trans emptied.signals.symm) load]
    show _ = (deliverAll (redelivered c.normal.switches e.switches (List.finRange 24)) v).signals
    rw [switches]
  · refine handed.readout fun k => h (k.trans ?_)
    rw [tachoW]
    exact congrArg Readout.remaining tacho
  · rw [distZ, distW]
    exact emptied.dist
  · rw [switchesZ]
    refine ⟨bank.bank, fun k => ?_⟩
    rw [bank.inputs k, if_pos (List.mem_finRange k)]
    show e.switches.inputs[k].retimed _ = _
    rw [switches]
  · obtain ⟨slow, fast⟩ := kept.flashers
    refine ⟨claims.settings, claims.slowOn.trans (slow.trans ?_), claims.fastOn.trans (fast.trans ?_)⟩
    · exact congrArg TelltaleUnit.slowOn lamps
    · exact congrArg TelltaleUnit.fastOn lamps
  · obtain ⟨patterns, fault, retryTimer⟩ := lampsW i
    obtain ⟨latchesZ, patternsZ, faultZ, -, retryTimerZ⟩ := claims.telltales i
    obtain ⟨patternsC, faultC, retryTimerC⟩ := Telltale.commit_eq c.normal.telltales[i] w.lamps.telltales[i]
    have here : (committedLamps c.normal w).telltales[i] = { w.lamps.telltales[i].commit c.normal.telltales[i] with
        latches := c.normal.telltales[i].claims.map (Claim.firstLatch w) } := by
      simp [committedLamps]
    rw [patternsZ, latchesZ, faultZ, retryTimerZ, here, latch]
    dsimp only
    rw [patternsC, faultC, retryTimerC, patterns, fault, retryTimer]
    exact ⟨rfl, rfl, rfl, rfl⟩
  · obtain ⟨latchesZ, claimsZ⟩ := claims.chimes i
    have portClaims : w.lamps.chimes[i].portClaims = s.lamps.chimes[i].portClaims := by
      rw [← lamps]
      exact kept.portClaims i
    have here : (committedLamps c.normal w).chimes[i] = { w.lamps.chimes[i] with
        served := false
        portClaims := keepClaims c.normal.chimes[i].claims w.lamps.chimes[i].portClaims
        latches := c.normal.chimes[i].claims.map (Claim.firstLatch w) } := by
      simp [committedLamps]
    rw [latchesZ, claimsZ, here, latch]
    dsimp only
    rw [portClaims]
    exact ⟨rfl, rfl⟩
  · rw [handed.gauges k, Gauge.commit_settings, marks]
  · have rests : w.gauges[k] = s.gauges[k] := by
      rw [← gauges] at h ⊢
      exact kept.resting k h
    rw [handed.gauges k, rests, marks]
  · rw [handed.tacho, tachoW]
    exact congrArg (takenReadout c.normal) tacho
  · obtain ⟨rate, l, timed⟩ := handed.ports
    obtain ⟨rateW, m, took⟩ := emptied.ports.trans (kept.ports.congr (s' := e) rfl rfl)
    refine ⟨rate.trans rateW, m ++ l, fun p => ?_⟩
    rw [timed, took]
    simp only [PortState.takeAll, List.foldl_append]
  · rw [handed.pulse, pulseW]
    exact congrArg (Vector.map _) pulse
  · rw [handed.conv, convW]
    exact congrArg (fun v : Converter => { v with takeOver := true }) conv
  · rw [handed.cycle, cycleW, prior, if_pos (List.mem_finRange 23)]
    simp only [State.setSwitches_cycle, cycle]
    have levels : ∀ k, repolarised (priorSettings c.normal s) c.normal.switches
        (e.setSwitches { e.switches with settings := some c.normal.switches }).switches k =
        repolarised (priorSettings c.normal s) c.normal.switches s.switches k := fun k => repolarised_congr (by
      show e.switches.inputs[k].accepted = _
      rw [switches])
    have level : ignitionBehind (priorSettings c.normal s) c.normal.switches
        (e.setSwitches { e.switches with settings := some c.normal.switches }).switches 23 s.cycle.ignition =
        ignitionBehind (priorSettings c.normal s) c.normal.switches s.switches 23 s.cycle.ignition := ignitionBehind_congr (by
      show e.switches.inputs[(23 : Fin 24)].accepted = _
      rw [switches]) _
    rw [level]
    simp only [levels]

end

end Sys2Proof.Machine
end

section
/-! Proofs: the end of a commit: the part goes on, enters STARTING, or is restarted (R158, R161, R188). -/

namespace Sys2Proof.Machine

section
variable {s t u z : State} {c : Configuration}

/-! ## What the event's end, or an entry into STARTING, leaves of it -/

/-- From `z` to `t` the part has gone on, or has entered STARTING. -/
structure WentOn (z t : State) : Prop where
  blocks : t.signals = z.signals ∧ t.dist = z.dist ∧ t.switches = z.switches ∧ t.tacho = z.tacho ∧ t.store = z.store ∧ t.pulse = z.pulse ∧
    t.pending = z.pending
  conditions : ∀ d, d ≠ .telltaleFailed → t.cond d = z.cond d
  unit : t.lamps.settings = z.lamps.settings ∧ t.lamps.slowOn = z.lamps.slowOn ∧ t.lamps.fastOn = z.lamps.fastOn
  telltales : ∀ i : Fin 40, t.lamps.telltales[i].patterns = z.lamps.telltales[i].patterns ∧
    t.lamps.telltales[i].latches = z.lamps.telltales[i].latches
  chimes : ∀ i : Fin 8, t.lamps.chimes[i].portClaims = z.lamps.chimes[i].portClaims ∧ t.lamps.chimes[i].latches = z.lamps.chimes[i].latches
  unserved : Unserved t
  settings : ∀ k : Fin 6, t.gauges[k].settings = z.gauges[k].settings
  ports : PortsTook z t
  cycle : t.cycle.windowLength = z.cycle.windowLength ∧ t.cycle.commitInFlight = z.cycle.commitInFlight ∧
    t.cycle.restartPending = z.cycle.restartPending ∧ t.cycle.ignition = z.cycle.ignition

theorem unserved_finishEvent (before : State) (hc : s.cycle.state ≠ .run) (h : Unserved s) : Unserved (finishEvent before s) := by
  have settled := unserved_settleUnits true hc h
  unfold finishEvent cycleNotice
  split
  · exact settled
  · exact settled

theorem wentOn_finishEvent (before : State) (hc : z.cycle.state = .parked) (h : Unserved z) : WentOn z (finishEvent before z) := by
  have e := finishEvent_eventEnd before z
  refine ⟨⟨e.signals, e.dist, e.switches, e.tacho, e.store, e.pulse, e.pending⟩, e.conditions, ⟨e.lamps.settings, e.lamps.slowOn, e.lamps.fastOn⟩,
    fun i => ?_, fun i => ?_, unserved_finishEvent before (by rw [hc]; decide) h, fun k => by rw [e.gauges], e.ports, ?_⟩
  · obtain ⟨latches, patterns, -⟩ := e.lamps.telltales i
    exact ⟨patterns, latches⟩
  · obtain ⟨latches, claims⟩ := e.lamps.chimes i
    exact ⟨claims, latches⟩
  · rw [e.cycle]
    exact ⟨rfl, rfl, rfl, rfl⟩

theorem enterStarting_chimes (z : State) : (enterStarting z).lamps.chimes = z.lamps.chimes := by
  have started := startGauges_spec z.conv.supply (u := openCycle z) rfl rfl
  unfold enterStarting
  generalize startGauges z.conv.supply (openCycle z) = a at started ⊢
  obtain ⟨-, -, lampsA⟩ := started.moved.units
  obtain ⟨-, -, -, -, -, -, chimes⟩ := (newLampCycle_renewed (startConverter a)).moved.units
  rw [chimes]
  exact congrArg TelltaleUnit.chimes lampsA

theorem wentOn_starting {before : State} (entered : StartingEntered z (finishEvent before (enterStarting z))) (hc : z.cycle.state = .parked)
    (h : Unserved z) : WentOn z (finishEvent before (enterStarting z)) := by
  have unserved : Unserved (finishEvent before (enterStarting z)) := unserved_finishEvent before
    (by rw [enterStarting_state z (by rw [hc]; decide)]; decide) fun i => by rw [enterStarting_chimes]; exact h i
  generalize finishEvent before (enterStarting z) = t at entered unserved ⊢
  obtain ⟨signals, pulse, dist, switches, tacho, store, pending⟩ := entered.others
  refine ⟨⟨signals, dist, switches, tacho, store, pulse, pending⟩, entered.conditions, entered.unit, fun i => ?_, fun i => ?_, unserved, fun k => ?_,
    entered.ports, ?_⟩
  · obtain ⟨-, -, -, patterns, latches⟩ := entered.drivers i
    exact ⟨patterns, latches⟩
  · obtain ⟨latches, claims⟩ := entered.chimes i
    exact ⟨claims, latches⟩
  · rw [entered.gauges k, Gauge.start_settings]
  · rw [entered.cycle]
    exact ⟨rfl, rfl, rfl, rfl⟩

/-! ## The table -/

theorem DeliveredInTurn.marks {l : List (Source × Update)} (h : DeliveredInTurn l u t) (i : Fin 64) (marked : t.signals[i].disagree = true) :
    u.signals[i].disagree = true := by
  induction l generalizing u with
  | nil => rwa [← EventEnd.signals h]
  | cons p l ih =>
    obtain ⟨m, delivered, -, rest⟩ := h
    exact delivered.followed.marks i (ih rest)

theorem foldl_redelivered (new : SwitchSettings) (b : SwitchBank) : ∀ (l : List (Fin 24)) (e : Entry),
    l.foldl (fun e k => match b.inputs[k].accepted with
      | some l => e.afterUpdate (.switch k) (.value (if (l == .high) == new.polarity k then 1 else 0))
      | none => e) e = (redelivered new b l).foldl (fun e p => e.afterUpdate p.1 p.2) e
  | [], _ => rfl
  | k :: l, e => by
    rw [List.foldl_cons, foldl_redelivered new b l, redelivered_cons, List.foldl_append]
    cases hx : b.inputs[k].accepted with
    | none => simp [redelivered, -Fin.getElem_fin, hx]
    | some x => simp [redelivered, -Fin.getElem_fin, hx, levelUpdate, logicalOf]

/-- The table that the re-delivered levels fill (R22, R86). -/
theorem Committed.delivered (h : Committed c s z) (hc : s.cycle.state = .parked) :
    ∃ u m, (∀ i : Fin 64, u.signals[i] = Entry.emptied c.normal.descriptors[i]) ∧ u.cycle.state ≠ .load ∧
      DeliveredInTurn (redelivered c.normal.switches s.switches (List.finRange 24)) u m ∧ z.signals = m.signals ∧
      z.signals = (deliverAll (redelivered c.normal.switches s.switches (List.finRange 24)) u).signals := by
  have outside : (emptyTable c.normal.descriptors s).cycle.state ≠ .load := by
    show s.cycle.state ≠ .load
    rw [hc]
    decide
  have emptied (i : Fin 64) : (emptyTable c.normal.descriptors s).signals[i] = Entry.emptied c.normal.descriptors[i] := Vector.getElem_map ..
  have table := h.table (emptyTable c.normal.descriptors s) rfl outside
  generalize emptyTable c.normal.descriptors s = v at outside emptied table
  have delivered := deliveredInTurn_deliverAll (l := redelivered c.normal.switches s.switches (List.finRange 24)) v.conv.pass outside (.refl _)
  have same : setPass v.conv.pass v = v := rfl
  rw [same] at delivered
  exact ⟨v, _, emptied, outside, delivered, table.symm, table.symm⟩

/-! ## Polarities -/

theorem logicalOf_ne (a b : Bool) (l : Level) : (logicalOf a l != logicalOf b l) = decide (a ≠ b) := by
  cases a <;> cases b <;> cases l <;> rfl

theorem repolarised_prior (c : Configuration) (s : State) (k : Fin 24) :
    repolarised (priorSettings c s) c.switches s.switches k =
      (s.switches.inputs[k].accepted.isSome && s.switches.settings.any fun old => decide (old.polarity k ≠ c.switches.polarity k)) := by
  unfold repolarised priorSettings
  cases s.switches.inputs[k].accepted with
  | none => rfl
  | some l =>
    rw [Option.any_some, logicalOf_ne]
    cases s.switches.settings with
    | none => simp
    | some old => rfl

theorem ignitionBehind_prior (c : Configuration) (s : State) (on : Bool) :
    ignitionBehind (priorSettings c s) c.switches s.switches 23 on =
      (match s.switches.settings, s.switches.inputs[(23 : Fin 24)].accepted with
      | some old, some l => if old.polarity 23 = c.switches.polarity 23 then on else (l == .high) == c.switches.polarity 23
      | some _, none | none, _ => on) := by
  unfold ignitionBehind
  rw [repolarised_prior]
  cases s.switches.settings with
  | none => simp
  | some old =>
    cases s.switches.inputs[(23 : Fin 24)].accepted with
    | none => simp
    | some l => by_cases h : old.polarity 23 = c.switches.polarity 23 <;> simp [h, logicalOf]

/-! ## A restart behind the commit -/

theorem finishEvent_reset {before : State} (hl : u.lamps.settings = none) (hw : ∀ p, (u.port p).watch = .replicate 113 false) :
    finishEvent before u = u := by
  have settled : settleUnits true u = u := by simp only [settleUnits, settleLamps, settleChimes, hl]
  have silent (p : Port) : PortState.notice cycleItem (u.port p) = u.port p := by
    unfold PortState.notice
    rw [if_neg]
    simp [hw p]
  have unlisted : raiseItem cycleItem u = u := by
    have dlink : PortState.notice cycleItem u.ports.dlink = u.ports.dlink := silent .dlink
    have nlink : PortState.notice cycleItem u.ports.nlink = u.ports.nlink := silent .nlink
    have tlink : PortState.notice cycleItem u.ports.tlink = u.ports.tlink := silent .tlink
    unfold raiseItem mapPorts
    rw [dlink, nlink, tlink]
    rfl
  unfold finishEvent cycleNotice
  rw [settled, unlisted, ite_self]

end

end Sys2Proof.Machine
end

section
/-! Proofs: COMMIT_END as the statement spells it (R24, R43, R77, R86, R90, R108, R133, R147, R158, R161, R188). -/

namespace Sys2Proof.Machine

section
variable {s t u z : State} {c : Configuration}

theorem Gauge.commit_reset {gs : GaugeSettings} {g : Gauge} (hp : g.state = .parked)
    (h : ∀ old, g.settings = some old → old.desc.fullScale ≠ gs.desc.fullScale ∨ old.desc.park ≠ gs.desc.park) :
    g.commit gs = { Gauge.reset with settings := some gs } := by
  have moved : (g.settings.any fun old => old.desc.fullScale = gs.desc.fullScale && old.desc.park = gs.desc.park) = false := by
    cases hs : g.settings with
    | none => rfl
    | some old => rcases h old hs with k | k <;> simp [k]
  exact if_pos ⟨hp, moved⟩

theorem Gauge.commit_kept {gs : GaugeSettings} {g : Gauge}
    (h : g.state = .unhomed ∨ ∃ old, g.settings = some old ∧ old.desc.fullScale = gs.desc.fullScale ∧ old.desc.park = gs.desc.park) :
    g.commit gs = { g with settings := some gs } := by
  refine if_neg fun ⟨parked, moved⟩ => ?_
  rcases h with h | ⟨old, hs, scale, park⟩
  · rw [h] at parked
    exact nomatch parked
  · simp [hs, scale, park] at moved

theorem gaugeSettings_marks (c : Configuration) (i : Fin 6) :
    gaugeSettings c.normal (gaugeMarks c) i = { desc := c.normal.gauges[i], curveValid := gaugeCurveValid c.gauges[i].points } := by
  have mark : (gaugeMarks c)[i] = gaugeCurveValid c.gauges[i].points := Vector.getElem_map ..
  rw [gaugeSettings, mark]

theorem keepPatterns_of (claims : Vector Claim 4) (x : PortPatterns) (p : Port) :
    (keepPatterns claims x).of p = if .port p ∈ claims.toList then x.of p else .off := by
  cases p <;> simp [keepPatterns, PortPatterns.of]

theorem keepClaims_of (claims : Vector Claim 2) (x : PortClaims) (p : Port) :
    (keepClaims claims x).of p = (decide (.port p ∈ claims.toList) && x.of p) := by
  cases p <;> simp [keepClaims, PortClaims.of, Bool.and_comm]

theorem onCommitEnd_eq (h : s.store.state = .committing) (hp : s.store.programming = true) (hc : parseImage s.store.staging = some c) :
    onCommitEnd s = afterCommit (closeCommit (handConfiguration c.normal (putInForce c s))) := by
  unfold onCommitEnd commitEnd
  rw [if_pos ⟨h, hp⟩, hc]

theorem Committed.latched (h : Committed c s z) (k : WentOn z t) : LatchedAfresh c.normal t := by
  have signals := k.blocks.1
  refine ⟨fun i j => Claim.latchedAfresh_map (s := z) signals ?_ j, fun i j => Claim.latchedAfresh_map (s := z) signals ?_ j⟩
  · obtain ⟨-, latches⟩ := k.telltales i
    exact latches.trans (h.telltales i).2.1
  · obtain ⟨-, latches⟩ := k.chimes i
    exact latches.trans (h.chimes i).2

/-! ## The part goes on -/

/-- What a part that has gone on, or has entered STARTING, has to show for it. -/
structure CommitDone (s z t : State) : Prop where
  went : WentOn z t
  told : Announces s t
  view : noticed cycleItem t
  stays : z.cycle.ignition = false → EventEnd z t
  starts : z.cycle.ignition = true → StartingEntered z t

theorem commitDone (whole : Committed c s z) (hc : s.cycle.state = .parked) (hf : s.cycle.commitInFlight = true)
    (hr : s.cycle.restartPending = false) (told : Announces s (afterCommit z)) : CommitDone s z (finishEvent s (afterCommit z)) := by
  have parked : z.cycle.state = .parked := by rw [whole.cycle]; exact hc
  have pending : z.cycle.restartPending = false := by rw [whole.cycle]; exact hr
  have ended : z.cycle.commitInFlight = false := by rw [whole.cycle]
  have told := told.trans (announces_finishEvent (afterCommit z) s)
  have view := finishEvent_noticed (before := s) (s := afterCommit z)
  have goesOn (e : afterCommit z = if z.cycle.ignition then enterStarting z else z) : CommitDone s z (finishEvent s (afterCommit z)) := by
    have went : WentOn z (finishEvent s (afterCommit z)) ∧ (z.cycle.ignition = false → EventEnd z (finishEvent s (afterCommit z))) ∧
        (z.cycle.ignition = true → StartingEntered z (finishEvent s (afterCommit z))) := by
      rw [e]
      cases on : z.cycle.ignition with
      | false =>
        rw [if_neg Bool.false_ne_true]
        exact ⟨wentOn_finishEvent s parked whole.unserved, fun _ => finishEvent_eventEnd s z, nofun⟩
      | true =>
        have entered := startingEntered s z (by rw [hc]; decide)
        rw [if_pos rfl]
        exact ⟨wentOn_starting entered parked whole.unserved, nofun, fun _ => entered⟩
    obtain ⟨went, stays, starts⟩ := went
    refine ⟨went, told, view fun same => ?_, stays, starts⟩
    have flight : (finishEvent s (afterCommit z)).cycle.commitInFlight = s.cycle.commitInFlight := congrArg CycleView.commitInFlight same
    rw [went.cycle.2.1, ended, hf] at flight
    exact nomatch flight
  refine goesOn ?_
  unfold afterCommit
  rw [pending]
  exact if_neg Bool.false_ne_true

theorem CommitDone.state (h : CommitDone s z t) (hc : z.cycle.state = .parked) : t.cycle.state = if t.cycle.ignition then .starting else .parked := by
  rw [h.went.cycle.2.2.2]
  cases on : z.cycle.ignition with
  | false => rw [if_neg Bool.false_ne_true, (h.stays on).cycle, hc]
  | true => rw [if_pos rfl, (h.starts on).cycle]

/-- The entries and the deliveries that made them. -/
theorem Committed.entriesKept (h : Committed c s z) (hc : s.cycle.state = .parked) (i : Fin 64) :
    EntryKept ((redelivered c.normal.switches s.switches (List.finRange 24)).foldl (fun e p => e.afterUpdate p.1 p.2)
      (Entry.emptied c.normal.descriptors[i])) z.signals[i] ∧ z.signals[i].disagree = false := by
  obtain ⟨u, m, emptied, outside, delivered, same, table⟩ := h.delivered hc
  constructor
  · rw [table]
    exact deliverAll_entries outside (by rw [emptied i]; exact .refl _)
  · rw [same]
    by_contra k
    have marked := delivered.marks i (by simpa using k)
    rw [emptied i] at marked
    exact nomatch marked

/-! ## A restart pending -/

theorem deliverAll_desc (l : List (Source × Update)) (i : Fin 64) : (deliverAll l s).signals[i].desc = s.signals[i].desc := by
  induction l generalizing s with
  | nil => rfl
  | cons p l ih =>
    rw [deliverAll_cons, ih]
    exact (deliver_table p.1 p.2 s).descriptors i

theorem Committed.desc (h : Committed c s z) (hc : s.cycle.state = .parked) (i : Fin 64) : z.signals[i].desc = c.normal.descriptors[i] := by
  obtain ⟨u, m, emptied, -, -, -, table⟩ := h.delivered hc
  rw [table, deliverAll_desc, emptied i]
  rfl

theorem restart_port (z : State) (p : Port) :
    (restart z).port p = { State.reset.port p with
      timeout := (z.port p).timeout
      period := if (z.port p).period = .idle then .idle else .discarded } := by
  cases p <;> simp only [← Period.afterReset_eq] <;> rfl

/-- The port of a part that was restarted behind a commit (R180, R188). -/
theorem Committed.restartedPort (h : Committed c s z) (p : Port) :
    (restart z).port p = { State.reset.port p with
      timeout := c.normal.timing.timeout p
      period := if (s.port p).period = .idle then .idle else .discarded } := by
  obtain ⟨-, l, timed⟩ := h.ports
  have period : (z.port p).period = (s.port p).period := by
    rw [timed p]
    exact (PortState.takeAll_kept l _).period
  have timeout : (z.port p).timeout = c.normal.timing.timeout p := by rw [timed p]
  rw [restart_port, period, timeout]

theorem Committed.restartedConditions (h : Committed c s z) (d : Condition) :
    (restart z).cond d = (decide (d = .odoMismatch) && s.cond d) := by
  rw [cond_restart_eq]
  by_cases defaults : d = .configDefaults
  · subst defaults
    simp [h.defaults]
  · by_cases mismatch : d = .odoMismatch
    · subst mismatch
      simp [h.conditions]
    · simp [defaults, mismatch]

end

/-- Settles O49: the stages of the commit one behind the other (`committed`), and then the event's end, an entry into STARTING, or the restart. -/
theorem commitEnds : Obligations.CommitEnds := by
  refine ⟨fun c s hs hp hc parked flight waits => ?_, fun c s hs hp hc parked flight waits => ?_⟩
  · intro new
    have whole := committed c s parked flight
    have told := announces_onCommitEnd s
    have step : exec .commitEnd s = .next (complete s (onCommitEnd s)) := rfl
    rw [onCommitEnd_eq hs hp hc] at told step
    generalize closeCommit (handConfiguration c.normal (putInForce c s)) = z at whole told step
    refine completes_finish step ?_
    have done := commitDone whole parked flight waits told
    have state := done.state (by rw [whole.cycle]; exact parked)
    generalize finishEvent s (afterCommit z) = t at done state ⊢
    have went := done.went
    obtain ⟨signals, dist, switches, tacho, store, pulse, pending⟩ := went.blocks
    obtain ⟨windowLength, commitInFlight, restartPending, ignition⟩ := went.cycle
    obtain ⟨u, m, emptied, -, delivered, same, -⟩ := whole.delivered parked
    have cond (d : Condition) (hd : d ≠ .telltaleFailed) := went.conditions d hd
    refine ⟨store.trans whole.store, (cond _ (by decide)).trans whole.defaults, fun d hd => ?_, fun i => ?_,
      fun i => (whole.entries i).took went.ports, fun i => ?_, ⟨u, m, emptied, delivered, signals.trans same⟩, done.view, fun h => ?_,
      done.told.gauges, done.told.lamps, dist.trans whole.dist, ?_, ?_, fun i => ?_, tacho.trans whole.tacho, whole.ports.took went.ports, fun i => ?_,
      ?_, ?_, ?_, ?_, state, ?_, pending.trans whole.pending⟩
    · exact (cond d fun e => hd (by simp [e])).trans (whole.conditions d hd)
    · have kept := (whole.entriesKept parked i).1
      rw [← foldl_redelivered] at kept
      rw [signals]
      exact kept
    · rw [signals]
      exact (whole.entriesKept parked i).2
    · exact (whole.readout (by rwa [tacho] at h)).took went.ports
    · rw [switches]
      exact whole.bank
    · obtain ⟨settings, slow, fast⟩ := went.unit
      obtain ⟨settingsZ, slowZ, fastZ⟩ := whole.unit
      refine ⟨settings.trans settingsZ, slow.trans slowZ, fast.trans fastZ, fun i p => ?_, fun i p => ?_, whole.latched went, went.unserved⟩
      · rw [(went.telltales i).1, (whole.telltales i).1, keepPatterns_of]
      · rw [(went.chimes i).1, (whole.chimes i).1, keepClaims_of]
    · exact (went.settings i).trans ((whole.settings i).trans (congrArg some (gaugeSettings_marks c i)))
    · rw [pulse, whole.pulse]
      exact Vector.getElem_map ..
    · rw [windowLength, whole.cycle]
    · rw [commitInFlight, whole.cycle]
    · rw [restartPending, whole.cycle]
      exact waits
    · rw [ignition, whole.cycle]
      exact ignitionBehind_prior c.normal s s.cycle.ignition
    · intro repol stands
      have standsOf (v : State) (conv : v.conv = z.conv) (cycle : v.cycle = z.cycle) (gauges : v.gauges = z.gauges)
          (faults : ∀ i : Fin 40, v.lamps.telltales[i].fault = z.lamps.telltales[i].fault ∧
            v.lamps.telltales[i].retryTimer = z.lamps.telltales[i].retryTimer) : stands v := by
        have cause : v.cycle.causeSwitch = (s.cycle.causeSwitch || (List.finRange 24).any fun k => new.switches.wake[k] && repol k) := by
          rw [cycle, whole.cycle]
          simp only [repolarised_prior]
          rfl
        refine ⟨conv.trans whole.conv, ⟨by rw [cycle, whole.cycle], fun woken => by rw [cause, woken, Bool.true_or], by rw [cycle, whole.cycle]⟩,
          cause, fun i => ?_, fun rest i => ?_⟩
        · obtain ⟨-, -, fault, retryTimer⟩ := whole.telltales i
          exact ⟨(faults i).1.trans fault, (faults i).2.trans retryTimer⟩
        · intro gs
          have commits := whole.resting i (rest i)
          rw [gaugeSettings_marks] at commits
          have reset : State.reset.gauges[i] = Gauge.reset := vector_replicate_get _ i
          rw [gauges, commits, reset]
          exact ⟨Gauge.commit_reset, Gauge.commit_kept⟩
      rw [ignition]
      refine ⟨fun off => ?_, fun on => ⟨z, standsOf z rfl rfl rfl fun _ => ⟨rfl, rfl⟩, done.starts on⟩⟩
      have e := done.stays off
      refine standsOf t e.conv e.cycle e.gauges fun i => ?_
      obtain ⟨-, -, fault, -, retryTimer⟩ := e.lamps.telltales i
      exact ⟨fault, retryTimer⟩
  · have whole := committed c s parked flight
    have step : exec .commitEnd s = .next (complete s (onCommitEnd s)) := rfl
    rw [onCommitEnd_eq hs hp hc] at step
    generalize closeCommit (handConfiguration c.normal (putInForce c s)) = z at whole step
    have pending : z.cycle.restartPending = true := by
      rw [whole.cycle]
      exact waits
    have restarted : afterCommit z = restart z := if_pos pending
    have still : finishEvent s (restart z) = restart z := finishEvent_reset rfl fun p => by rw [restart_port]; cases p <;> rfl
    rw [restarted] at step
    refine completes_finish step ?_
    rw [still]
    obtain ⟨-, slow, fast⟩ := whole.unit
    refine ⟨whole.store, fun i => ?_, ?_, ?_, rfl, rfl, rfl, rfl, ?_, ⟨rfl, fun i => ?_⟩, whole.restartedConditions, whole.ports.1,
      whole.restartedPort, whole.pending⟩
    · have here : (restart z).signals[i] = Entry.emptied z.signals[i].desc := Vector.getElem_map ..
      rw [here, whole.desc parked i]
    · show ({ z.dist with parityOdd := false } : Distance) = _
      rw [whole.dist]
    · show CycleController.reset z.cycle.windowLength = _
      rw [whole.cycle]
      rfl
    · show TelltaleUnit.reset z.lamps.slowOn z.lamps.fastOn = _
      rw [slow, fast]
      rfl
    · have here : (restart z).switches.inputs[i] = SwitchInput.reset z.switches.inputs[i].raw := Vector.getElem_map ..
      rw [here, whole.bank.2 i]
      rfl

end Sys2Proof.Machine
end
